-- ==== Sys2Proof/Word.lean ====
section
/-! DEFINITION. The words of the 6C384 (bytes of frames, 48-bit times) and the fixed tables its records stand in. -/

namespace Sys2Proof

/-- One data byte of a CAN FD frame (11.7). -/
abbrev Byte := BitVec 8

/-- A scene time or a local time: a count of microseconds modulo 2^48 (R78, R80). -/
abbrev Time := BitVec 48

/-- The table of `n` records whose record `i` is `f i`. -/
def tabulate {α : Type} {n : Nat} (f : Fin n → α) : Vector α n :=
  ⟨⟨(List.finRange n).map f⟩, by simp⟩

/-- The table with record `i` replaced by `x`. -/
def setAt {α : Type} {n : Nat} (v : Vector α n) (i : Fin n) (x : α) : Vector α n :=
  v.set i x i.isLt

/-- The table with record `i` changed by `f`. -/
def modAt {α : Type} {n : Nat} (v : Vector α n) (i : Fin n) (f : α → α) : Vector α n :=
  setAt v i (f v[i])

/-- The table with every record changed by `f`. -/
def mapAt {α β : Type} {n : Nat} (v : Vector α n) (f : Fin n → α → β) : Vector β n :=
  tabulate fun i => f i v[i]

end Sys2Proof
end

