-- ==== Sys2Proof/Syntax.lean ====
section
/-! DEFINITION. The commands the block takes: one constructor of `Instr` for each row of spec/opcode_table.json,
and the names their operands are given in. -/

namespace Sys2Proof

/-- The four origins, numbered 0 to 3 (00_scope.md 1, 8.1). -/
inductive Origin where
  | body | media | assist | service
  deriving DecidableEq, Repr

/-- The two CAN FD channels, CA 0 and CB 1 (R174, 11.7). -/
inductive Chan where
  | ca | cb
  deriving DecidableEq, Repr

/-- What kind of frame the bus carried: an 11-bit data frame in classic CAN or CAN FD format, an extended-format
frame, or a remote frame (R174). -/
inductive FrameFormat where
  | data11 | extended | remote
  deriving DecidableEq, Repr

/-- The two error events that move a channel's counters (R175). -/
inductive ErrorKind where
  | transmit | receive
  deriving DecidableEq, Repr

/-- One mark for each of red, green and blue (R150, R163). -/
structure ColourMask where
  r : Bool
  g : Bool
  b : Bool
  deriving DecidableEq, Repr

/-- The status word a queried node appends (R150): temperature in degrees C, OPEN marks and SHORT marks. -/
structure StatusWord where
  temp : Int
  openMarks : ColourMask
  shortMarks : ColourMask
  deriving DecidableEq, Repr

/-- A return as the Loop Controller received it: whether its check word agrees (found at each return as it comes,
R151), its hop counter, and the status word it carries, if any. -/
structure LoopReturn where
  checkGood : Bool
  hops : Nat
  status : Option StatusWord
  deriving DecidableEq, Repr

abbrev LoopNo := Fin 6
abbrev LineNo := Fin 8
abbrev CueNo := Fin 24
abbrev LayerNo := Fin 16
abbrev ZoneNo := Fin 32
abbrev QueueNo := Fin 2
abbrev SlotNo := Fin 16
abbrev FlagNo := Fin 32
abbrev LampNo := Fin 384
abbrev WatchNo := Fin 4
abbrev BinNo := Fin 16
abbrev BindNo := Fin 24

/-- The commands, in the table's order. A request row names the origin whose intake queue it is taken from: its
fields are the bytes of the request at the front of that queue (R177, R178). -/
inductive Instr where
  /-- POWER_ON, with the strap pins' value and the raw levels of TR0 to TR7. -/
  | powerOn (strap : Fin 8) (raw : BitVec 8)
  /-- RESET_PIN_ASSERT -/
  | resetPinAssert
  /-- RESET_PIN_RELEASE, with the strap pins' value. -/
  | resetPinRelease (strap : Fin 8)
  /-- FRAME_RECEIVED: the channel, the frame's format and identifier, its data bytes. -/
  | frameReceived (ch : Chan) (fmt : FrameFormat) (ident : Nat) (data : List Byte)
  /-- REQUEST_UNKNOWN_KIND -/
  | requestUnknownKind (o : Origin)
  /-- SET_ORIGIN -/
  | setOrigin (o : Origin)
  /-- SET_ZONE -/
  | setZone (o : Origin)
  /-- CLEAR_ZONE -/
  | clearZone (o : Origin)
  /-- SET_BIN -/
  | setBin (o : Origin)
  /-- SET_LAMP_BIN -/
  | setLampBin (o : Origin)
  /-- SET_CHAIN -/
  | setChain (o : Origin)
  /-- SET_LINE -/
  | setLine (o : Origin)
  /-- SET_FLAG_OWNER -/
  | setFlagOwner (o : Origin)
  /-- SET_GLARE -/
  | setGlare (o : Origin)
  /-- SET_FRAME -/
  | setFrame (o : Origin)
  /-- SET_WATCH -/
  | setWatch (o : Origin)
  /-- WRITE_PATTERN -/
  | writePattern (o : Origin)
  /-- DEFINE_PATTERN -/
  | definePattern (o : Origin)
  /-- DELETE_PATTERN -/
  | deletePattern (o : Origin)
  /-- WRITE_KEYS -/
  | writeKeys (o : Origin)
  /-- DEFINE_CUE -/
  | defineCue (o : Origin)
  /-- DELETE_CUE -/
  | deleteCue (o : Origin)
  /-- BIND -/
  | bind (o : Origin)
  /-- UNBIND -/
  | unbind (o : Origin)
  /-- TIME_QUERY -/
  | timeQuery (o : Origin)
  /-- SET_CLOCK -/
  | setClock (o : Origin)
  /-- TRIM_CLOCK -/
  | trimClock (o : Origin)
  /-- READ_STATUS -/
  | readStatus (o : Origin)
  /-- SUBSCRIBE -/
  | subscribe (o : Origin)
  /-- READ_CAPTURE -/
  | readCapture (o : Origin)
  /-- OPEN_LAYER -/
  | openLayer (o : Origin)
  /-- EDIT_LAYER -/
  | editLayer (o : Origin)
  /-- SHOW_LAYER -/
  | showLayer (o : Origin)
  /-- HIDE_LAYER -/
  | hideLayer (o : Origin)
  /-- CLOSE_LAYER -/
  | closeLayer (o : Origin)
  /-- GATE_CLOSE -/
  | gateClose (o : Origin)
  /-- GATE_OPEN -/
  | gateOpen (o : Origin)
  /-- START_CUE -/
  | startCue (o : Origin)
  /-- STOP_CUE -/
  | stopCue (o : Origin)
  /-- STREAM_FRAME -/
  | streamFrame (o : Origin)
  /-- HOLD_ZONE -/
  | holdZone (o : Origin)
  /-- RELEASE_ZONE -/
  | releaseZone (o : Origin)
  /-- SET_FLAGS -/
  | setFlags (o : Origin)
  /-- TRIGGER -/
  | trigger (o : Origin)
  /-- CLEAR_HEALTH -/
  | clearHealth (o : Origin)
  /-- FORGET -/
  | forget (o : Origin)
  /-- ENTER_RUN -/
  | enterRun (o : Origin)
  /-- ENTER_SETUP -/
  | enterSetup (o : Origin)
  /-- SLEEP -/
  | sleep (o : Origin)
  /-- RESTART -/
  | restart (o : Origin)
  /-- TRIM_CORRECTION -/
  | trimCorrection
  /-- FRAME_START -/
  | frameStart
  /-- CUE_NATURAL_END -/
  | cueNaturalEnd (c : CueNo)
  /-- CUE_RELEASE_END -/
  | cueReleaseEnd (c : CueNo)
  /-- STREAM_STALE -/
  | streamStale (q : QueueNo)
  /-- HOLDOFF_END -/
  | holdoffEnd (l : LoopNo)
  /-- COMPOSE_COMPLETE -/
  | composeComplete
  /-- QUIET_THRESHOLD -/
  | quietThreshold (l : LoopNo)
  /-- LOOP_RETURN_RECEIVED, with what was received. -/
  | loopReturnReceived (l : LoopNo) (ret : LoopReturn)
  /-- LOOP_RETURN_TIMEOUT -/
  | loopReturnTimeout (l : LoopNo)
  /-- LOOP_FAILED: the judgement, of a received return or (`none`) of a timeout, that takes the loop to FAILED. -/
  | loopFailed (l : LoopNo) (ret : Option LoopReturn)
  /-- GATE_EXPIRY -/
  | gateExpiry (o : Origin)
  /-- LINE_RAW_CHANGE: the line and its raw level from now on. -/
  | lineRawChange (t : LineNo) (level : Bool)
  /-- LINE_CHANGE_ACCEPTED -/
  | lineChangeAccepted (t : LineNo)
  /-- SETTLE -/
  | settle
  /-- WAKE_COMPLETION -/
  | wakeCompletion
  /-- FRAME_TRANSMIT_START -/
  | frameTransmitStart (ch : Chan)
  /-- FRAME_TRANSMITTED -/
  | frameTransmitted (ch : Chan)
  /-- CHANNEL_ERROR -/
  | channelError (ch : Chan) (kind : ErrorKind)
  /-- CHANNEL_RECOVERY -/
  | channelRecovery (ch : Chan)
  /-- LOOP_BURST_END -/
  | loopBurstEnd (l : LoopNo)
  deriving DecidableEq, Repr

end Sys2Proof
end

