-- ==== Sys2Proof/Decode.lean ====
section
/-! DEFINITION. Decoding of table words: no row of spec/opcode_table.json gives any bits, so a word spells no
command. (The byte layouts of requests, 11.7, are decoded and encoded in Machine/Operands.lean.) -/

namespace Sys2Proof

/-- The command a word spells by the table's bits. The 71 rows give no bits. -/
def decodeTableWord (_nbits _w : Nat) : Option Instr := none

end Sys2Proof
end

