-- ==== Sys2Proof/Config.lean ====
section
/-! DEFINITION. The free values of the model: values the spec does not state after a step that goes on. -/

namespace Sys2Proof

/-- FREE VALUE (log entry 5). The own COLOR of a layer whose live source is not SOLID, where a broken COLOR
track asks for it (R109, R110): the spec gives such a layer no own colour. The three 16-bit channels, for the
free-value counter's present value. -/
opaque Config.colourWithoutSolid : Nat → BitVec 48

/-- FREE VALUE (log entry 7). Whether an AUTO_SHOW byte other than 0 and 1 means yes: R96 takes the flag's
full field width and 11.7 gives 0 as no and 1 as yes. -/
opaque Config.autoShowOther : Byte → Bool

/-- FREE VALUE (log entry 22). A channel of a release crossfade where R111's formula gives a number outside the range of
its target, which it can do at a frame start whose frame time lies before the release start. For the free-value counter's
present value, the layer's number, and the place of the target's channel. -/
opaque Config.releaseOutOfRange : Nat → Nat → Nat → BitVec 16

end Sys2Proof
end

