-- ==== Sys2Proof/Machine/State.lean ====
section
/-! DEFINITION. The state of the 6C384, block by block (00_scope.md 3), as plain data, and its reset values. -/

namespace Sys2Proof.Machine

/-- The spec names no fault that stops the part (INVENTORY.md, Faults): no meaning raises one. -/
inductive Fault where
  deriving DecidableEq, Repr

/-- Why a command has no meaning. -/
inductive Refusal where
  /-- Raised by an arm of `exec` for a command the model has not reached; safe, since nothing is proved of it. No arm
  raises it now. -/
  | notModelled (mnemonic : String)
  deriving DecidableEq, Repr

/-! ## Shared shapes -/

/-- A linear-light colour, each channel 0 to 65535 (00_scope.md 6). Also used for gains, coefficients and drive
codes, which have a value for each of the three channels. -/
structure Rgb where
  r : Nat
  g : Nat
  b : Nat
  deriving DecidableEq, Repr

/-- The colour with each channel 0. -/
def Rgb.zero : Rgb := ⟨0, 0, 0⟩

/-- Tiers 0 BASE, 1 MOOD, 2 ACCENT, 3 WELCOME, 4 ALERT, 5 OVERRIDE (00_scope.md 5). -/
abbrev Tier := Fin 6

/-- The sense of a flag reference (R26, 11.7). -/
inductive Sense where
  | set | clear
  deriving DecidableEq, Repr

/-- A condition flag and the value at which the reference holds. A qualifier is an `Option FlagRef`: `none` is
ALWAYS (R26). A glare reference is one too: `none` is absent (R68). -/
structure FlagRef where
  flag : FlagNo
  sense : Sense
  deriving DecidableEq, Repr

/-- A buffer of numbered entries: the listed entries differ from the reset entry, numbers strictly rising. -/
abbrev Store (α : Type) := List (Nat × α)

/-- The canonical form of a buffer whose unlisted entries read as `d`. -/
def Store.wf {α : Type} [DecidableEq α] (d : α) : Store α → Bool
  | [] => true
  | [(_, x)] => x != d
  | (i, x) :: (j, y) :: rest => x != d && decide (i < j) && Store.wf d ((j, y) :: rest)

/-! ## Part State (12) -/

/-- The part state (R188). -/
inductive PartState where
  | setup | run | settling | asleep | waking
  deriving DecidableEq, Repr

/-- Part State: the part state, whether the RESET pin is asserted (R193), and the local time of the wake event
while WAKING (R80, R192). -/
structure PartBlock where
  state : PartState
  resetHeld : Bool
  wakeSince : Option Time
  deriving DecidableEq, Repr

/-! ## Scene Clock (05) -/

/-- The trim corrector's sense (R81). -/
inductive TrimSense where
  | add | subtract
  deriving DecidableEq, Repr

/-- MODEL's own (log entry 3): frame time and local time of the latest frame start, at which the rows of a cue's natural end
and release end are judged. -/
structure FrameMark where
  frameTime : Time
  local' : Time
  deriving DecidableEq, Repr

/-- Scene Clock: both clocks (R78, R80), the trim corrector (R81), the frame timer (R87). `periodSet` is the period
that SET_FRAME gave, in force from the next frame start (R89). `lastFrame` is the MODEL's own. -/
structure ClockBlock where
  scene : Time
  local' : Time
  trim : BitVec 24
  sense : TrimSense
  acc : BitVec 24
  period : Nat
  periodSet : Nat
  nextFrame : Option Time
  lastFrame : Option FrameMark
  deriving DecidableEq, Repr

/-! ## Message Ports (11) -/

/-- A request in an intake queue (R177). -/
structure Intake where
  data : List Byte
  stamp : Time
  chan : Chan
  deriving DecidableEq, Repr

/-- A frame in a transmit queue (R182): its bytes, the channel a reply is bound to (`none` for a notice), and the
channel on which its transmission has begun (R183). -/
structure TxFrame where
  bytes : List Byte
  bound : Option Chan
  sendingOn : Option Chan
  deriving DecidableEq, Repr

/-- What MP holds for one origin (11 opening, R176, R177, R182, R184). -/
structure Port where
  intake : List Intake
  tx : List TxFrame
  home : Chan
  lost : Bool
  noticesLost : Bool
  mask : BitVec 10
  deriving DecidableEq, Repr

/-- The error counters of one channel controller (R175); its state follows them at once (`Channel.state`). -/
structure Channel where
  txErrors : Nat
  rxErrors : Nat
  deriving DecidableEq, Repr

/-- Message Ports. -/
structure PortsBlock where
  strap : Fin 8
  ca : Channel
  cb : Channel
  ports : Vector Port 4
  deriving DecidableEq, Repr

/-! ## Origin Table (08) -/

/-- A grant window (R135). The fields of a disabled window are stored as given (R136). -/
structure Window where
  enabled : Bool
  first : Nat
  last : Nat
  deriving DecidableEq, Repr

/-- An origin record (R135). -/
structure OriginRec where
  maxTier : Tier
  reserve : Nat
  limit : Nat
  windows : Vector Window 4
  keyFirst : Nat
  keyLast : Nat
  patFirst : Nat
  patLast : Nat
  deriving DecidableEq, Repr

/-- A zone's holder and hold tier (R141). -/
structure Hold where
  holder : Origin
  tier : Tier
  deriving DecidableEq, Repr

/-- Origin Table. -/
structure OriginBlock where
  recs : Vector OriginRec 4
  timeSource : Origin
  holds : Vector (Option Hold) 32
  deriving DecidableEq, Repr

/-! ## Trigger Unit (07) -/

/-- The mode of a trigger line (R116). -/
inductive LineMode where
  | off | rise | fall | both | level
  deriving DecidableEq, Repr

/-- The capture policy of a line (R116, R121). -/
inductive CapturePolicy where
  | overwrite | hold | holdTimed
  deriving DecidableEq, Repr

/-- The kind of an edge (R119). -/
inductive EdgeKind where
  | rise | fall
  deriving DecidableEq, Repr

/-- A raw change still being debounced (R116). -/
structure PendingChange where
  level : Bool
  since : Time
  deriving DecidableEq, Repr

/-- A trigger line record (R116); `raw` is the level on the pin. -/
structure Line where
  mode : LineMode
  debounce : Nat
  wake : Bool
  policy : CapturePolicy
  window : Nat
  mirror : Option FlagNo
  level : Bool
  pendingChange : Option PendingChange
  raw : Bool
  deriving DecidableEq, Repr

/-- A capture slot (R121). -/
structure Capture where
  valid : Bool
  edge : EdgeKind
  stamp : Time
  fill : Time
  missed : Bool
  deriving DecidableEq, Repr

/-- The writer of a condition flag (R125). -/
inductive Writer where
  | origin (o : Origin)
  | line (t : LineNo)
  deriving DecidableEq, Repr

/-- What a bind entry does to its cue (R129). -/
inductive BindAction where
  | start | stop | toggle
  deriving DecidableEq, Repr

/-- A valid bind entry (R129); an invalid one is `none` in the table, since its other fields are not read. -/
structure BindEntry where
  owner : Origin
  code : Byte
  mask : Byte
  qual : Option FlagRef
  action : BindAction
  cue : CueNo
  deriving DecidableEq, Repr

/-- A pair of the wake list, with its line (R124). -/
structure WakeEntry where
  code : Byte
  stamp : Time
  line : LineNo
  deriving DecidableEq, Repr

/-- Trigger Unit. -/
structure TriggerBlock where
  lines : Vector Line 8
  captures : Vector Capture 8
  flags : BitVec 32
  writers : Vector Writer 32
  binds : Vector (Option BindEntry) 24
  wakeList : List WakeEntry
  deriving DecidableEq, Repr

/-! ## Cue Engine (06) -/

/-- How a keyframe's segment runs to the next keyframe (R91). -/
inductive Ease where
  | step | linear | smooth
  deriving DecidableEq, Repr

/-- A keyframe (R91). -/
structure Keyframe where
  time : Nat
  ease : Ease
  value : Rgb
  deriving DecidableEq, Repr

/-- What an unwritten keyframe reads as: the reset value of R91. -/
def Keyframe.blank : Keyframe := ⟨0, .step, Rgb.zero⟩

/-- What a track drives (R19, R94). -/
inductive Target where
  | colour | level | offset | opacity
  deriving DecidableEq, Repr

/-- A track: its target and its run of keyframes (R94). -/
structure Track where
  target : Target
  first : Nat
  count : Nat
  deriving DecidableEq, Repr

/-- What the natural end leaves on the layer (R112). -/
inductive EndBehaviour where
  | hold | restore | hide
  deriving DecidableEq, Repr

/-- A value of a track, as three signed channels; scalar targets use the first (R107, R108). -/
structure Triple where
  x : Int
  y : Int
  z : Int
  deriving DecidableEq, Repr

/-- Where a cue that is not EMPTY stands (R94): `latest` are the values its tracks gave at the latest frame start,
`frozen` its values at the stop (R110), one for each track, in track order. -/
inductive Run where
  | ready
  | scheduled
  | running (start : Time) (latest : List Triple)
  | releasing (start : Time) (release : Time) (frozen : List Triple)
  deriving DecidableEq, Repr

/-- A cue record that is not EMPTY (R94). -/
structure Cue where
  owner : Origin
  layer : LayerNo
  tracks : List Track
  duration : Nat
  loops : Nat
  ending : EndBehaviour
  autoShow : Bool
  release : Nat
  run : Run
  deriving DecidableEq, Repr

/-- An entry of the start queue (R98). -/
structure StartEntry where
  cue : CueNo
  start : Time
  scheduler : Origin
  deriving DecidableEq, Repr

/-- Cue Engine; an EMPTY cue is `none`. -/
structure CueBlock where
  pool : Store Keyframe
  cues : Vector (Option Cue) 24
  queue : List StartEntry
  deriving DecidableEq, Repr

/-! ## Layer Table (02) -/

/-- The state of a layer (R16). -/
inductive LayerState where
  | free | held | shown
  deriving DecidableEq, Repr

/-- How the zone set forms position lines (R10, R11). -/
inductive SpanMode where
  | each | joined
  deriving DecidableEq, Repr

/-- How a layer combines with what lies beneath (R65). -/
inductive Blend where
  | replace | add | max | tint
  deriving DecidableEq, Repr

/-- A hole: a range of lamp indices (R24). -/
structure LampRange where
  first : Nat
  count : Nat
  deriving DecidableEq, Repr

/-- What a layer shows (R16). -/
inductive Source where
  | solid (colour : Rgb)
  | pattern (slot : SlotNo)
  | stream (queue : QueueNo) (maxAge : Nat)
  deriving DecidableEq, Repr

/-- The eleven editable fields of a layer (R16). -/
structure Editable where
  zones : BitVec 32
  span : SpanMode
  hole1 : Option LampRange
  hole2 : Option LampRange
  blend : Blend
  opacity : Nat
  qual : Option FlagRef
  source : Source
  level : Nat
  offset : Int
  fadeIn : Nat
  fadeOut : Nat
  deriving DecidableEq, Repr

/-- The open defaults (R20). -/
def Editable.opened : Editable where
  zones := 0
  span := .each
  hole1 := none
  hole2 := none
  blend := .replace
  opacity := 255
  qual := none
  source := .solid Rgb.zero
  level := 65535
  offset := 0
  fadeIn := 0
  fadeOut := 0

/-- A valid staged copy (R16): the editable fields, a detached mark, and SHOWN or HELD. -/
structure Staged where
  ed : Editable
  detached : Bool
  shown : Bool
  deriving DecidableEq, Repr

/-- A layer record (R16); `copy` is `none` while the staged copy is empty. -/
structure Layer where
  state : LayerState
  owner : Option Origin
  tier : Tier
  ed : Editable
  presence : Nat
  void : Bool
  detached : Bool
  copy : Option Staged
  deriving DecidableEq, Repr

/-- The free contents (R16). -/
def Layer.freed : Layer where
  state := .free
  owner := none
  tier := 0
  ed := Editable.opened
  presence := 0
  void := false
  detached := false
  copy := none

/-- The gate of an origin (R32), with its deadline in local time while CLOSED. -/
inductive Gate where
  | opened
  | closed (deadline : Time)
  | opening
  deriving DecidableEq, Repr

/-- Layer Table. -/
structure LayerBlock where
  layers : Vector Layer 16
  gates : Vector Gate 4
  deriving DecidableEq, Repr

/-! ## Source Store (03) -/

/-- An entry of pattern memory (R39). -/
structure PatEntry where
  colour : Rgb
  coverage : Nat
  deriving DecidableEq, Repr

/-- What an unwritten entry reads as: the reset value of R39. -/
def PatEntry.blank : PatEntry := ⟨Rgb.zero, 0⟩

/-- How indices outside a slot are read (R44). -/
inductive Repeat where
  | clip | edge | wrap
  deriving DecidableEq, Repr

/-- A defined pattern slot (R42); an undefined one is `none`. -/
structure Slot where
  owner : Origin
  first : Nat
  length : Nat
  rep : Repeat
  deriving DecidableEq, Repr

/-- A stream frame (R47): show time and 1 to 16 entries of three 8-bit codes. -/
structure StreamFrame where
  show' : Time
  entries : List Rgb
  deriving DecidableEq, Repr

/-- A stream queue (R47). `stale` is the judgement of the latest frame start (R52). -/
structure StreamQueue where
  bound : Option LayerNo
  current : Option StreamFrame
  pending : List StreamFrame
  last : Option Time
  stale : Bool
  deriving DecidableEq, Repr

/-- A free and empty stream queue (R47). -/
def StreamQueue.freed : StreamQueue := ⟨none, none, [], none, false⟩

/-- Source Store. -/
structure SourceBlock where
  pattern : Store PatEntry
  slots : Vector (Option Slot) 16
  queues : Vector StreamQueue 2
  deriving DecidableEq, Repr

/-! ## Loop Controllers (09) -/

/-- The state of a loop (R149). -/
inductive LoopState where
  | discovering | running | quiet | failed | off
  deriving DecidableEq, Repr

/-- The bursts (R150). REFRESH carries a drive word for each of positions 0 to n-1 and the query index. -/
inductive Burst where
  | count
  | refresh (words : List Rgb) (query : Nat)
  | show'
  | quiet
  | wake
  deriving DecidableEq, Repr

/-- Whose return is awaited; for a REFRESH, the query index sent with it (R156). -/
inductive AwaitKind where
  | count
  | refresh (query : Nat)
  deriving DecidableEq, Repr

/-- The awaited return (R149): the burst, the local time it was sent (MODEL's own, log entry 4), and the local time
it ended, once it has. -/
structure Await where
  kind : AwaitKind
  sent : Time
  ended : Option Time
  deriving DecidableEq, Repr

/-- A loop record (R149). `out` is the MODEL's own (log entry 4): the bursts put out at the latest step that sent
one on this loop. -/
structure Loop where
  state : LoopState
  enable : Bool
  nodes : Nat
  errors : Nat
  holdLen : Nat
  holdCount : Nat
  quietCount : Nat
  query : Nat
  showPending : Bool
  claimed : Bool
  sleepHold : Bool
  await : Option Await
  out : List Burst
  deriving DecidableEq, Repr

/-- A loop record after a reset (R149). -/
def Loop.fresh : Loop where
  state := .discovering
  enable := true
  nodes := 0
  errors := 0
  holdLen := 8
  holdCount := 0
  quietCount := 0
  query := 0
  showPending := false
  claimed := false
  sleepHold := false
  await := none
  out := []

/-- A lamp health record (R163). -/
structure Health where
  openMask : ColourMask
  shortMask : ColourMask
  temp : Int
  queried : Bool
  deriving DecidableEq, Repr

/-- No mark of any colour. -/
def ColourMask.none : ColourMask := ⟨false, false, false⟩

/-- A health record after power-on and the RESET pin (R163). -/
def Health.fresh : Health := ⟨ColourMask.none, ColourMask.none, 0, false⟩

/-- Loop Controllers and the lamp health map. -/
structure LoopBlock where
  loops : Vector Loop 6
  health : Vector Health 384
  deriving DecidableEq, Repr

/-! ## Compositor (01, 04) -/

/-- How pattern positions treat the ends of a zone (R6). -/
inductive ZoneKind where
  | line | ring
  deriving DecidableEq, Repr

/-- One run of consecutive lamps (R8); `down` for direction DOWN. -/
structure Span where
  first : Nat
  count : Nat
  down : Bool
  deriving DecidableEq, Repr

/-- A defined zone record (R5); an undefined one is `none`. Its length is `Zone.length`. -/
structure Zone where
  kind : ZoneKind
  glare : Bool
  fallback : Rgb
  spans : List Span
  deriving DecidableEq, Repr

/-- The glare setting (R68). -/
structure Glare where
  refA : Option FlagRef
  refB : Option FlagRef
  cap : Nat
  deriving DecidableEq, Repr

/-- A calibration bin: gains and current coefficients (R70). -/
structure Bin where
  gains : Rgb
  coeffs : Rgb
  deriving DecidableEq, Repr

/-- A loop's budget in mA and derate knee in degrees C (R73). -/
structure Chain where
  budget : Nat
  knee : Nat
  deriving DecidableEq, Repr

/-- A loop's limiting record (R77). -/
structure Limit where
  limiting : Bool
  derate : Nat
  deriving DecidableEq, Repr

/-- A layer as a compose reads it (R56): its record with frame values in place of own ones (R19), whether its
contribution is void (R54, R60), and the current frame of its queue. -/
structure ComposeLayer where
  owner : Option Origin
  tier : Tier
  ed : Editable
  presence : Nat
  isVoid : Bool
  frame : Option StreamFrame
  deriving DecidableEq, Repr

/-- A compose in flight (R56, R58): its inputs as they stood at its frame start, the frame time, the local time it
began, and the layers that became FREE since then (R67). -/
structure Compose where
  frameTime : Time
  began : Time
  inSetup : Bool
  layers : Vector ComposeLayer 16
  zones : Vector (Option Zone) 32
  holders : Vector (Option Origin) 32
  pattern : Store PatEntry
  slots : Vector (Option Slot) 16
  glareOn : Bool
  glareCap : Nat
  bins : Vector Bin 16
  lampBin : Vector BinNo 384
  chains : Vector Chain 6
  nodes : Vector Nat 6
  health : Vector Health 384
  gone : BitVec 16
  deriving DecidableEq, Repr

/-- Compositor. -/
structure ComposeBlock where
  zones : Vector (Option Zone) 32
  glare : Glare
  bins : Vector Bin 16
  lampBin : Vector BinNo 384
  chains : Vector Chain 6
  limits : Vector Limit 6
  inFlight : Option Compose
  deriving DecidableEq, Repr

/-! ## Watch Unit (10) -/

/-- How a zone's drives are reduced to one number (R169). -/
inductive Measure where
  | peak | mean
  deriving DecidableEq, Repr

/-- A comparator's kind; OFF only for comparator B (R167). -/
inductive CompareKind where
  | off | below | atLeast | equal
  deriving DecidableEq, Repr

/-- A comparator: kind and threshold (R167). -/
structure Comparator where
  kind : CompareKind
  threshold : Nat
  deriving DecidableEq, Repr

/-- How the two comparators are joined (R167). -/
inductive Combine where
  | all | any
  deriving DecidableEq, Repr

/-- The line a watch drives (R167). -/
inductive Signal where
  | none | sig0 | sig1
  deriving DecidableEq, Repr

/-- A watch record (R167). -/
structure Watch where
  enabled : Bool
  zone : ZoneNo
  measure : Measure
  a : Comparator
  b : Comparator
  combine : Combine
  notice : Bool
  signal : Signal
  hit : Bool
  deriving DecidableEq, Repr

/-- Watch Unit: the watches and the levels of SIG0 and SIG1 (high is `true`). -/
structure WatchBlock where
  watches : Vector Watch 4
  sig0 : Bool
  sig1 : Bool
  deriving DecidableEq, Repr

/-! ## The machine -/

/-- The machine: the commands that wait, first in first out, the eleven blocks, and the free-value counter
(MODEL's own, log entry 5). -/
structure State where
  pending : List Instr
  ps : PartBlock
  sc : ClockBlock
  mp : PortsBlock
  ot : OriginBlock
  tu : TriggerBlock
  ce : CueBlock
  lt : LayerBlock
  ss : SourceBlock
  co : ComposeBlock
  lc : LoopBlock
  wu : WatchBlock
  freeCount : Nat
  deriving DecidableEq, Repr

/-! ## Reset values, block by block -/

/-- R188: SETUP after power-on, the RESET pin and RESTART. -/
def PartBlock.fresh : PartBlock := ⟨.setup, false, none⟩

/-- R78, R80, R81, R89, R90: clocks 0, no trim, P 10 ms, next frame time 10 000. -/
def ClockBlock.fresh : ClockBlock where
  scene := 0
  local' := 0
  trim := 0
  sense := .add
  acc := 0
  period := 10
  periodSet := 10
  nextFrame := some 10000
  lastFrame := none

/-- R187: empty queues, clear flags, home channel CA, empty mask. -/
def Port.fresh : Port := ⟨[], [], .ca, false, false, 0⟩

/-- R187: both channels ACTIVE with both counts 0; the strap as sampled. -/
def PortsBlock.fresh (strap : Fin 8) : PortsBlock := ⟨strap, ⟨0, 0⟩, ⟨0, 0⟩, Vector.replicate 4 Port.fresh⟩

/-- R135: window 1 enabled over every lamp, windows 2 to 4 disabled. -/
def OriginRec.windowsFresh : Vector Window 4 :=
  #v[⟨true, 0, 383⟩, ⟨false, 0, 0⟩, ⟨false, 0, 0⟩, ⟨false, 0, 0⟩]

/-- R135, R138, R141: the default records, BODY as time source, no holds. -/
def OriginBlock.fresh : OriginBlock where
  recs := #v[⟨3, 2, 16, OriginRec.windowsFresh, 0, 255, 0, 1023⟩,
             ⟨2, 0, 16, OriginRec.windowsFresh, 256, 511, 1024, 2047⟩,
             ⟨4, 2, 16, OriginRec.windowsFresh, 512, 767, 2048, 3071⟩,
             ⟨5, 0, 16, OriginRec.windowsFresh, 768, 1023, 3072, 4095⟩]
  timeSource := .body
  holds := Vector.replicate 32 none

/-- R116: a line record after a reset, its debounced level taken from the raw level. -/
def Line.fresh (raw : Bool) : Line := ⟨.off, 0, false, .overwrite, 1000, none, raw, none, raw⟩

/-- R121: an empty capture slot. -/
def Capture.fresh : Capture := ⟨false, .rise, 0, 0, false⟩

/-- R125: F0 to F15 BODY, F16 to F23 ASSIST, F24 to F31 MEDIA. -/
def Writer.fresh (f : FlagNo) : Writer :=
  if f.val < 16 then .origin .body else if f.val < 24 then .origin .assist else .origin .media

/-- R116, R121, R124, R125, R129: the Trigger Unit after a reset, given the raw levels of the lines. -/
def TriggerBlock.fresh (raw : LineNo → Bool) : TriggerBlock where
  lines := tabulate fun t => Line.fresh (raw t)
  captures := Vector.replicate 8 Capture.fresh
  flags := 0
  writers := tabulate Writer.fresh
  binds := Vector.replicate 24 none
  wakeList := []

/-- R91, R94, R98: blank pool, every cue EMPTY, empty queue. -/
def CueBlock.fresh : CueBlock := ⟨[], Vector.replicate 24 none, []⟩

/-- R16, R32: every layer FREE with its free contents, every gate OPEN. -/
def LayerBlock.fresh : LayerBlock := ⟨Vector.replicate 16 Layer.freed, Vector.replicate 4 .opened⟩

/-- R39, R42, R47: blank pattern memory, no slot defined, both queues free and empty. -/
def SourceBlock.fresh : SourceBlock := ⟨[], Vector.replicate 16 none, Vector.replicate 2 StreamQueue.freed⟩

/-- R5, R68, R70, R73, R77: no zone, glare off, unity gains, 1000 mA and 85 degrees, no limiting. -/
def ComposeBlock.fresh : ComposeBlock where
  zones := Vector.replicate 32 none
  glare := ⟨none, none, 65535⟩
  bins := Vector.replicate 16 ⟨⟨32768, 32768, 32768⟩, ⟨4884, 4884, 4884⟩⟩
  lampBin := Vector.replicate 384 0
  chains := Vector.replicate 6 ⟨1000, 85⟩
  limits := Vector.replicate 6 ⟨false, 65536⟩
  inFlight := none

/-- R149, R163: fresh loop records and a clear health map. -/
def LoopBlock.fresh : LoopBlock := ⟨Vector.replicate 6 Loop.fresh, Vector.replicate 384 Health.fresh⟩

/-- R167: a watch record after a reset. -/
def Watch.fresh : Watch := ⟨false, 0, .peak, ⟨.atLeast, 0⟩, ⟨.off, 0⟩, .all, false, .none, false⟩

/-- R167: fresh watches, both lines low. -/
def WatchBlock.fresh : WatchBlock := ⟨Vector.replicate 4 Watch.fresh, false, false⟩

/-- Every block at its power-on value, with the strap pins and the raw line levels given, and with a queue of
commands and a free-value counter that no reset of the part touches. -/
def State.fresh (strap : Fin 8) (raw : LineNo → Bool) (pending : List Instr) (freeCount : Nat) : State where
  pending := pending
  ps := PartBlock.fresh
  sc := ClockBlock.fresh
  mp := PortsBlock.fresh strap
  ot := OriginBlock.fresh
  tu := TriggerBlock.fresh raw
  ce := CueBlock.fresh
  lt := LayerBlock.fresh
  ss := SourceBlock.fresh
  co := ComposeBlock.fresh
  lc := LoopBlock.fresh
  wu := WatchBlock.fresh
  freeCount := freeCount

/-- The part right after power-on, strap 0 and every line's raw level low (log entry 2), with an empty queue. -/
def State.reset : State := State.fresh 0 (fun _ => false) [] 0

end Sys2Proof.Machine
end

