-- ==== Sys2Proof/Machine/Ops.lean ====
section
/-! DEFINITION. The named operations every chapter uses: origins and their numbers, times, the two buffers, little-endian
fields, entering replies and queueing notices. -/

namespace Sys2Proof

/-- An origin's number (00_scope.md 7). -/
def Origin.idx : Origin → Fin 4
  | .body => 0
  | .media => 1
  | .assist => 2
  | .service => 3

/-- The origin of a number 0 to 3. -/
def Origin.ofNat? : Nat → Option Origin
  | 0 => some .body
  | 1 => some .media
  | 2 => some .assist
  | 3 => some .service
  | _ => none

/-- The origins in ascending number. -/
def Origin.all : List Origin := [.body, .media, .assist, .service]

/-- The origins that may send configuration requests and ENTER_RUN and ENTER_SETUP (R188, R189). -/
def Origin.mayConfigure : Origin → Bool
  | .body => true
  | .service => true
  | _ => false

namespace Machine

/-! ## Times (R79, R80) -/

/-- A minus B for scene times: the difference modulo 2^48 read as a signed number (R79). -/
def timeDiff (a b : Time) : Int := (a - b).toInt

/-- A time plus a duration in microseconds, modulo 2^48 (R79). -/
def timePlus (t : Time) (us : Nat) : Time := t + BitVec.ofNat 48 us

/-- A is later than B (R79). -/
def timeLater (a b : Time) : Bool := decide (timeDiff a b > 0)

/-- A duration on local time, in microseconds (R80). -/
def localSince (now since : Time) : Nat := (now - since).toNat

/-! ## Buffers: pattern memory and the keyframe pool -/

/-- The entry numbered `i`; an unlisted number reads as `d`. -/
def readStore {α : Type} (d : α) : Store α → Nat → α
  | [], _ => d
  | (j, x) :: m, i => if i = j then x else readStore d m i

/-- The buffer with entry `i` holding `x`, in canonical form. -/
def writeStore {α : Type} [DecidableEq α] (d : α) : Store α → Nat → α → Store α
  | [], i, x => if x = d then [] else [(i, x)]
  | (j, y) :: m, i, x =>
    if i < j then (if x = d then (j, y) :: m else (i, x) :: (j, y) :: m)
    else if i = j then (if x = d then m else (i, x) :: m)
    else (j, y) :: writeStore d m i x

/-- The buffer with consecutive entries from `first` holding `xs`, written in entry order. -/
def writeRun {α : Type} [DecidableEq α] (d : α) (m : Store α) (first : Nat) : List α → Store α
  | [] => m
  | x :: xs => writeRun d (writeStore d m first x) (first + 1) xs

/-! ## Frame fields (11.7): little-endian -/

/-- The low `n` bytes of `x`, least significant first. -/
def leBytes : Nat → Nat → List Byte
  | 0, _ => []
  | n + 1, x => BitVec.ofNat 8 x :: leBytes n (x / 256)

/-- The byte at offset `i` of a frame, 0 where the frame has none. -/
def byteAt (d : List Byte) (i : Nat) : Nat := (d.getD i 0).toNat

/-- The unsigned field of `n` bytes at offset `i`. -/
def leAt (d : List Byte) (i : Nat) : Nat → Nat
  | 0 => 0
  | n + 1 => byteAt d i + 256 * leAt d (i + 1) n

/-- A yes/no field. -/
def boolByte (b : Bool) : Byte := if b then 1 else 0

/-- A single byte. -/
def oneByte (n : Nat) : Byte := BitVec.ofNat 8 n

/-- A scene time or local time field, 6 bytes. -/
def timeBytes (t : Time) : List Byte := leBytes 6 t.toNat

/-- A colour mask: bit 0 red, bit 1 green, bit 2 blue. -/
def maskByte (m : ColourMask) : Byte :=
  oneByte ((if m.r then 1 else 0) + (if m.g then 2 else 0) + (if m.b then 4 else 0))

/-- An origin's number as a byte. -/
def originByte (o : Origin) : Byte := oneByte o.idx.val

/-! ## The origins' ports -/

/-- What MP holds for an origin. -/
def State.port (s : State) (o : Origin) : Port := s.mp.ports[o.idx]

/-- Replaces what MP holds for an origin. -/
def State.setPort (s : State) (o : Origin) (p : Port) : State :=
  { s with mp := { s.mp with ports := setAt s.mp.ports o.idx p } }

/-! ## Replies (R180, R181) -/

/-- The outcome codes (R180). -/
inductive Code where
  | done | noRight | notOwner | wrongState | noRoom | badValue | badTrack | overlap | zoneHeld | notFound
  | unknownKind | alertActive
  deriving DecidableEq, Repr

/-- The byte of an outcome code (R180). -/
def codeByte : Code → Byte
  | .done => 0x00
  | .noRight => 0x01
  | .notOwner => 0x02
  | .wrongState => 0x03
  | .noRoom => 0x04
  | .badValue => 0x05
  | .badTrack => 0x06
  | .overlap => 0x07
  | .zoneHeld => 0x08
  | .notFound => 0x09
  | .unknownKind => 0x0A
  | .alertActive => 0x0B

/-- A request that has been taken: the origin it came from and what its intake queue held of it (R178). -/
structure Taken where
  origin : Origin
  req : Intake
  deriving DecidableEq, Repr

/-- The reply flags byte (R181): CLAMPED, REPLACED, LOST_BEFORE, NOTICES_LOST at bits 0 to 3. -/
def flagsByte (clamped replaced lost noticesLost : Bool) : Byte :=
  oneByte ((if clamped then 1 else 0) + (if replaced then 2 else 0) + (if lost then 4 else 0) +
    (if noticesLost then 8 else 0))

/-- A reply's bytes: the kind as received, the tag, the outcome, the flags, the result fields (R180). -/
def replyBytes (tk : Taken) (c : Code) (flags : Byte) (result : List Byte) : List Byte :=
  oneByte (byteAt tk.req.data 0) :: oneByte (byteAt tk.req.data 1) :: codeByte c :: flags :: result

/-- Enters the reply of a taken request into its origin's transmit queue, bound to the channel of the request, with
LOST_BEFORE and NOTICES_LOST as the origin's flags stand, and clears those flags (R180, R181, R182). -/
def State.reply (s : State) (tk : Taken) (c : Code) (clamped replaced : Bool) (result : List Byte) : State :=
  let p := s.port tk.origin
  let bytes := replyBytes tk c (flagsByte clamped replaced p.lost p.noticesLost) result
  s.setPort tk.origin
    { p with tx := p.tx ++ [⟨bytes, some tk.req.chan, none⟩], lost := false, noticesLost := false }

/-- A refusal: the outcome, and bytes 0 to 3 only (R180). -/
def State.refuse (s : State) (tk : Taken) (c : Code) : State := s.reply tk c false false []

/-- DONE with result fields and no flag of the owning block. -/
def State.done (s : State) (tk : Taken) (result : List Byte) : State := s.reply tk .done false false result

/-! ## Notices (11.5, 11.7) -/

/-- Why a cue ended (R115), in the order of 11.7. -/
inductive EndReason where
  | finished | stopped | preempted | layerGone | sleep | forgotten
  deriving DecidableEq, Repr

/-- The cause of a loop's change of state (R166), in the order of the rule's table. -/
inductive LoopCause where
  | discovered | noNodes | noReturn | errors | holdoffEnd | dark | lit | disabled | enabled
  deriving DecidableEq, Repr

/-- What produced an event code (R133). -/
inductive CodeSource where
  | line (t : LineNo) (edge : EdgeKind)
  | origin (o : Origin)
  deriving DecidableEq, Repr

/-- The ten notice kinds and what they carry (R184, 11.7). -/
inductive Notice where
  | cueEnded (cue : CueNo) (layer : LayerNo) (reason : EndReason)
  | cueLate (cue : CueNo) (lateness : Nat) (start : Time)
  | layerVoid (layer : LayerNo) (void : Bool)
  | holdLost (zone : ZoneNo) (holder : Origin) (tier : Tier)
  | gateExpired
  | triggerSeen (src : CodeSource) (code : Byte) (stamp : Time) (matched : Bool) (fired : Nat)
  | chainState (loop : LoopNo) (cause : LoopCause) (new old : LoopState) (after before : Nat)
  | lampFault (lamp : LampNo) (openMask shortMask : ColourMask) (temp : Int)
  | watchHit (watch : WatchNo) (hit : Bool) (measure : Nat) (frameTime : Time)
  | limiting (loop : LoopNo) (limiting : Bool) (derate : Nat)
  deriving DecidableEq, Repr

/-- The mark of a notice's kind in a subscription mask (R184). -/
def noticeBit : Notice → Nat
  | .cueEnded .. => 0
  | .cueLate .. => 1
  | .layerVoid .. => 2
  | .holdLost .. => 3
  | .gateExpired => 4
  | .triggerSeen .. => 5
  | .chainState .. => 6
  | .lampFault .. => 7
  | .watchHit .. => 8
  | .limiting .. => 9

def reasonByte : EndReason → Byte
  | .finished => 0
  | .stopped => 1
  | .preempted => 2
  | .layerGone => 3
  | .sleep => 4
  | .forgotten => 5

def causeByte : LoopCause → Byte
  | .discovered => 0
  | .noNodes => 1
  | .noReturn => 2
  | .errors => 3
  | .holdoffEnd => 4
  | .dark => 5
  | .lit => 6
  | .disabled => 7
  | .enabled => 8

def loopStateByte : LoopState → Byte
  | .discovering => 0
  | .running => 1
  | .quiet => 2
  | .failed => 3
  | .off => 4

def edgeByte : EdgeKind → Byte
  | .rise => 0
  | .fall => 1

/-- The source fields of TRIGGER_SEEN: source kind, number, edge kind (0 for an origin). -/
def codeSourceBytes : CodeSource → List Byte
  | .line t e => [0, oneByte t.val, edgeByte e]
  | .origin o => [1, originByte o, 0]

/-- A temperature field: 2 bytes, two's complement (11.7). -/
def tempBytes (t : Int) : List Byte := leBytes 2 (BitVec.ofInt 16 t).toNat

/-- A notice's bytes: its kind and its fields (11.7). -/
def noticeBytes : Notice → List Byte
  | .cueEnded c l r => [0x80, oneByte c.val, oneByte l.val, reasonByte r]
  | .cueLate c n t => [0x81, oneByte c.val] ++ leBytes 4 n ++ timeBytes t
  | .layerVoid l v => [0x82, oneByte l.val, boolByte v]
  | .holdLost z o t => [0x83, oneByte z.val, originByte o, oneByte t.val]
  | .gateExpired => [0x84]
  | .triggerSeen src c t m f => [0x85] ++ codeSourceBytes src ++ [c] ++ timeBytes t ++ [boolByte m, oneByte f]
  | .chainState l c n o a b =>
    [0x86, oneByte l.val, causeByte c, loopStateByte n, loopStateByte o, oneByte a, oneByte b]
  | .lampFault l o h t => [0x87] ++ leBytes 2 l.val ++ [maskByte o, maskByte h] ++ tempBytes t
  | .watchHit w h m t => [0x88, oneByte w.val, boolByte h] ++ leBytes 2 m ++ timeBytes t
  | .limiting l y d => [0x89, oneByte l.val, boolByte y] ++ leBytes 3 d

/-- The number of places in an intake queue and in a transmit queue (R177, R182). -/
def queuePlaces : Nat := 8

/-- Queues a notice to one origin: entered when the origin subscribes to its kind and its queue has a place, dropped
with the notices-lost flag set when it has none, nothing when the mark is clear (R182, R184). -/
def State.notify (s : State) (o : Origin) (n : Notice) : State :=
  let p := s.port o
  if p.mask.getLsbD (noticeBit n) then
    if p.tx.length < queuePlaces then s.setPort o { p with tx := p.tx ++ [⟨noticeBytes n, none, none⟩] }
    else s.setPort o { p with noticesLost := true }
  else s

/-- Queues an every-origin notice, in ascending origin number (R184). -/
def State.notifyAll (s : State) (n : Notice) : State := Origin.all.foldl (fun s o => s.notify o n) s

/-! ## The part state -/

/-- Whether the part state lets requests be taken (R178). -/
def PartState.takes : PartState → Bool
  | .setup => true
  | .run => true
  | .settling => true
  | .asleep => false
  | .waking => false

/-- Whether the part is in SETUP. -/
def State.inSetup (s : State) : Bool := s.ps.state == .setup

/-- A step that the part takes only while the RESET pin is not asserted (R193): while it is, nothing changes. -/
def State.live (s : State) (next : State) : Host.Outcome State Fault Refusal :=
  .next (if s.ps.resetHeld then s else next)

/-- A step taken when its condition stands; when it does not, the event does not occur and nothing changes (log
entry 6). -/
def State.liveWhen (s : State) (cond : Bool) (next : State) : Host.Outcome State Fault Refusal :=
  s.live (if cond then next else s)

end Machine

end Sys2Proof
end

