-- ==== Sys2Proof/Machine/Flags.lean ====
section
/-! DEFINITION. Condition flags, qualifiers, glare references and mark sets. -/

namespace Sys2Proof.Machine

/-- The value of a condition flag (R125). -/
def flagValue (flags : BitVec 32) (f : FlagNo) : Bool := flags.getLsbD f.val

/-- A reference holds when its flag is 1 with sense SET, or 0 with sense CLEAR (R26, R68). -/
def refHolds (flags : BitVec 32) (r : FlagRef) : Bool :=
  match r.sense with
  | .set => flagValue flags r.flag
  | .clear => !flagValue flags r.flag

/-- A qualifier holds (R26, R129): ALWAYS holds. -/
def qualHolds (flags : BitVec 32) (q : Option FlagRef) : Bool :=
  match q with
  | none => true
  | some r => refHolds flags r

/-- The glare condition (R68): at least one reference is present, and every present one holds. -/
def glareHolds (flags : BitVec 32) (g : Glare) : Bool :=
  (g.refA.isSome || g.refB.isSome) && qualHolds flags g.refA && qualHolds flags g.refB

/-- The mark set that holds just the marks `f` gives: item k at bit k (11.7). -/
def markSet {n : Nat} (f : Fin n → Bool) : BitVec n :=
  (List.finRange n).foldl (fun m i => if f i then m ||| BitVec.twoPow n i.val else m) 0

/-- The flags with one flag's value written. -/
def writeFlag (flags : BitVec 32) (f : FlagNo) (v : Bool) : BitVec 32 :=
  if v then flags ||| BitVec.twoPow 32 f.val else flags &&& ~~~(BitVec.twoPow 32 f.val)

/-- The flags with every marked flag written together and the others left (R126). -/
def writeMarked (flags mask values : BitVec 32) : BitVec 32 :=
  (flags &&& ~~~mask) ||| (values &&& mask)

/-- The flags whose writer is the given one. -/
def writtenBy (writers : Vector Writer 32) (w : Writer) : BitVec 32 :=
  markSet fun f => writers[f] == w

/-- Replaces the condition flags. -/
def State.setFlagBits (s : State) (flags : BitVec 32) : State := { s with tu := { s.tu with flags := flags } }

end Sys2Proof.Machine
end

