-- ==== Sys2Proof/Machine/Operands.lean ====
section
/-! DEFINITION. The operands of requests: the kind table and the frame layouts of 11.7, decoded from a request's bytes
and encoded to them, and the enumerations they spell. Numbers stay as the frame carries them: the owning block's own
checks judge them. -/

namespace Sys2Proof.Machine

/-! ## Enumerated bytes: the position in the list of the owning chapter, counting from 0 (11.7) -/

def spanMode? : Nat → Option SpanMode
  | 0 => some .each
  | 1 => some .joined
  | _ => none

def blend? : Nat → Option Blend
  | 0 => some .replace
  | 1 => some .add
  | 2 => some .max
  | 3 => some .tint
  | _ => none

def sense? : Nat → Option Sense
  | 0 => some .set
  | 1 => some .clear
  | _ => none

def zoneKind? : Nat → Option ZoneKind
  | 0 => some .line
  | 1 => some .ring
  | _ => none

/-- A yes/no field: 0 for no, 1 for yes, nothing else (11.7). -/
def yesNo? : Nat → Option Bool
  | 0 => some false
  | 1 => some true
  | _ => none

def lineMode? : Nat → Option LineMode
  | 0 => some .off
  | 1 => some .rise
  | 2 => some .fall
  | 3 => some .both
  | 4 => some .level
  | _ => none

def capturePolicy? : Nat → Option CapturePolicy
  | 0 => some .overwrite
  | 1 => some .hold
  | 2 => some .holdTimed
  | _ => none

/-- A repeat mode. Chapter 3 lists the modes as CLIP, EDGE, WRAP (R42, R43) and as WRAP, EDGE, CLIP (R44): the bytes follow the
record's own list, the model's choice (log entry 24). -/
def repeat? : Nat → Option Repeat
  | 0 => some .clip
  | 1 => some .edge
  | 2 => some .wrap
  | _ => none

def ease? : Nat → Option Ease
  | 0 => some .step
  | 1 => some .linear
  | 2 => some .smooth
  | _ => none

def target? : Nat → Option Target
  | 0 => some .colour
  | 1 => some .level
  | 2 => some .offset
  | 3 => some .opacity
  | _ => none

def ending? : Nat → Option EndBehaviour
  | 0 => some .hold
  | 1 => some .restore
  | 2 => some .hide
  | _ => none

def bindAction? : Nat → Option BindAction
  | 0 => some .start
  | 1 => some .stop
  | 2 => some .toggle
  | _ => none

def measure? : Nat → Option Measure
  | 0 => some .peak
  | 1 => some .mean
  | _ => none

def compareKind? : Nat → Option CompareKind
  | 0 => some .off
  | 1 => some .below
  | 2 => some .atLeast
  | 3 => some .equal
  | _ => none

def combine? : Nat → Option Combine
  | 0 => some .all
  | 1 => some .any
  | _ => none

def signal? : Nat → Option Signal
  | 0 => some .none
  | 1 => some .sig0
  | 2 => some .sig1
  | _ => none

def trimSense? : Nat → Option TrimSense
  | 0 => some .add
  | 1 => some .subtract
  | _ => none

/-- A number as an index below `n`, where it is one. -/
def fin? (n k : Nat) : Option (Fin n) := if h : k < n then some ⟨k, h⟩ else none

/-- A flag reference (11.7): flag number FFh is ALWAYS or absent, and its sense byte is then not examined (log entry
8). The outer `none` is a flag above 31 or an unknown sense. -/
def flagRef? (flag sense : Nat) : Option (Option FlagRef) :=
  if flag = 0xFF then some none
  else
    match fin? 32 flag, sense? sense with
    | some f, some e => some (some ⟨f, e⟩)
    | _, _ => none

/-! ## The kind table (11.7) -/

/-- The request kinds. -/
inductive Kind where
  | setOrigin | setZone | clearZone | setBin | setLampBin | setChain | setLine | setFlagOwner | setGlare | setFrame
  | setWatch | writePattern | definePattern | deletePattern | writeKeys | defineCue | deleteCue | bind | unbind
  | timeQuery | setClock | trimClock | readStatus | subscribe | readCapture | openLayer | editLayer | showLayer
  | hideLayer | closeLayer | gateClose | gateOpen | startCue | stopCue | streamFrame | holdZone | releaseZone | setFlags
  | trigger | clearHealth | forget | enterRun | enterSetup | sleep | restart
  deriving DecidableEq, Repr

/-- A kind's byte. -/
def kindCode : Kind → Nat
  | .setOrigin => 0x10
  | .setZone => 0x11
  | .clearZone => 0x12
  | .setBin => 0x13
  | .setLampBin => 0x14
  | .setChain => 0x15
  | .setLine => 0x16
  | .setFlagOwner => 0x17
  | .setGlare => 0x18
  | .setFrame => 0x19
  | .setWatch => 0x1A
  | .writePattern => 0x20
  | .definePattern => 0x21
  | .deletePattern => 0x22
  | .writeKeys => 0x23
  | .defineCue => 0x24
  | .deleteCue => 0x25
  | .bind => 0x26
  | .unbind => 0x27
  | .timeQuery => 0x30
  | .setClock => 0x31
  | .trimClock => 0x32
  | .readStatus => 0x33
  | .subscribe => 0x34
  | .readCapture => 0x35
  | .openLayer => 0x40
  | .editLayer => 0x41
  | .showLayer => 0x42
  | .hideLayer => 0x43
  | .closeLayer => 0x44
  | .gateClose => 0x45
  | .gateOpen => 0x46
  | .startCue => 0x50
  | .stopCue => 0x51
  | .streamFrame => 0x58
  | .holdZone => 0x60
  | .releaseZone => 0x61
  | .setFlags => 0x68
  | .trigger => 0x69
  | .clearHealth => 0x70
  | .forget => 0x71
  | .enterRun => 0x78
  | .enterSetup => 0x79
  | .sleep => 0x7A
  | .restart => 0x7B

/-- The kinds in the table's order. -/
def allKinds : List Kind :=
  [.setOrigin, .setZone, .clearZone, .setBin, .setLampBin, .setChain, .setLine, .setFlagOwner, .setGlare, .setFrame,
   .setWatch, .writePattern, .definePattern, .deletePattern, .writeKeys, .defineCue, .deleteCue, .bind, .unbind] ++
  [.timeQuery, .setClock, .trimClock, .readStatus, .subscribe, .readCapture, .openLayer, .editLayer, .showLayer,
   .hideLayer, .closeLayer, .gateClose, .gateOpen, .startCue, .stopCue, .streamFrame, .holdZone, .releaseZone,
   .setFlags, .trigger, .clearHealth, .forget, .enterRun, .enterSetup, .sleep, .restart]

/-- The kind a kind byte names; `none` is an unknown kind (R179). -/
def kindOf? (code : Nat) : Option Kind := allKinds.find? fun k => kindCode k == code

/-! ## The fields of each kind -/

/-- The fields of SET_ORIGIN; a window is enable, first lamp, last lamp. -/
structure SetOriginArgs where
  origin : Nat
  maxTier : Nat
  reserve : Nat
  limit : Nat
  windows : List (Nat × Nat × Nat)
  keyFirst : Nat
  keyLast : Nat
  patFirst : Nat
  patLast : Nat
  timeSource : Nat
  deriving DecidableEq, Repr

/-- The fields of SET_ZONE; a span is first lamp, count, direction. -/
structure SetZoneArgs where
  zone : Nat
  kind : Nat
  glare : Nat
  fallback : Rgb
  count : Nat
  spans : List (Nat × Nat × Nat)
  deriving DecidableEq, Repr

structure SetBinArgs where
  bin : Nat
  gains : Rgb
  coeffs : Rgb
  deriving DecidableEq, Repr

structure SetLampBinArgs where
  first : Nat
  count : Nat
  bin : Nat
  deriving DecidableEq, Repr

structure SetChainArgs where
  loop : Nat
  budget : Nat
  knee : Nat
  enable : Nat
  deriving DecidableEq, Repr

structure SetLineArgs where
  line : Nat
  mode : Nat
  debounce : Nat
  wake : Nat
  policy : Nat
  window : Nat
  mirror : Nat
  deriving DecidableEq, Repr

structure SetFlagOwnerArgs where
  flag : Nat
  writerKind : Nat
  writer : Nat
  deriving DecidableEq, Repr

/-- The fields of SET_GLARE; a reference is flag number and sense. -/
structure SetGlareArgs where
  refA : Nat × Nat
  refB : Nat × Nat
  cap : Nat
  deriving DecidableEq, Repr

structure SetWatchArgs where
  watch : Nat
  enable : Nat
  zone : Nat
  measure : Nat
  aKind : Nat
  aThreshold : Nat
  bKind : Nat
  bThreshold : Nat
  combine : Nat
  notice : Nat
  signal : Nat
  deriving DecidableEq, Repr

structure WritePatternArgs where
  first : Nat
  count : Nat
  entries : List PatEntry
  deriving DecidableEq, Repr

structure DefinePatternArgs where
  first : Nat
  length : Nat
  rep : Nat
  deriving DecidableEq, Repr

/-- The fields of WRITE_KEYS; a keyframe is time, ease, value. -/
structure WriteKeysArgs where
  first : Nat
  count : Nat
  keys : List (Nat × Nat × Rgb)
  deriving DecidableEq, Repr

/-- The fields of DEFINE_CUE; a track is target, first keyframe, count. -/
structure DefineCueArgs where
  layer : Nat
  count : Nat
  duration : Nat
  loops : Nat
  ending : Nat
  autoShow : Nat
  release : Nat
  tracks : List (Nat × Nat × Nat)
  deriving DecidableEq, Repr

structure BindArgs where
  code : Nat
  mask : Nat
  qual : Nat × Nat
  action : Nat
  cue : Nat
  deriving DecidableEq, Repr

structure SetClockArgs where
  mode : Nat
  value : Nat
  deriving DecidableEq, Repr

structure TrimClockArgs where
  value : Nat
  sense : Nat
  deriving DecidableEq, Repr

/-- The source field of EDIT_LAYER: its kind and the parameters of that kind. -/
inductive SourceArg where
  | solid (colour : Rgb)
  | pattern (slot : Nat)
  | stream (maxAge : Nat)
  | unknown (kind : Nat)
  deriving DecidableEq, Repr

/-- The fields of EDIT_LAYER: the field mask, and one value for each field it marks. -/
structure EditLayerArgs where
  layer : Nat
  mask : Nat
  zones : Option Nat
  span : Option Nat
  holes : Option ((Nat × Nat) × (Nat × Nat))
  blend : Option Nat
  opacity : Option Nat
  qual : Option (Nat × Nat)
  source : Option SourceArg
  level : Option Nat
  offset : Option Nat
  fadeIn : Option Nat
  fadeOut : Option Nat
  deriving DecidableEq, Repr

/-- The form of START_CUE and its value. -/
inductive StartForm where
  | atTime (value : Time)
  | after (delay : Nat)
  | next
  | unknown (form : Nat)
  deriving DecidableEq, Repr

structure StartCueArgs where
  cue : Nat
  form : StartForm
  deriving DecidableEq, Repr

structure StreamFrameArgs where
  layer : Nat
  show' : Time
  count : Nat
  entries : List Rgb
  deriving DecidableEq, Repr

structure HoldZoneArgs where
  zone : Nat
  tier : Nat
  deriving DecidableEq, Repr

structure SetFlagsArgs where
  mask : BitVec 32
  values : BitVec 32
  deriving DecidableEq, Repr

structure LampRangeArgs where
  first : Nat
  count : Nat
  deriving DecidableEq, Repr

/-! ## Reading fields -/

/-- The three 2-byte channels at an offset. -/
def rgbAt (d : List Byte) (i : Nat) : Rgb := ⟨leAt d i 2, leAt d (i + 2) 2, leAt d (i + 4) 2⟩

/-- A flag reference field: flag number, then sense. -/
def refAt (d : List Byte) (i : Nat) : Nat × Nat := (byteAt d i, byteAt d (i + 1))

/-- `n` consecutive items of `size` bytes from offset `i`. -/
def itemsAt {α : Type} (d : List Byte) (i size n : Nat) (f : List Byte → Nat → α) : List α :=
  (List.range n).map fun k => f d (i + size * k)

/-- A count that lies in its kind's range, else 0: a count outside it leaves only the fixed part (R179). -/
def countIn (lo hi n : Nat) : Nat := if lo ≤ n ∧ n ≤ hi then n else 0

/-- A window or a span: 1, 2 and 2 bytes, or 2, 2 and 1. -/
def windowAt (d : List Byte) (i : Nat) : Nat × Nat × Nat := (byteAt d i, leAt d (i + 1) 2, leAt d (i + 3) 2)

def spanAt (d : List Byte) (i : Nat) : Nat × Nat × Nat := (leAt d i 2, leAt d (i + 2) 2, byteAt d (i + 4))

def setOriginArgs (d : List Byte) : SetOriginArgs where
  origin := byteAt d 2
  maxTier := byteAt d 3
  reserve := byteAt d 4
  limit := byteAt d 5
  windows := itemsAt d 6 5 4 windowAt
  keyFirst := leAt d 26 2
  keyLast := leAt d 28 2
  patFirst := leAt d 30 2
  patLast := leAt d 32 2
  timeSource := byteAt d 34

def setZoneArgs (d : List Byte) : SetZoneArgs where
  zone := byteAt d 2
  kind := byteAt d 3
  glare := byteAt d 4
  fallback := rgbAt d 5
  count := byteAt d 11
  spans := itemsAt d 12 5 (countIn 1 4 (byteAt d 11)) spanAt

def setBinArgs (d : List Byte) : SetBinArgs := ⟨byteAt d 2, rgbAt d 3, rgbAt d 9⟩

def setLampBinArgs (d : List Byte) : SetLampBinArgs := ⟨leAt d 2 2, leAt d 4 2, byteAt d 6⟩

def setChainArgs (d : List Byte) : SetChainArgs := ⟨byteAt d 2, leAt d 3 2, byteAt d 5, byteAt d 6⟩

def setLineArgs (d : List Byte) : SetLineArgs where
  line := byteAt d 2
  mode := byteAt d 3
  debounce := byteAt d 4
  wake := byteAt d 5
  policy := byteAt d 6
  window := leAt d 7 2
  mirror := byteAt d 9

def setFlagOwnerArgs (d : List Byte) : SetFlagOwnerArgs := ⟨byteAt d 2, byteAt d 3, byteAt d 4⟩

def setGlareArgs (d : List Byte) : SetGlareArgs := ⟨refAt d 2, refAt d 4, leAt d 6 2⟩

def setWatchArgs (d : List Byte) : SetWatchArgs where
  watch := byteAt d 2
  enable := byteAt d 3
  zone := byteAt d 4
  measure := byteAt d 5
  aKind := byteAt d 6
  aThreshold := leAt d 7 2
  bKind := byteAt d 9
  bThreshold := leAt d 10 2
  combine := byteAt d 12
  notice := byteAt d 13
  signal := byteAt d 14

def patEntryAt (d : List Byte) (i : Nat) : PatEntry := ⟨rgbAt d i, byteAt d (i + 6)⟩

def writePatternArgs (d : List Byte) : WritePatternArgs :=
  ⟨leAt d 2 2, byteAt d 4, itemsAt d 5 7 (countIn 1 6 (byteAt d 4)) patEntryAt⟩

def definePatternArgs (d : List Byte) : DefinePatternArgs := ⟨leAt d 2 2, leAt d 4 2, byteAt d 6⟩

def keyAt (d : List Byte) (i : Nat) : Nat × Nat × Rgb := (leAt d i 2, byteAt d (i + 2), rgbAt d (i + 3))

def writeKeysArgs (d : List Byte) : WriteKeysArgs :=
  ⟨leAt d 2 2, byteAt d 4, itemsAt d 5 9 (countIn 1 6 (byteAt d 4)) keyAt⟩

def trackAt (d : List Byte) (i : Nat) : Nat × Nat × Nat := (byteAt d i, leAt d (i + 1) 2, byteAt d (i + 3))

def defineCueArgs (d : List Byte) : DefineCueArgs where
  layer := byteAt d 2
  count := byteAt d 3
  duration := leAt d 4 2
  loops := byteAt d 6
  ending := byteAt d 7
  autoShow := byteAt d 8
  release := leAt d 9 2
  tracks := itemsAt d 11 4 (countIn 1 4 (byteAt d 3)) trackAt

def bindArgs (d : List Byte) : BindArgs := ⟨byteAt d 2, byteAt d 3, refAt d 4, byteAt d 6, byteAt d 7⟩

def setClockArgs (d : List Byte) : SetClockArgs := ⟨byteAt d 2, leAt d 3 6⟩

def trimClockArgs (d : List Byte) : TrimClockArgs := ⟨leAt d 2 3, byteAt d 5⟩

/-- The sizes of EDIT_LAYER's eleven fields, in mask order. -/
def editSizes : List Nat := [4, 1, 8, 1, 1, 2, 7, 2, 2, 2, 2]

/-- How many bytes the fields marked below bit `k` take. -/
def editBefore (mask k : Nat) : Nat :=
  ((List.range k).map fun j => if mask.testBit j then editSizes.getD j 0 else 0).sum

/-- The value of EDIT_LAYER's field `k`, read at its place, when the mask marks it. A mask that marks a bit no field
has leaves only the fixed part (R179). -/
def editField {α : Type} (d : List Byte) (mask k : Nat) (f : List Byte → Nat → α) : Option α :=
  if mask < 2 ^ 11 ∧ mask.testBit k then some (f d (5 + editBefore mask k)) else none

def holesAt (d : List Byte) (i : Nat) : (Nat × Nat) × (Nat × Nat) :=
  ((leAt d i 2, leAt d (i + 2) 2), (leAt d (i + 4) 2, leAt d (i + 6) 2))

def sourceAt (d : List Byte) (i : Nat) : SourceArg :=
  match byteAt d i with
  | 0 => .solid (rgbAt d (i + 1))
  | 1 => .pattern (byteAt d (i + 1))
  | 2 => .stream (leAt d (i + 1) 2)
  | k => .unknown k

def editLayerArgs (d : List Byte) : EditLayerArgs :=
  let m := leAt d 3 2
  { layer := byteAt d 2
    mask := m
    zones := editField d m 0 fun d i => leAt d i 4
    span := editField d m 1 byteAt
    holes := editField d m 2 holesAt
    blend := editField d m 3 byteAt
    opacity := editField d m 4 byteAt
    qual := editField d m 5 refAt
    source := editField d m 6 sourceAt
    level := editField d m 7 fun d i => leAt d i 2
    offset := editField d m 8 fun d i => leAt d i 2
    fadeIn := editField d m 9 fun d i => leAt d i 2
    fadeOut := editField d m 10 fun d i => leAt d i 2 }

/-- START_CUE's forms are AT 0, AFTER 1, NEXT 2, in the order R99 lists them. -/
def startCueArgs (d : List Byte) : StartCueArgs :=
  ⟨byteAt d 2,
    match byteAt d 3 with
    | 0 => .atTime (BitVec.ofNat 48 (leAt d 4 6))
    | 1 => .after (leAt d 4 4)
    | 2 => .next
    | k => .unknown k⟩

def codeRgbAt (d : List Byte) (i : Nat) : Rgb := ⟨byteAt d i, byteAt d (i + 1), byteAt d (i + 2)⟩

def streamFrameArgs (d : List Byte) : StreamFrameArgs :=
  ⟨byteAt d 2, BitVec.ofNat 48 (leAt d 3 6), byteAt d 9, itemsAt d 10 3 (countIn 1 16 (byteAt d 9)) codeRgbAt⟩

def holdZoneArgs (d : List Byte) : HoldZoneArgs := ⟨byteAt d 2, byteAt d 3⟩

def setFlagsArgs (d : List Byte) : SetFlagsArgs := ⟨BitVec.ofNat 32 (leAt d 2 4), BitVec.ofNat 32 (leAt d 6 4)⟩

def lampRangeArgs (d : List Byte) : LampRangeArgs := ⟨leAt d 2 2, leAt d 4 2⟩

/-! ## Required lengths (R179, 11.7) -/

/-- The data length a kind requires, by its count, mask or form where it carries one. -/
def requiredLength (k : Kind) (d : List Byte) : Nat :=
  match k with
  | .setOrigin => 35
  | .setZone => 12 + 5 * countIn 1 4 (byteAt d 11)
  | .clearZone => 3
  | .setBin => 15
  | .setLampBin => 7
  | .setChain => 7
  | .setLine => 10
  | .setFlagOwner => 5
  | .setGlare => 8
  | .setFrame => 3
  | .setWatch => 15
  | .writePattern => 5 + 7 * countIn 1 6 (byteAt d 4)
  | .definePattern => 7
  | .deletePattern => 3
  | .writeKeys => 5 + 9 * countIn 1 6 (byteAt d 4)
  | .defineCue => 11 + 4 * countIn 1 4 (byteAt d 3)
  | .deleteCue => 3
  | .bind => 8
  | .unbind => 3
  | .timeQuery => 2
  | .setClock => 9
  | .trimClock => 6
  | .readStatus => 2
  | .subscribe => 4
  | .readCapture => 3
  | .openLayer => 3
  | .editLayer => if leAt d 3 2 < 2 ^ 11 then 5 + editBefore (leAt d 3 2) 11 else 5
  | .showLayer => 3
  | .hideLayer => 3
  | .closeLayer => 3
  | .gateClose => 4
  | .gateOpen => 2
  | .startCue => match byteAt d 3 with
    | 0 => 10
    | 1 => 8
    | _ => 4
  | .stopCue => 3
  | .streamFrame => 10 + 3 * countIn 1 16 (byteAt d 9)
  | .holdZone => 4
  | .releaseZone => 3
  | .setFlags => 10
  | .trigger => 3
  | .clearHealth => 6
  | .forget => 3
  | .enterRun => 2
  | .enterSetup => 2
  | .sleep => 2
  | .restart => 2

/-! ## Requests whole: what a frame of each kind says, and the frame that says it -/

/-- A request with its fields. -/
inductive Request where
  | setOrigin (a : SetOriginArgs)
  | setZone (a : SetZoneArgs)
  | clearZone (zone : Nat)
  | setBin (a : SetBinArgs)
  | setLampBin (a : SetLampBinArgs)
  | setChain (a : SetChainArgs)
  | setLine (a : SetLineArgs)
  | setFlagOwner (a : SetFlagOwnerArgs)
  | setGlare (a : SetGlareArgs)
  | setFrame (period : Nat)
  | setWatch (a : SetWatchArgs)
  | writePattern (a : WritePatternArgs)
  | definePattern (a : DefinePatternArgs)
  | deletePattern (slot : Nat)
  | writeKeys (a : WriteKeysArgs)
  | defineCue (a : DefineCueArgs)
  | deleteCue (cue : Nat)
  | bind (a : BindArgs)
  | unbind (entry : Nat)
  | timeQuery
  | setClock (a : SetClockArgs)
  | trimClock (a : TrimClockArgs)
  | readStatus
  | subscribe (mask : Nat)
  | readCapture (line : Nat)
  | openLayer (tier : Nat)
  | editLayer (a : EditLayerArgs)
  | showLayer (layer : Nat)
  | hideLayer (layer : Nat)
  | closeLayer (layer : Nat)
  | gateClose (timeout : Nat)
  | gateOpen
  | startCue (a : StartCueArgs)
  | stopCue (cue : Nat)
  | streamFrame (a : StreamFrameArgs)
  | holdZone (a : HoldZoneArgs)
  | releaseZone (zone : Nat)
  | setFlags (a : SetFlagsArgs)
  | trigger (code : Nat)
  | clearHealth (a : LampRangeArgs)
  | forget (origin : Nat)
  | enterRun
  | enterSetup
  | sleep
  | restart
  deriving DecidableEq, Repr

/-- The request that a frame of kind `k` with data bytes `d` makes. -/
def decodeRequest (k : Kind) (d : List Byte) : Request :=
  match k with
  | .setOrigin => .setOrigin (setOriginArgs d)
  | .setZone => .setZone (setZoneArgs d)
  | .clearZone => .clearZone (byteAt d 2)
  | .setBin => .setBin (setBinArgs d)
  | .setLampBin => .setLampBin (setLampBinArgs d)
  | .setChain => .setChain (setChainArgs d)
  | .setLine => .setLine (setLineArgs d)
  | .setFlagOwner => .setFlagOwner (setFlagOwnerArgs d)
  | .setGlare => .setGlare (setGlareArgs d)
  | .setFrame => .setFrame (byteAt d 2)
  | .setWatch => .setWatch (setWatchArgs d)
  | .writePattern => .writePattern (writePatternArgs d)
  | .definePattern => .definePattern (definePatternArgs d)
  | .deletePattern => .deletePattern (byteAt d 2)
  | .writeKeys => .writeKeys (writeKeysArgs d)
  | .defineCue => .defineCue (defineCueArgs d)
  | .deleteCue => .deleteCue (byteAt d 2)
  | .bind => .bind (bindArgs d)
  | .unbind => .unbind (byteAt d 2)
  | .timeQuery => .timeQuery
  | .setClock => .setClock (setClockArgs d)
  | .trimClock => .trimClock (trimClockArgs d)
  | .readStatus => .readStatus
  | .subscribe => .subscribe (leAt d 2 2)
  | .readCapture => .readCapture (byteAt d 2)
  | .openLayer => .openLayer (byteAt d 2)
  | .editLayer => .editLayer (editLayerArgs d)
  | .showLayer => .showLayer (byteAt d 2)
  | .hideLayer => .hideLayer (byteAt d 2)
  | .closeLayer => .closeLayer (byteAt d 2)
  | .gateClose => .gateClose (leAt d 2 2)
  | .gateOpen => .gateOpen
  | .startCue => .startCue (startCueArgs d)
  | .stopCue => .stopCue (byteAt d 2)
  | .streamFrame => .streamFrame (streamFrameArgs d)
  | .holdZone => .holdZone (holdZoneArgs d)
  | .releaseZone => .releaseZone (byteAt d 2)
  | .setFlags => .setFlags (setFlagsArgs d)
  | .trigger => .trigger (byteAt d 2)
  | .clearHealth => .clearHealth (lampRangeArgs d)
  | .forget => .forget (byteAt d 2)
  | .enterRun => .enterRun
  | .enterSetup => .enterSetup
  | .sleep => .sleep
  | .restart => .restart

/-- A request's kind. -/
def requestKind : Request → Kind
  | .setOrigin _ => .setOrigin
  | .setZone _ => .setZone
  | .clearZone _ => .clearZone
  | .setBin _ => .setBin
  | .setLampBin _ => .setLampBin
  | .setChain _ => .setChain
  | .setLine _ => .setLine
  | .setFlagOwner _ => .setFlagOwner
  | .setGlare _ => .setGlare
  | .setFrame _ => .setFrame
  | .setWatch _ => .setWatch
  | .writePattern _ => .writePattern
  | .definePattern _ => .definePattern
  | .deletePattern _ => .deletePattern
  | .writeKeys _ => .writeKeys
  | .defineCue _ => .defineCue
  | .deleteCue _ => .deleteCue
  | .bind _ => .bind
  | .unbind _ => .unbind
  | .timeQuery => .timeQuery
  | .setClock _ => .setClock
  | .trimClock _ => .trimClock
  | .readStatus => .readStatus
  | .subscribe _ => .subscribe
  | .readCapture _ => .readCapture
  | .openLayer _ => .openLayer
  | .editLayer _ => .editLayer
  | .showLayer _ => .showLayer
  | .hideLayer _ => .hideLayer
  | .closeLayer _ => .closeLayer
  | .gateClose _ => .gateClose
  | .gateOpen => .gateOpen
  | .startCue _ => .startCue
  | .stopCue _ => .stopCue
  | .streamFrame _ => .streamFrame
  | .holdZone _ => .holdZone
  | .releaseZone _ => .releaseZone
  | .setFlags _ => .setFlags
  | .trigger _ => .trigger
  | .clearHealth _ => .clearHealth
  | .forget _ => .forget
  | .enterRun => .enterRun
  | .enterSetup => .enterSetup
  | .sleep => .sleep
  | .restart => .restart

def rgbBytes (c : Rgb) : List Byte := leBytes 2 c.r ++ leBytes 2 c.g ++ leBytes 2 c.b

def refBytes (r : Nat × Nat) : List Byte := [oneByte r.1, oneByte r.2]

def sourceBytes : SourceArg → List Byte
  | .solid c => 0 :: rgbBytes c
  | .pattern n => [1, oneByte n, 0, 0, 0, 0, 0]
  | .stream a => 2 :: (leBytes 2 a ++ [0, 0, 0, 0])
  | .unknown k => [oneByte k, 0, 0, 0, 0, 0, 0]

/-- The bytes of a field, when it is marked. -/
def markedBytes {α : Type} (f : α → List Byte) : Option α → List Byte
  | none => []
  | some x => f x

def editBytes (a : EditLayerArgs) : List Byte :=
  [oneByte a.layer] ++ leBytes 2 a.mask ++ markedBytes (leBytes 4) a.zones ++ markedBytes (fun n => [oneByte n]) a.span ++
    markedBytes (fun h => leBytes 2 h.1.1 ++ leBytes 2 h.1.2 ++ leBytes 2 h.2.1 ++ leBytes 2 h.2.2) a.holes ++
    markedBytes (fun n => [oneByte n]) a.blend ++ markedBytes (fun n => [oneByte n]) a.opacity ++
    markedBytes refBytes a.qual ++ markedBytes sourceBytes a.source ++ markedBytes (leBytes 2) a.level ++
    markedBytes (leBytes 2) a.offset ++ markedBytes (leBytes 2) a.fadeIn ++ markedBytes (leBytes 2) a.fadeOut

def startFormBytes : StartForm → List Byte
  | .atTime t => 0 :: timeBytes t
  | .after d => 1 :: leBytes 4 d
  | .next => [2]
  | .unknown k => [oneByte k]

/-- The fields of a request from byte 2 on, laid out as 11.7 says. -/
def requestFields : Request → List Byte
  | .setOrigin a =>
    [oneByte a.origin, oneByte a.maxTier, oneByte a.reserve, oneByte a.limit] ++
      a.windows.flatMap (fun w => oneByte w.1 :: (leBytes 2 w.2.1 ++ leBytes 2 w.2.2)) ++
      leBytes 2 a.keyFirst ++ leBytes 2 a.keyLast ++ leBytes 2 a.patFirst ++ leBytes 2 a.patLast ++ [oneByte a.timeSource]
  | .setZone a =>
    [oneByte a.zone, oneByte a.kind, oneByte a.glare] ++ rgbBytes a.fallback ++ [oneByte a.count] ++
      a.spans.flatMap (fun p => leBytes 2 p.1 ++ leBytes 2 p.2.1 ++ [oneByte p.2.2])
  | .clearZone n => [oneByte n]
  | .setBin a => [oneByte a.bin] ++ rgbBytes a.gains ++ rgbBytes a.coeffs
  | .setLampBin a => leBytes 2 a.first ++ leBytes 2 a.count ++ [oneByte a.bin]
  | .setChain a => [oneByte a.loop] ++ leBytes 2 a.budget ++ [oneByte a.knee, oneByte a.enable]
  | .setLine a =>
    [oneByte a.line, oneByte a.mode, oneByte a.debounce, oneByte a.wake, oneByte a.policy] ++ leBytes 2 a.window ++
      [oneByte a.mirror]
  | .setFlagOwner a => [oneByte a.flag, oneByte a.writerKind, oneByte a.writer]
  | .setGlare a => refBytes a.refA ++ refBytes a.refB ++ leBytes 2 a.cap
  | .setFrame n => [oneByte n]
  | .setWatch a =>
    [oneByte a.watch, oneByte a.enable, oneByte a.zone, oneByte a.measure, oneByte a.aKind] ++ leBytes 2 a.aThreshold ++
      [oneByte a.bKind] ++ leBytes 2 a.bThreshold ++ [oneByte a.combine, oneByte a.notice, oneByte a.signal]
  | .writePattern a =>
    leBytes 2 a.first ++ [oneByte a.count] ++ a.entries.flatMap (fun e => rgbBytes e.colour ++ [oneByte e.coverage])
  | .definePattern a => leBytes 2 a.first ++ leBytes 2 a.length ++ [oneByte a.rep]
  | .deletePattern n => [oneByte n]
  | .writeKeys a =>
    leBytes 2 a.first ++ [oneByte a.count] ++ a.keys.flatMap (fun k => leBytes 2 k.1 ++ [oneByte k.2.1] ++ rgbBytes k.2.2)
  | .defineCue a =>
    [oneByte a.layer, oneByte a.count] ++ leBytes 2 a.duration ++ [oneByte a.loops, oneByte a.ending, oneByte a.autoShow] ++
      leBytes 2 a.release ++ a.tracks.flatMap (fun t => oneByte t.1 :: (leBytes 2 t.2.1 ++ [oneByte t.2.2]))
  | .deleteCue n => [oneByte n]
  | .bind a => [oneByte a.code, oneByte a.mask] ++ refBytes a.qual ++ [oneByte a.action, oneByte a.cue]
  | .unbind n => [oneByte n]
  | .timeQuery => []
  | .setClock a => [oneByte a.mode] ++ leBytes 6 a.value
  | .trimClock a => leBytes 3 a.value ++ [oneByte a.sense]
  | .readStatus => []
  | .subscribe m => leBytes 2 m
  | .readCapture n => [oneByte n]
  | .openLayer n => [oneByte n]
  | .editLayer a => editBytes a
  | .showLayer n => [oneByte n]
  | .hideLayer n => [oneByte n]
  | .closeLayer n => [oneByte n]
  | .gateClose n => leBytes 2 n
  | .gateOpen => []
  | .startCue a => [oneByte a.cue] ++ startFormBytes a.form
  | .stopCue n => [oneByte n]
  | .streamFrame a =>
    [oneByte a.layer] ++ timeBytes a.show' ++ [oneByte a.count] ++
      a.entries.flatMap (fun c => [oneByte c.r, oneByte c.g, oneByte c.b])
  | .holdZone a => [oneByte a.zone, oneByte a.tier]
  | .releaseZone n => [oneByte n]
  | .setFlags a => leBytes 4 a.mask.toNat ++ leBytes 4 a.values.toNat
  | .trigger n => [oneByte n]
  | .clearHealth a => leBytes 2 a.first ++ leBytes 2 a.count
  | .forget n => [oneByte n]
  | .enterRun => []
  | .enterSetup => []
  | .sleep => []
  | .restart => []

/-- The frame of a request with a tag: kind, tag, fields (11.7). -/
def requestBytes (tag : Byte) (r : Request) : List Byte :=
  oneByte (kindCode (requestKind r)) :: tag :: requestFields r

/-! ## Which requests have a frame: every field fits its bytes, every list its count -/

def rgbFits (bound : Nat) (c : Rgb) : Bool := decide (c.r < bound) && decide (c.g < bound) && decide (c.b < bound)

def refFits (r : Nat × Nat) : Bool := decide (r.1 < 256) && decide (r.2 < 256)

/-- A marked field is there exactly when the mask marks it, and fits its bytes. -/
def markFits {α : Type} (mask k : Nat) (x : Option α) (fits : α → Bool) : Bool :=
  x.isSome == (decide (mask < 2 ^ 11) && mask.testBit k) && x.all fits

def sourceFits : SourceArg → Bool
  | .solid c => rgbFits 65536 c
  | .pattern n => decide (n < 256)
  | .stream a => decide (a < 65536)
  | .unknown k => decide (2 < k) && decide (k < 256)

def startFormFits : StartForm → Bool
  | .atTime _ => true
  | .after d => decide (d < 2 ^ 32)
  | .next => true
  | .unknown k => decide (2 < k) && decide (k < 256)

/-- The request has a frame that says it. -/
def requestFits : Request → Bool
  | .setOrigin a =>
    [a.origin, a.maxTier, a.reserve, a.limit, a.timeSource].all (· < 256) &&
      [a.keyFirst, a.keyLast, a.patFirst, a.patLast].all (· < 65536) && a.windows.length == 4 &&
      a.windows.all (fun w => decide (w.1 < 256) && decide (w.2.1 < 65536) && decide (w.2.2 < 65536))
  | .setZone a =>
    [a.zone, a.kind, a.glare, a.count].all (· < 256) && rgbFits 65536 a.fallback &&
      a.spans.length == countIn 1 4 a.count &&
      a.spans.all (fun p => decide (p.1 < 65536) && decide (p.2.1 < 65536) && decide (p.2.2 < 256))
  | .clearZone n => decide (n < 256)
  | .setBin a => decide (a.bin < 256) && rgbFits 65536 a.gains && rgbFits 65536 a.coeffs
  | .setLampBin a => decide (a.first < 65536) && decide (a.count < 65536) && decide (a.bin < 256)
  | .setChain a => [a.loop, a.knee, a.enable].all (· < 256) && decide (a.budget < 65536)
  | .setLine a => [a.line, a.mode, a.debounce, a.wake, a.policy, a.mirror].all (· < 256) && decide (a.window < 65536)
  | .setFlagOwner a => [a.flag, a.writerKind, a.writer].all (· < 256)
  | .setGlare a => refFits a.refA && refFits a.refB && decide (a.cap < 65536)
  | .setFrame n => decide (n < 256)
  | .setWatch a =>
    [a.watch, a.enable, a.zone, a.measure, a.aKind, a.bKind, a.combine, a.notice, a.signal].all (· < 256) &&
      decide (a.aThreshold < 65536) && decide (a.bThreshold < 65536)
  | .writePattern a =>
    decide (a.first < 65536) && decide (a.count < 256) && a.entries.length == countIn 1 6 a.count &&
      a.entries.all (fun e => rgbFits 65536 e.colour && decide (e.coverage < 256))
  | .definePattern a => decide (a.first < 65536) && decide (a.length < 65536) && decide (a.rep < 256)
  | .deletePattern n => decide (n < 256)
  | .writeKeys a =>
    decide (a.first < 65536) && decide (a.count < 256) && a.keys.length == countIn 1 6 a.count &&
      a.keys.all (fun k => decide (k.1 < 65536) && decide (k.2.1 < 256) && rgbFits 65536 k.2.2)
  | .defineCue a =>
    [a.layer, a.count, a.loops, a.ending, a.autoShow].all (· < 256) && decide (a.duration < 65536) &&
      decide (a.release < 65536) && a.tracks.length == countIn 1 4 a.count &&
      a.tracks.all (fun t => decide (t.1 < 256) && decide (t.2.1 < 65536) && decide (t.2.2 < 256))
  | .deleteCue n => decide (n < 256)
  | .bind a => [a.code, a.mask, a.action, a.cue].all (· < 256) && refFits a.qual
  | .unbind n => decide (n < 256)
  | .timeQuery => true
  | .setClock a => decide (a.mode < 256) && decide (a.value < 2 ^ 48)
  | .trimClock a => decide (a.value < 2 ^ 24) && decide (a.sense < 256)
  | .readStatus => true
  | .subscribe m => decide (m < 65536)
  | .readCapture n => decide (n < 256)
  | .openLayer n => decide (n < 256)
  | .editLayer a =>
    decide (a.layer < 256) && decide (a.mask < 65536) && markFits a.mask 0 a.zones (fun n => decide (n < 2 ^ 32)) &&
      markFits a.mask 1 a.span (fun n => decide (n < 256)) &&
      markFits a.mask 2 a.holes (fun h => [h.1.1, h.1.2, h.2.1, h.2.2].all (· < 65536)) &&
      markFits a.mask 3 a.blend (fun n => decide (n < 256)) && markFits a.mask 4 a.opacity (fun n => decide (n < 256)) &&
      markFits a.mask 5 a.qual refFits && markFits a.mask 6 a.source sourceFits &&
      markFits a.mask 7 a.level (fun n => decide (n < 65536)) && markFits a.mask 8 a.offset (fun n => decide (n < 65536)) &&
      markFits a.mask 9 a.fadeIn (fun n => decide (n < 65536)) && markFits a.mask 10 a.fadeOut (fun n => decide (n < 65536))
  | .showLayer n => decide (n < 256)
  | .hideLayer n => decide (n < 256)
  | .closeLayer n => decide (n < 256)
  | .gateClose n => decide (n < 65536)
  | .gateOpen => true
  | .startCue a => decide (a.cue < 256) && startFormFits a.form
  | .stopCue n => decide (n < 256)
  | .streamFrame a =>
    decide (a.layer < 256) && decide (a.count < 256) && a.entries.length == countIn 1 16 a.count &&
      a.entries.all (rgbFits 256)
  | .holdZone a => decide (a.zone < 256) && decide (a.tier < 256)
  | .releaseZone n => decide (n < 256)
  | .setFlags _ => true
  | .trigger n => decide (n < 256)
  | .clearHealth a => decide (a.first < 65536) && decide (a.count < 65536)
  | .forget n => decide (n < 256)
  | .enterRun => true
  | .enterSetup => true
  | .sleep => true
  | .restart => true

end Sys2Proof.Machine
end

