-- ==== Sys2Proof/WellFormed.lean ====
section
/-! DEFINITION. Which commands a bus, a loop or a pin can give at all: the operands that no type rules out. -/

namespace Sys2Proof

/-- The data lengths a CAN FD frame can have, in bytes (the smallest that holds a frame's bytes is sent, R183). -/
def canFdLengths : List Nat := [0, 1, 2, 3, 4, 5, 6, 7, 8, 12, 16, 20, 24, 32, 48, 64]

/-- A data frame has a CAN FD data length, and a remote frame carries no data. -/
def FrameFormat.dataOk (fmt : FrameFormat) (n : Nat) : Bool :=
  match fmt with
  | .remote => n == 0
  | _ => canFdLengths.contains n

/-- An 11-bit identifier is below 2^11; an extended one is below 2^29 (R174). A remote frame may be either. -/
def FrameFormat.identOk (fmt : FrameFormat) (ident : Nat) : Bool :=
  match fmt with
  | .data11 => decide (ident < 2 ^ 11)
  | _ => decide (ident < 2 ^ 29)

/-- A command some agent can give: a frame the bus can carry. Every other operand's type admits only what a pin, a
loop or a bus can give. -/
def Instr.wf : Instr → Bool
  | .frameReceived _ fmt ident data => fmt.dataOk data.length && fmt.identOk ident
  | _ => true

end Sys2Proof
end

