-- ==== Sys2Proof/Machine/Ports.lean ====
section
/-! DEFINITION. Message Ports (11): channels, reception and intake, taking a request, sending. -/

namespace Sys2Proof.Machine

/-! ## Channels (R174, R175) -/

/-- A channel's state (R175). -/
inductive ChannelState where
  | active | passive | offline
  deriving DecidableEq, Repr

/-- The state follows the counters at once (R175). -/
def channelState (c : Channel) : ChannelState :=
  if c.txErrors > 255 then .offline
  else if c.txErrors ≤ 127 ∧ c.rxErrors ≤ 127 then .active
  else .passive

/-- A channel's controller. -/
def State.chan (s : State) : Chan → Channel
  | .ca => s.mp.ca
  | .cb => s.mp.cb

/-- Replaces a channel's controller. -/
def State.setChan (s : State) (ch : Chan) (c : Channel) : State :=
  match ch with
  | .ca => { s with mp := { s.mp with ca := c } }
  | .cb => { s with mp := { s.mp with cb := c } }

/-- The channel is OFFLINE: it neither transmits nor receives (R175). -/
def State.offline (s : State) (ch : Chan) : Bool := channelState (s.chan ch) == .offline

/-- The base of the part's frame identifiers (R174). -/
def baseIdent (strap : Fin 8) : Nat := 0x600 + 0x10 * strap.val

/-- The origin whose request identifier this is (R174). -/
def requestOrigin? (strap : Fin 8) (ident : Nat) : Option Origin :=
  if ident < baseIdent strap then none else Origin.ofNat? (ident - baseIdent strap)

/-! ## Reception (R176, R177) -/

/-- A wake event: in ASLEEP the part becomes WAKING; in every other state nothing changes (R192). -/
def State.wakeEvent (s : State) : State :=
  match s.ps.state with
  | .asleep => { s with ps := { s.ps with state := .waking, wakeSince := some s.sc.local' } }
  | _ => s

/-- A frame received without error lowers the receive count (R175). -/
def State.countReceived (s : State) (ch : Chan) : State :=
  s.setChan ch { s.chan ch with rxErrors := (s.chan ch).rxErrors - 1 }

/-- Offers a request to its origin's intake queue: placed last, or dropped with the lost-request flag set when the
queue holds 8 (R177). -/
def State.offer (s : State) (o : Origin) (rq : Intake) : State :=
  let p := s.port o
  if p.intake.length < queuePlaces then s.setPort o { p with intake := p.intake ++ [rq] }
  else s.setPort o { p with lost := true }

/-- The reception of a frame with a request identifier of origin `o` (R176), in the rule's order. A frame of 0 or 1
bytes is discarded after the wake event. -/
def State.receive (s : State) (ch : Chan) (o : Origin) (data : List Byte) : State :=
  let stamp := s.sc.scene
  let s1 := s.countReceived ch
  let s2 := s1.setPort o { s1.port o with home := ch }
  let s3 := s2.wakeEvent
  if data.length < 2 then s3 else s3.offer o ⟨data, stamp, ch⟩

/-- FRAME_RECEIVED (R174, R176). Frames of another format or identifier, and frames on an OFFLINE channel, are not
received and change nothing. -/
def execFrameReceived (ch : Chan) (fmt : FrameFormat) (ident : Nat) (data : List Byte) (s : State) :
    Host.Outcome State Fault Refusal :=
  match fmt, requestOrigin? s.mp.strap ident with
  | .data11, some o => s.liveWhen (!s.offline ch) (s.receive ch o data)
  | _, _ => .next s

/-! ## Taking a request (R178, R179) -/

/-- The kind of a request, `none` when its kind byte names no request. -/
def Intake.kind? (rq : Intake) : Option Kind := kindOf? (byteAt rq.data 0)

/-- A request can be taken: the part state lets requests be taken, and its origin's transmit queue has a free place
or it is a STREAM_FRAME (R178). -/
def State.canTake (s : State) (o : Origin) (rq : Intake) : Bool :=
  s.ps.state.takes && (decide ((s.port o).tx.length < queuePlaces) || rq.kind? == some .streamFrame)

/-- The request of `o` that can be taken now: the front of its intake queue. -/
def State.ready (s : State) (o : Origin) : Option Intake :=
  match (s.port o).intake with
  | [] => none
  | rq :: _ => if s.canTake o rq then some rq else none

/-- The state once the front request of `o` has left its intake queue. -/
def State.popIntake (s : State) (o : Origin) : State :=
  s.setPort o { s.port o with intake := (s.port o).intake.tail }

/-- The request is shorter than its kind requires (R179). -/
def shortFrame (k : Kind) (rq : Intake) : Bool := decide (rq.data.length < requiredLength k rq.data)

/-- Takes the front request of `o`, when it can be taken and is of kind `k` (`none`: of an unknown kind), makes the
check for a short frame, and hands it to its owning block, whose checks, effect and reply are `serve` (R178, R179). A
short STREAM_FRAME is discarded with no reply (R49). Where the front request is no such request, or has to wait, nothing
changes (log entry 6). -/
def takeRequest (k : Option Kind) (o : Origin) (s : State) (serve : Taken → State → State) :
    Host.Outcome State Fault Refusal :=
  match s.ready o with
  | none => .next s
  | some rq =>
    let tk : Taken := ⟨o, rq⟩
    let s1 := s.popIntake o
    s.liveWhen (rq.kind? == k)
      (match k with
      | none => serve tk s1
      | some k =>
        if shortFrame k rq then (if k = .streamFrame then s1 else s1.refuse tk .badValue)
        else serve tk s1)

/-- A request's checks and work: a refusal code, or the state with the work done and the reply entered. -/
abbrev Served := Except Code State

/-- Enters the refusal where the owning block's checks fail. -/
def answer (tk : Taken) (s : State) (r : Served) : State :=
  match r with
  | .ok s' => s'
  | .error c => s.refuse tk c

/-- A check of an owning block: refused with `c` when `bad` holds. -/
def require (bad : Bool) (c : Code) : Except Code Unit := if bad then .error c else .ok ()

/-- The value a check found, refused with `c` when there is none. -/
def found {α : Type} (x : Option α) (c : Code) : Except Code α :=
  match x with
  | some a => .ok a
  | none => .error c

/-- Every value of a list, where each is there. -/
def allFound {α : Type} : List (Option α) → Option (List α)
  | [] => some []
  | none :: _ => none
  | some x :: rest => (allFound rest).map (x :: ·)

/-- The checks that every configuration request begins with (R188): NO_RIGHT for MEDIA and ASSIST, then WRONG_STATE
outside SETUP. -/
def configChecks (tk : Taken) (s : State) : Except Code Unit := do
  require (!tk.origin.mayConfigure) .noRight
  require (!s.inSetup) .wrongState

/-- REQUEST_UNKNOWN_KIND (R179): refused UNKNOWN_KIND. -/
def execRequestUnknownKind (o : Origin) (s : State) : Host.Outcome State Fault Refusal :=
  takeRequest none o s fun tk s => s.refuse tk .unknownKind

/-- SUBSCRIBE (R185): refused BAD_VALUE when any of bits 10 to 15 is set, else replaces the requester's mask. -/
def serveSubscribe (tk : Taken) (mask : Nat) (s : State) : Served := do
  require (decide (mask ≥ 2 ^ 10)) .badValue
  let s1 := s.setPort tk.origin { s.port tk.origin with mask := BitVec.ofNat 10 mask }
  return s1.done tk (leBytes 2 mask)

def execSubscribe (o : Origin) (s : State) : Host.Outcome State Fault Refusal :=
  takeRequest (some .subscribe) o s fun tk s => answer tk s (serveSubscribe tk (leAt tk.req.data 2 2) s)

/-! ## Sending (R182, R183) -/

/-- A frame of an origin is eligible on a channel (R183). -/
def eligible (home ch : Chan) (f : TxFrame) : Bool :=
  f.sendingOn.isNone &&
    (match f.bound with
    | some b => b == ch
    | none => home == ch)

/-- The frame whose transmission has begun on a channel, with its origin. -/
def State.sending (s : State) (ch : Chan) : Option (Origin × TxFrame) :=
  Origin.all.findSome? fun o => ((s.port o).tx.find? fun f => f.sendingOn == some ch).map fun f => (o, f)

/-- The origin whose candidate the channel offers next: the lowest numbered with an eligible frame (R183). -/
def State.nextSender (s : State) (ch : Chan) : Option Origin :=
  Origin.all.find? fun o => (s.port o).tx.any (eligible (s.port o).home ch)

/-- The frames with the first that `p` holds for changed by `f`. -/
def changeFirst (p : TxFrame → Bool) (f : TxFrame → TxFrame) : List TxFrame → List TxFrame
  | [] => []
  | x :: xs => if p x then f x :: xs else x :: changeFirst p f xs

/-- A channel may pick its next frame: it is not OFFLINE and is not transmitting (R183). -/
def State.maySend (s : State) (ch : Chan) : Bool := !s.offline ch && (s.sending ch).isNone

/-- The state once the channel has begun to send the earliest eligible frame of `o`. -/
def State.beginSend (s : State) (ch : Chan) (o : Origin) : State :=
  let p := s.port o
  s.setPort o { p with tx := changeFirst (eligible p.home ch) (fun f => { f with sendingOn := some ch }) p.tx }

/-- FRAME_TRANSMIT_START (R183). -/
def execFrameTransmitStart (ch : Chan) (s : State) : Host.Outcome State Fault Refusal :=
  match s.nextSender ch with
  | none => .next s
  | some o => s.liveWhen (s.maySend ch) (s.beginSend ch o)

/-- The state once the frame being sent on a channel has left its transmit queue, and the transmit count is lowered
(R175, R183). -/
def State.finishSend (s : State) (ch : Chan) (o : Origin) : State :=
  let p := s.port o
  let s1 := s.setPort o { p with tx := p.tx.eraseP fun f => f.sendingOn == some ch }
  s1.setChan ch { s1.chan ch with txErrors := (s1.chan ch).txErrors - 1 }

/-- FRAME_TRANSMITTED (R182, R183). -/
def execFrameTransmitted (ch : Chan) (s : State) : Host.Outcome State Fault Refusal :=
  match s.sending ch with
  | none => .next s
  | some (o, _) => s.liveWhen (!s.offline ch) (s.finishSend ch o)

/-- The frames of a queue with a transmission in progress on the channel abandoned: they wait again (R175). -/
def abandonOn (ch : Chan) (tx : List TxFrame) : List TxFrame :=
  tx.map fun f => if f.sendingOn = some ch then { f with sendingOn := none } else f

/-- Every transmission in progress on a channel is abandoned and its frame waits again (R175). -/
def State.abandonSend (s : State) (ch : Chan) : State :=
  { s with mp := { s.mp with ports := mapAt s.mp.ports fun _ p => { p with tx := abandonOn ch p.tx } } }

/-- The counters after an error event: a transmit error raises the transmit count by 8, held at 256 once it passes
255; a receive error raises the receive count by 1, up to 255 (R175). -/
def countError (c : Channel) : ErrorKind → Channel
  | .transmit => { c with txErrors := min 256 (c.txErrors + 8) }
  | .receive => { c with rxErrors := min 255 (c.rxErrors + 1) }

/-- An error event on a channel; a channel that goes OFFLINE abandons its transmission (R175). -/
def State.channelErr (s : State) (ch : Chan) (kind : ErrorKind) : State :=
  let s1 := s.setChan ch (countError (s.chan ch) kind)
  if s1.offline ch then s1.abandonSend ch else s1

/-- CHANNEL_ERROR (R175). An OFFLINE channel neither transmits nor receives, so it has no error
event (log entry 15). -/
def execChannelError (ch : Chan) (kind : ErrorKind) (s : State) : Host.Outcome State Fault Refusal :=
  s.liveWhen (!s.offline ch) (s.channelErr ch kind)

/-- CHANNEL_RECOVERY (R175): an OFFLINE channel returns to ACTIVE with both counts 0. -/
def execChannelRecovery (ch : Chan) (s : State) : Host.Outcome State Fault Refusal :=
  s.liveWhen (s.offline ch) (s.setChan ch ⟨0, 0⟩)

/-- A frame's bytes as sent: the smallest CAN FD data length that holds them, filled with 00h (R183). -/
def padFrame (bytes : List Byte) : List Byte :=
  let n := (canFdLengths.find? fun n => decide (bytes.length ≤ n)).getD bytes.length
  bytes ++ List.replicate (n - bytes.length) 0

/-- What a channel is sending: the identifier base + 8 + n and the padded bytes (R174, R183). -/
def State.onWire (s : State) (ch : Chan) : Option (Nat × List Byte) :=
  (s.sending ch).map fun x => (baseIdent s.mp.strap + 8 + x.1.idx.val, padFrame x.2.bytes)

end Sys2Proof.Machine
end

