-- ==== Sys2Proof/Machine/Clock.lean ====
section
/-! DEFINITION. Scene Clock (05): both clocks, the trim corrector, setting and stepping, the frame timer's period. -/

namespace Sys2Proof.Machine

/-! ## One microsecond (R78, R80, R81) -/

/-- The corrector is suspended in ASLEEP and WAKING (R81). -/
def State.trimSuspended (s : State) : Bool := s.ps.state == .asleep || s.ps.state == .waking

/-- What the accumulator reaches in the next microsecond (R81). -/
def State.trimSum (s : State) : Nat := s.sc.acc.toNat + s.sc.trim.toNat

/-- The corrector acts in the next microsecond (R81). -/
def State.trimDue (s : State) : Bool := !s.trimSuspended && decide (s.trimSum ≥ 2 ^ 24)

/-- How far the scene clock advances in the next microsecond: 1, or 2 or 0 when the corrector acts (R78, R81). -/
def State.clockStep (s : State) : Nat :=
  if s.trimDue then (match s.sc.sense with
    | .add => 2
    | .subtract => 0)
  else 1

/-- One microsecond of local time (R78, R80, R81). -/
def State.microsecond (s : State) : State :=
  { s with sc := { s.sc with
      scene := timePlus s.sc.scene s.clockStep
      local' := timePlus s.sc.local' 1
      acc := if s.trimSuspended then s.sc.acc else BitVec.ofNat 24 s.trimSum } }

/-- TRIM_CORRECTION (R81): the microsecond in which the accumulator passes 2^24. -/
def execTrimCorrection (s : State) : Host.Outcome State Fault Refusal := s.liveWhen s.trimDue s.microsecond

/-! ## The frame timer (R87, R88) -/

/-- The clock is not before the next frame time, and the timer is not stopped (R87). -/
def State.frameTimeReached (s : State) : Bool :=
  match s.sc.nextFrame with
  | none => false
  | some t => decide (timeDiff s.sc.scene t ≥ 0)

/-- The part state lets frame starts be raised: SETUP and RUN (R88). -/
def State.framesRun (s : State) : Bool := s.ps.state == .setup || s.ps.state == .run

/-- A frame start is due: the timer has reached it, frames run, and the compose of the frame before has completed, as
it always has by then (R57, R87, R88; log entry 11). -/
def State.frameDue (s : State) : Bool := s.frameTimeReached && s.framesRun && s.co.inFlight.isNone

/-- Raises a frame start with frame time `tf`: the period last set comes into force, and the next frame time is one
period later (R87, R89). -/
def State.raiseFrame (s : State) (tf : Time) : State :=
  { s with sc := { s.sc with
      period := s.sc.periodSet
      nextFrame := some (timePlus tf (s.sc.periodSet * 1000))
      lastFrame := some ⟨tf, s.sc.local'⟩ } }

/-- SET_FRAME (R89): 0 selects 10 ms; other periods are brought into 5 to 20. -/
def serveSetFrame (tk : Taken) (period : Nat) (s : State) : Served := do
  configChecks tk s
  let p := if period = 0 then 10 else max 5 (min 20 period)
  let s1 := { s with sc := { s.sc with periodSet := p } }
  return s1.reply tk .done (decide (period ≠ 0 ∧ p ≠ period)) false []

def execSetFrame (o : Origin) (s : State) : Host.Outcome State Fault Refusal :=
  takeRequest (some .setFrame) o s fun tk s => answer tk s (serveSetFrame tk (byteAt tk.req.data 2) s)

/-! ## Setting, stepping, trimming (R82, R83, R84, R114) -/

/-- A cue's times after a step of `d`: the start and the release start of a running or releasing cue move with the
clock (R84, R114). -/
def shiftRun (d : Time) : Run → Run
  | .ready => .ready
  | .scheduled => .scheduled
  | .running start latest => .running (start + d) latest
  | .releasing start rel frozen => .releasing (start + d) (rel + d) frozen

/-- Sets the scene clock: the frame timer is re-anchored one period ahead, running cues keep their phase, and no
earlier frame start is measured from any more (R84, R114; log entry 3). -/
def State.setScene (s : State) (c : Time) : State :=
  let d := c - s.sc.scene
  { s with
    sc := { s.sc with
      scene := c
      nextFrame := some (timePlus c (s.sc.period * 1000))
      lastFrame := none }
    ce := { s.ce with cues := mapAt s.ce.cues fun _ c => c.map fun c => { c with run := shiftRun d c.run } } }

/-- SET_CLOCK (R83): mode ABSOLUTE 0 or STEP 1; the reply carries the clock after the set. -/
def serveSetClock (tk : Taken) (a : SetClockArgs) (s : State) : Served := do
  require (s.ot.timeSource ≠ tk.origin) .notOwner
  require (decide (a.mode > 1)) .badValue
  let v := BitVec.ofNat 48 a.value
  let c := if a.mode = 0 then v else s.sc.scene + v
  return (s.setScene c).done tk (timeBytes c)

def execSetClock (o : Origin) (s : State) : Host.Outcome State Fault Refusal :=
  takeRequest (some .setClock) o s fun tk s => answer tk s (serveSetClock tk (setClockArgs tk.req.data) s)

/-- TRIM_CLOCK (R82): replaces the trim value and sense, clears the accumulator. -/
def serveTrimClock (tk : Taken) (a : TrimClockArgs) (s : State) : Served := do
  require (s.ot.timeSource ≠ tk.origin) .notOwner
  let sense ← found (trimSense? a.sense) .badValue
  let s1 := { s with sc := { s.sc with trim := BitVec.ofNat 24 a.value, sense := sense, acc := 0 } }
  return s1.done tk []

def execTrimClock (o : Origin) (s : State) : Host.Outcome State Fault Refusal :=
  takeRequest (some .trimClock) o s fun tk s => answer tk s (serveTrimClock tk (trimClockArgs tk.req.data) s)

def senseByte : TrimSense → Byte
  | .add => 0
  | .subtract => 1

/-- The result fields of TIME_QUERY (R86, 11.7). -/
def timeQueryBytes (tk : Taken) (s : State) : List Byte :=
  timeBytes tk.req.stamp ++ timeBytes s.sc.scene ++ timeBytes s.sc.local' ++ leBytes 3 s.sc.trim.toNat ++
    [senseByte s.sc.sense, oneByte s.sc.period, boolByte s.sc.nextFrame.isSome] ++
    timeBytes (s.sc.nextFrame.getD 0) ++ [originByte s.ot.timeSource]

/-- TIME_QUERY (R86): never refused. -/
def execTimeQuery (o : Origin) (s : State) : Host.Outcome State Fault Refusal :=
  takeRequest (some .timeQuery) o s fun tk s => s.done tk (timeQueryBytes tk s)

end Sys2Proof.Machine
end

