-- ==== Sys2Proof/Machine/Zones.lean ====
section
/-! DEFINITION. Lamp space and zones (01), and the Compositor's configuration: bins, lamp-to-bin map, glare setting
(R68, R70, R71). -/

namespace Sys2Proof.Machine

/-! ## Lamps (R1, R2) -/

/-- The lamp at node position `k` of loop `l`: index 64 L + k (R1). -/
def lampAt (l : LoopNo) (k : Fin 64) : LampNo := ⟨64 * l.val + k.val, by omega⟩

/-- The loop of a lamp (R1). -/
def lampLoop (lam : LampNo) : LoopNo := ⟨lam.val / 64, by omega⟩

/-- The node position of a lamp on its loop (R1). -/
def lampNode (lam : LampNo) : Nat := lam.val % 64

/-- A lamp is present when its node position is less than its loop's node count (R2). -/
def lampPresent (nodes : Vector Nat 6) (lam : LampNo) : Bool := decide (lampNode lam < nodes[lampLoop lam])

/-! ## Zones (R5, R8, R10, R11) -/

/-- The place of a lamp in a span, counted in the span's direction (R8). -/
def spanPos (sp : Span) (lam : Nat) : Option Nat :=
  if sp.down then
    if lam ≤ sp.first ∧ sp.first < lam + sp.count then some (sp.first - lam) else none
  else if sp.first ≤ lam ∧ lam < sp.first + sp.count then some (lam - sp.first) else none

/-- The position of a lamp in a span list: the spans in order, each in its direction (R8). -/
def spansPos : List Span → Nat → Option Nat
  | [], _ => none
  | sp :: rest, lam =>
    match spanPos sp lam with
    | some p => some p
    | none => (spansPos rest lam).map (· + sp.count)

/-- The length of a zone: the sum of the span counts (R5). -/
def zoneLength (z : Zone) : Nat := (z.spans.map (·.count)).sum

/-- The lamp's position in the zone (R8). -/
def zonePos (z : Zone) (lam : LampNo) : Option Nat := spansPos z.spans lam.val

/-- The zone's lamps. -/
def zoneHas (z : Zone) (lam : LampNo) : Bool := (zonePos z lam).isSome

/-- The length of the zone with number `z`: 0 while it is undefined (R5). -/
def lengthOf (zones : Vector (Option Zone) 32) (z : ZoneNo) : Nat :=
  match zones[z] with
  | none => 0
  | some x => zoneLength x

/-- A lamp lies in the defined zone with number `z`. -/
def inZone (zones : Vector (Option Zone) 32) (z : ZoneNo) (lam : LampNo) : Bool :=
  match zones[z] with
  | none => false
  | some x => zoneHas x lam

/-- The zone a lamp lies in, if any: no lamp lies in two (R12). -/
def zoneOf (zones : Vector (Option Zone) 32) (lam : LampNo) : Option ZoneNo :=
  (List.finRange 32).find? fun z => inZone zones z lam

/-! ## SET_ZONE and CLEAR_ZONE (R12, R13, R14) -/

/-- The lowest and the highest index a span covers. -/
def spanLow (sp : Span) : Nat := if sp.down then sp.first + 1 - sp.count else sp.first
def spanHigh (sp : Span) : Nat := if sp.down then sp.first else sp.first + sp.count - 1

/-- Every index the span covers names a lamp (R12, check 4). -/
def spanInRange (sp : Span) : Bool :=
  decide (sp.first ≤ 383) && (if sp.down then decide (sp.count ≤ sp.first + 1) else decide (sp.first + sp.count ≤ 384))

/-- Two spans cover a lamp in common. -/
def spansShare (a b : Span) : Bool := decide (spanLow a ≤ spanHigh b) && decide (spanLow b ≤ spanHigh a)

/-- Some span of one list shares a lamp with some span of the other. -/
def listsShare (as bs : List Span) : Bool := as.any fun a => bs.any fun b => spansShare a b

/-- Two spans of one list share a lamp (R12, check 5). -/
def selfShare : List Span → Bool
  | [] => false
  | a :: rest => rest.any (spansShare a) || selfShare rest

/-- A lamp of the spans lies in a defined zone other than `z` (R12, check 6). -/
def sharesOther (zones : Vector (Option Zone) 32) (z : ZoneNo) (spans : List Span) : Bool :=
  (List.finRange 32).any fun y => y != z &&
    (match zones[y] with
    | none => false
    | some x => listsShare spans x.spans)

/-- A span field: count 1 to 384, direction UP 0 or DOWN 1 (R12, check 3). -/
def span? (a : Nat × Nat × Nat) : Option Span :=
  match yesNo? a.2.2 with
  | none => none
  | some down => if 1 ≤ a.2.1 ∧ a.2.1 ≤ 384 then some ⟨a.1, a.2.1, down⟩ else none

/-- Replaces a zone record. -/
def State.setZoneRec (s : State) (z : ZoneNo) (x : Option Zone) : State :=
  { s with co := { s.co with zones := setAt s.co.zones z x } }

def serveSetZone (tk : Taken) (a : SetZoneArgs) (s : State) : Served := do
  configChecks tk s
  let z ← found (fin? 32 a.zone) .badValue
  let kind ← found (zoneKind? a.kind) .badValue
  let glare ← found (yesNo? a.glare) .badValue
  require (decide (countIn 1 4 a.count = 0)) .badValue
  let spans ← found (allFound (a.spans.map span?)) .badValue
  require (!spans.all spanInRange) .badValue
  require (selfShare spans) .overlap
  require (sharesOther s.co.zones z spans) .overlap
  return (s.setZoneRec z (some ⟨kind, glare, a.fallback, spans⟩)).done tk []

/-- SET_ZONE (R12, R13). -/
def execSetZone (o : Origin) (s : State) : Host.Outcome State Fault Refusal :=
  takeRequest (some .setZone) o s fun tk s => answer tk s (serveSetZone tk (setZoneArgs tk.req.data) s)

def serveClearZone (tk : Taken) (zone : Nat) (s : State) : Served := do
  configChecks tk s
  let z ← found (fin? 32 zone) .badValue
  require s.co.zones[z].isNone .notFound
  return (s.setZoneRec z none).done tk []

/-- CLEAR_ZONE (R14). -/
def execClearZone (o : Origin) (s : State) : Host.Outcome State Fault Refusal :=
  takeRequest (some .clearZone) o s fun tk s => answer tk s (serveClearZone tk (byteAt tk.req.data 2) s)

/-! ## Bins, lamp-to-bin map, glare setting (R68, R71) -/

def serveSetBin (tk : Taken) (a : SetBinArgs) (s : State) : Served := do
  configChecks tk s
  let b ← found (fin? 16 a.bin) .badValue
  let s1 := { s with co := { s.co with bins := setAt s.co.bins b ⟨a.gains, a.coeffs⟩ } }
  return s1.done tk []

/-- SET_BIN (R71). -/
def execSetBin (o : Origin) (s : State) : Host.Outcome State Fault Refusal :=
  takeRequest (some .setBin) o s fun tk s => answer tk s (serveSetBin tk (setBinArgs tk.req.data) s)

/-- A range of lamps first to first + count - 1 that the part has: count 1 to 384, within 0 to 383 (R71, R164). -/
def rangeOk (first count : Nat) : Bool :=
  decide (1 ≤ count ∧ count ≤ 384 ∧ first ≤ 383 ∧ first + count ≤ 384)

/-- A lamp lies in the range. -/
def inRange (first count : Nat) (lam : LampNo) : Bool := decide (first ≤ lam.val ∧ lam.val < first + count)

def serveSetLampBin (tk : Taken) (a : SetLampBinArgs) (s : State) : Served := do
  configChecks tk s
  let b ← found (fin? 16 a.bin) .badValue
  require (!rangeOk a.first a.count) .badValue
  let map := mapAt s.co.lampBin fun lam old => if inRange a.first a.count lam then b else old
  let s1 := { s with co := { s.co with lampBin := map } }
  return s1.done tk []

/-- SET_LAMP_BIN (R71). -/
def execSetLampBin (o : Origin) (s : State) : Host.Outcome State Fault Refusal :=
  takeRequest (some .setLampBin) o s fun tk s => answer tk s (serveSetLampBin tk (setLampBinArgs tk.req.data) s)

def serveSetGlare (tk : Taken) (a : SetGlareArgs) (s : State) : Served := do
  configChecks tk s
  let refA ← found (flagRef? a.refA.1 a.refA.2) .badValue
  let refB ← found (flagRef? a.refB.1 a.refB.2) .badValue
  let s1 := { s with co := { s.co with glare := ⟨refA, refB, a.cap⟩ } }
  return s1.done tk []

/-- SET_GLARE (R68). -/
def execSetGlare (o : Origin) (s : State) : Host.Outcome State Fault Refusal :=
  takeRequest (some .setGlare) o s fun tk s => answer tk s (serveSetGlare tk (setGlareArgs tk.req.data) s)

end Sys2Proof.Machine
end

