-- ==== Sys2Proof/Machine/Origins.lean ====
section
/-! DEFINITION. Origin Table (08): records, targetability, zone holds. FORGET stands in Forget.lean. -/

namespace Sys2Proof.Machine

/-- An origin's record (R135). -/
def State.originRec (s : State) (o : Origin) : OriginRec := s.ot.recs[o.idx]

/-- Replaces a zone's hold record (R141). -/
def State.setHold (s : State) (z : ZoneNo) (h : Option Hold) : State :=
  { s with ot := { s.ot with holds := setAt s.ot.holds z h } }

/-! ## SET_ORIGIN (R136, R137) -/

/-- Two ranges (first, last) share a number (R136, check 5). -/
def rangesShare (f l f' l' : Nat) : Bool := decide (f ≤ l') && decide (f' ≤ l)

/-- A window field: an enabled one has its last lamp in 0 to 383 and its first not above its last; a disabled one is
stored as given (R136). -/
def window? (w : Nat × Nat × Nat) : Option Window :=
  match yesNo? w.1 with
  | none => none
  | some false => some ⟨false, w.2.1, w.2.2⟩
  | some true => if w.2.2 ≤ 383 ∧ w.2.1 ≤ w.2.2 then some ⟨true, w.2.1, w.2.2⟩ else none

/-- The four windows of a request. -/
def fourWindows : List Window → Vector Window 4
  | [a, b, c, d] => #v[a, b, c, d]
  | _ => OriginRec.windowsFresh

/-- The reserves of the origins other than `o`, as they stand. -/
def otherReserves (s : State) (o : Origin) : Nat :=
  (Origin.all.map fun q => if q = o then 0 else (s.originRec q).reserve).sum

/-- A range of the request shares with another origin's (R136, check 5). -/
def rangesTaken (s : State) (o : Origin) (a : SetOriginArgs) : Bool :=
  Origin.all.any fun q => q != o &&
    (rangesShare a.keyFirst a.keyLast (s.originRec q).keyFirst (s.originRec q).keyLast ||
      rangesShare a.patFirst a.patLast (s.originRec q).patFirst (s.originRec q).patLast)

def serveSetOrigin (tk : Taken) (a : SetOriginArgs) (s : State) : Served := do
  configChecks tk s
  let o ← found (Origin.ofNat? a.origin) .badValue
  let tier ← found (fin? 6 a.maxTier) .badValue
  require (decide (a.limit > 16 ∨ a.reserve > a.limit)) .badValue
  let windows ← found (allFound (a.windows.map window?)) .badValue
  let mark ← found (yesNo? a.timeSource) .badValue
  require (decide (a.keyLast > 1023 ∨ a.keyFirst > a.keyLast)) .badValue
  require (decide (a.patLast > 4095 ∨ a.patFirst > a.patLast)) .badValue
  require (decide (a.reserve + otherReserves s o > 16)) .badValue
  require (rangesTaken s o a) .overlap
  let rec' : OriginRec := ⟨tier, a.reserve, a.limit, fourWindows windows, a.keyFirst, a.keyLast, a.patFirst, a.patLast⟩
  let s1 := { s with ot := { s.ot with
    recs := setAt s.ot.recs o.idx rec'
    timeSource := if mark then o else s.ot.timeSource } }
  return s1.done tk []

/-- SET_ORIGIN (R136, R137, R138). -/
def execSetOrigin (o : Origin) (s : State) : Host.Outcome State Fault Refusal :=
  takeRequest (some .setOrigin) o s fun tk s => answer tk s (serveSetOrigin tk (setOriginArgs tk.req.data) s)

/-! ## Rights (R139, R140) -/

/-- A lamp lies in an enabled window of the record (R139). -/
def inWindows (r : OriginRec) (lam : LampNo) : Bool :=
  r.windows.toList.any fun w => w.enabled && decide (w.first ≤ lam.val ∧ lam.val ≤ w.last)

/-- A zone is targetable by an origin: it is defined and each of its lamps lies in an enabled window (R15, R139). -/
def State.targetable (s : State) (o : Origin) (z : ZoneNo) : Bool :=
  s.co.zones[z].isSome &&
    (List.finRange 384).all fun lam => !inZone s.co.zones z lam || inWindows (s.originRec o) lam

/-- A run of `count` keyframes from `first` lies in the origin's keyframe range (R92). -/
def keysInRange (r : OriginRec) (first count : Nat) : Bool :=
  decide (r.keyFirst ≤ first ∧ first + count ≤ r.keyLast + 1)

/-- A run of `count` entries from `first` lies in the origin's pattern range (R40). -/
def entriesInRange (r : OriginRec) (first count : Nat) : Bool :=
  decide (r.patFirst ≤ first ∧ first + count ≤ r.patLast + 1)

/-! ## Zone holds (R142, R143, R144) -/

/-- The holder fields of a HOLD_ZONE reply (11.7). -/
def holdBytes (h : Hold) (former : Option Origin) : List Byte :=
  [originByte h.holder, oneByte h.tier.val, match former with
    | none => 0xFF
    | some q => originByte q]

/-- A HOLD_ZONE that passed its checks meets the zone's record: taken, changed, taken over with HOLD_LOST to the
displaced holder, or refused ZONE_HELD (R142, R143). -/
def takeHold (tk : Taken) (z : ZoneNo) (tier : Tier) (s : State) : State :=
  let o := tk.origin
  let h : Hold := ⟨o, tier⟩
  match s.ot.holds[z] with
  | none => (s.setHold z (some h)).done tk (holdBytes h none)
  | some g =>
    if g.holder = o then (s.setHold z (some h)).done tk (holdBytes h none)
    else if g.tier < tier then
      ((s.setHold z (some h)).done tk (holdBytes h (some g.holder))).notify g.holder (.holdLost z o tier)
    else s.reply tk .zoneHeld false false (holdBytes g none)

def serveHoldZone (tk : Taken) (a : HoldZoneArgs) (s : State) : Served := do
  require s.inSetup .wrongState
  let z ← found (fin? 32 a.zone) .badValue
  let tier ← found (fin? 6 a.tier) .badValue
  require (!s.targetable tk.origin z || decide (tier > (s.originRec tk.origin).maxTier)) .noRight
  return takeHold tk z tier s

/-- HOLD_ZONE (R142). -/
def execHoldZone (o : Origin) (s : State) : Host.Outcome State Fault Refusal :=
  takeRequest (some .holdZone) o s fun tk s => answer tk s (serveHoldZone tk (holdZoneArgs tk.req.data) s)

/-- The origin that holds a zone. -/
def State.holder (s : State) (z : ZoneNo) : Option Origin := s.ot.holds[z].map (·.holder)

def serveReleaseZone (tk : Taken) (zone : Nat) (s : State) : Served := do
  require s.inSetup .wrongState
  let z ← found (fin? 32 zone) .badValue
  require (s.holder z != some tk.origin) .notOwner
  return (s.setHold z none).done tk []

/-- RELEASE_ZONE (R144). -/
def execReleaseZone (o : Origin) (s : State) : Host.Outcome State Fault Refusal :=
  takeRequest (some .releaseZone) o s fun tk s => answer tk s (serveReleaseZone tk (byteAt tk.req.data 2) s)

end Sys2Proof.Machine
end

