-- ==== Sys2Proof/Machine/Sources.lean ====
section
/-! DEFINITION. Source Store (03): pattern memory, pattern slots, stream queues. -/

namespace Sys2Proof.Machine

/-! ## Pattern memory and slots (R39 to R46) -/

/-- The `first` and `count` of a run within a buffer of `size` entries (R41, R43, R93, R95). -/
def runInside (first count size : Nat) : Bool := decide (first < size ∧ first + count ≤ size)

/-- An entry of pattern memory (R39). -/
def readPattern (m : Store PatEntry) (i : Nat) : PatEntry := readStore PatEntry.blank m i

def serveWritePattern (tk : Taken) (a : WritePatternArgs) (s : State) : Served := do
  require (decide (a.count = 0 ∨ a.count > 6)) .badValue
  require (!runInside a.first a.count 4096) .badValue
  require (!entriesInRange (s.originRec tk.origin) a.first a.count) .noRight
  let s1 := { s with ss := { s.ss with pattern := writeRun PatEntry.blank s.ss.pattern a.first a.entries } }
  return s1.done tk []

/-- WRITE_PATTERN (R41). -/
def execWritePattern (o : Origin) (s : State) : Host.Outcome State Fault Refusal :=
  takeRequest (some .writePattern) o s fun tk s => answer tk s (serveWritePattern tk (writePatternArgs tk.req.data) s)

/-- Replaces a pattern slot. -/
def State.setSlot (s : State) (n : SlotNo) (x : Option Slot) : State :=
  { s with ss := { s.ss with slots := setAt s.ss.slots n x } }

/-- The lowest-numbered undefined slot (R43). -/
def State.freeSlot? (s : State) : Option SlotNo := (List.finRange 16).find? fun n => s.ss.slots[n].isNone

def serveDefinePattern (tk : Taken) (a : DefinePatternArgs) (s : State) : Served := do
  require (decide (a.length = 0 ∨ a.length > 256)) .badValue
  let rep ← found (repeat? a.rep) .badValue
  require (!runInside a.first a.length 4096) .badValue
  require (!entriesInRange (s.originRec tk.origin) a.first a.length) .noRight
  let n ← found s.freeSlot? .noRoom
  return (s.setSlot n (some ⟨tk.origin, a.first, a.length, rep⟩)).done tk [oneByte n.val]

/-- DEFINE_PATTERN (R43). -/
def execDefinePattern (o : Origin) (s : State) : Host.Outcome State Fault Refusal :=
  takeRequest (some .definePattern) o s fun tk s => answer tk s (serveDefinePattern tk (definePatternArgs tk.req.data) s)

/-- A layer with its live source and its valid copy marked detached where they name the slot (R45). -/
def detachFrom (n : SlotNo) (l : Layer) : Layer :=
  { l with
    detached := l.detached || l.ed.source == .pattern n
    copy := l.copy.map fun c => { c with detached := c.detached || c.ed.source == .pattern n } }

/-- Replaces every layer record by `f`. -/
def State.mapLayers (s : State) (f : LayerNo → Layer → Layer) : State :=
  { s with lt := { s.lt with layers := mapAt s.lt.layers f } }

/-- Deletes a slot: undefined, and every layer and copy that names it detached (R45). -/
def State.deleteSlot (s : State) (n : SlotNo) : State := (s.setSlot n none).mapLayers fun _ l => detachFrom n l

def serveDeletePattern (tk : Taken) (slot : Nat) (s : State) : Served := do
  let n ← found (fin? 16 slot) .badValue
  let x ← found s.ss.slots[n] .notFound
  require (x.owner ≠ tk.origin) .notOwner
  return (s.deleteSlot n).done tk []

/-- DELETE_PATTERN (R45). -/
def execDeletePattern (o : Origin) (s : State) : Host.Outcome State Fault Refusal :=
  takeRequest (some .deletePattern) o s fun tk s => answer tk s (serveDeletePattern tk (byteAt tk.req.data 2) s)

/-! ## Binding and freeing stream queues (R25, R47, R48) -/

/-- The queue a STREAM source names. -/
def streamQueue? : Source → Option QueueNo
  | .stream q _ => some q
  | _ => none

/-- The layer's live source, or its valid staged copy's, is STREAM: it holds its queue (R25). -/
def usesStream (l : Layer) : Bool :=
  (streamQueue? l.ed.source).isSome || l.copy.any fun c => (streamQueue? c.ed.source).isSome

/-- The queue a layer holds (R25). -/
def State.heldQueue (s : State) (l : LayerNo) : Option QueueNo :=
  (List.finRange 2).find? fun q => s.ss.queues[q].bound == some l

/-- The lower-numbered queue that no layer holds (R25). -/
def State.freeQueue? (s : State) : Option QueueNo :=
  (List.finRange 2).find? fun q => s.ss.queues[q].bound.isNone

/-- Replaces a stream queue. -/
def State.setQueue (s : State) (q : QueueNo) (x : StreamQueue) : State :=
  { s with ss := { s.ss with queues := setAt s.ss.queues q x } }

/-- Binds a free queue to a layer (R25). -/
def State.bindQueue (s : State) (q : QueueNo) (l : LayerNo) : State :=
  s.setQueue q { StreamQueue.freed with bound := some l }

/-- Frees and empties every queue whose layer's sources are no longer STREAM (R25, R47). -/
def State.releaseQueues (s : State) : State :=
  { s with ss := { s.ss with queues := mapAt s.ss.queues fun _ q =>
      match q.bound with
      | none => q
      | some l => if usesStream s.lt.layers[l] then q else StreamQueue.freed } }

/-- A queue emptied: its binding stands (R47, R55). -/
def emptied (q : StreamQueue) : StreamQueue := { q with current := none, pending := [], last := none }

/-- Empties every queue, each staying bound (R55, R191). -/
def State.emptyQueues (s : State) : State :=
  { s with ss := { s.ss with queues := mapAt s.ss.queues fun _ q => emptied q } }

/-! ## STREAM_FRAME (R49, R50) -/

/-- The queue's frames let the show time in: it is later than that of the current frame and of every pending one. -/
def showsLater (q : StreamQueue) (show' : Time) : Bool :=
  q.current.all (fun f => timeLater show' f.show') && q.pending.all (fun f => timeLater show' f.show')

/-- An accepted frame is placed last, the earliest dropped from a full list, and the last acceptance refreshed
(R50). -/
def acceptFrame (q : StreamQueue) (f : StreamFrame) (now : Time) : StreamQueue :=
  let kept := if q.pending.length ≥ 4 then q.pending.tail else q.pending
  { q with pending := kept ++ [f], last := some now }

/-- The queue into which a stream frame is accepted, or `none` when it is discarded (R49). -/
def State.streamQueueFor (s : State) (tk : Taken) (a : StreamFrameArgs) : Option QueueNo :=
  match fin? 16 a.layer with
  | none => none
  | some l =>
    match s.heldQueue l with
    | none => none
    | some q =>
      if s.inSetup || s.lt.layers[l].state == .free || s.lt.layers[l].owner != some tk.origin ||
          countIn 1 16 a.count == 0 || decide (timeDiff a.show' tk.req.stamp > 2000000) ||
          !showsLater s.ss.queues[q] a.show'
      then none else some q

/-- Judges a stream frame: discarded with no change, or accepted. It has no reply (R49, R50). -/
def serveStreamFrame (tk : Taken) (a : StreamFrameArgs) (s : State) : State :=
  match s.streamQueueFor tk a with
  | none => s
  | some q => s.setQueue q (acceptFrame s.ss.queues[q] ⟨a.show', a.entries⟩ s.sc.local')

/-- STREAM_FRAME (R49). -/
def execStreamFrame (o : Origin) (s : State) : Host.Outcome State Fault Refusal :=
  takeRequest (some .streamFrame) o s fun tk s => serveStreamFrame tk (streamFrameArgs tk.req.data) s

/-! ## The frame start at a queue (R51, R52) -/

/-- A pending frame is due at `tf`: its show time is not later (R51). -/
def streamDue (tf : Time) (f : StreamFrame) : Bool := !timeLater f.show' tf

/-- Promotion: the latest due frame becomes current, the other due frames are discarded (R51). -/
def promoteQueue (tf : Time) (q : StreamQueue) : StreamQueue :=
  match q.bound, (q.pending.filter (streamDue tf)).getLast? with
  | some _, some f => { q with current := some f, pending := q.pending.filter fun g => !streamDue tf g }
  | _, _ => q

/-- The maximum age that governs a queue: its bound layer's live source's (R48). -/
def governingAge (layers : Vector Layer 16) (q : StreamQueue) : Option Nat :=
  match q.bound with
  | none => none
  | some l =>
    match layers[l].ed.source with
    | .stream _ age => some age
    | _ => none

/-- A bound queue is stale: no current frame, or the last acceptance lies more than the maximum age back (R52). -/
def isStale (layers : Vector Layer 16) (now : Time) (q : StreamQueue) : Bool :=
  q.bound.isSome &&
    (q.current.isNone ||
      (match q.last, governingAge layers q with
      | some t, some age => decide (localSince now t > age * 1000)
      | _, _ => false))

/-- Every bound queue is brought up to the frame time (R51). -/
def State.promote (s : State) (tf : Time) : State :=
  { s with ss := { s.ss with queues := mapAt s.ss.queues fun _ q => promoteQueue tf q } }

/-- The staleness of each queue is judged, once, at the local time of the frame start (R52). -/
def State.judgeStale (s : State) : State :=
  { s with ss := { s.ss with queues := mapAt s.ss.queues fun _ q =>
      { q with stale := isStale s.lt.layers s.sc.local' q } } }

end Sys2Proof.Machine
end

