-- ==== Sys2Proof/Machine/Cues.lean ====
section
/-! DEFINITION. Cue Engine (06): keyframe pool, cue records, start queue, track evaluation, ends. -/

namespace Sys2Proof.Machine

/-! ## The keyframe pool (R91, R92, R93) -/

/-- A keyframe of the pool (R91). -/
def readKey (m : Store Keyframe) (i : Nat) : Keyframe := readStore Keyframe.blank m i

/-- The keyframes of a WRITE_KEYS, when every ease is known (R93, check 3). -/
def key? (k : Nat × Nat × Rgb) : Option Keyframe := (ease? k.2.1).map fun e => ⟨k.1, e, k.2.2⟩

def serveWriteKeys (tk : Taken) (a : WriteKeysArgs) (s : State) : Served := do
  require (decide (a.count = 0 ∨ a.count > 6)) .badValue
  require (!runInside a.first a.count 1024) .badValue
  let keys ← found (allFound (a.keys.map key?)) .badValue
  require (!keysInRange (s.originRec tk.origin) a.first a.count) .noRight
  let s1 := { s with ce := { s.ce with pool := writeRun Keyframe.blank s.ce.pool a.first keys } }
  return s1.done tk []

/-- WRITE_KEYS (R93). -/
def execWriteKeys (o : Origin) (s : State) : Host.Outcome State Fault Refusal :=
  takeRequest (some .writeKeys) o s fun tk s => answer tk s (serveWriteKeys tk (writeKeysArgs tk.req.data) s)

/-! ## Tracks (R107, R108, R109) -/

/-- The keyframes of a track's run. -/
def runKeys (pool : Store Keyframe) (tr : Track) : List Keyframe :=
  (List.range tr.count).map fun j => readKey pool (tr.first + j)

/-- No keyframe's time is below that of the keyframe before it. -/
def timesRise : List Keyframe → Bool
  | [] => true
  | [_] => true
  | a :: b :: rest => decide (a.time ≤ b.time) && timesRise (b :: rest)

/-- The run starts at 0, its times do not fall, and its last time is within the duration (R95 checks 4 to 6, R109). -/
def runTimed (keys : List Keyframe) (duration : Nat) : Bool :=
  (keys.head?.all fun k => k.time == 0) && timesRise keys && (keys.getLast?.all fun k => decide (k.time ≤ duration))

/-- A track is broken (R109), by its owner's record and the pool as they stand. -/
def trackBroken (r : OriginRec) (pool : Store Keyframe) (duration : Nat) (tr : Track) : Bool :=
  !keysInRange r tr.first tr.count || !runTimed (runKeys pool tr) duration

/-- A 16-bit channel read as a signed number (R107). -/
def signed16 (n : Nat) : Int := (BitVec.ofNat 16 n).toInt

/-- A keyframe's value as the track reads it: an OFFSET track's first channel is signed (R107). -/
def keyValue (tgt : Target) (k : Keyframe) : Triple :=
  match tgt with
  | .offset => ⟨signed16 k.value.r, 0, 0⟩
  | _ => ⟨k.value.r, k.value.g, k.value.b⟩

/-- `a` moved toward `b` by `w` / 65536, truncated toward zero (R107, R111). -/
def blendInt (a b w : Int) : Int := a + Int.tdiv ((b - a) * w) 65536

/-- Each channel moved by `blendInt`. -/
def blendTriple (a b : Triple) (w : Int) : Triple := ⟨blendInt a.x b.x w, blendInt a.y b.y w, blendInt a.z b.z w⟩

/-- SMOOTH replaces the weight (R107). -/
def smoothWeight (w : Nat) : Nat := w * w * (196608 - 2 * w) / 2 ^ 32

/-- The value on the segment from `k` to the next keyframe `n` at `t` (R107, steps 2 to 4). -/
def segment (tgt : Target) (k n : Keyframe) (t : Nat) : Triple :=
  let w := (t - k.time) * 65536 / (n.time - k.time)
  match k.ease with
  | .step => keyValue tgt k
  | .linear => blendTriple (keyValue tgt k) (keyValue tgt n) w
  | .smooth => blendTriple (keyValue tgt k) (keyValue tgt n) (smoothWeight w)

/-- The sample at `t` with `k` the last keyframe found at or before `t` and `rest` what follows it (R107). -/
def sampleFrom (tgt : Target) (k : Keyframe) (t : Nat) : List Keyframe → Triple
  | [] => keyValue tgt k
  | n :: rest => if n.time ≤ t then sampleFrom tgt n t rest else segment tgt k n t

/-- A run sampled at `t` (R107). -/
def sampleRun (tgt : Target) (keys : List Keyframe) (t : Nat) : Triple :=
  match keys with
  | [] => ⟨0, 0, 0⟩
  | k :: rest => sampleFrom tgt k t rest

/-- The frame value a track's value gives its target: OPACITY is floor(first / 257) (R108). -/
def toFrameValue (tgt : Target) (v : Triple) : Triple :=
  match tgt with
  | .opacity => ⟨v.x / 257, 0, 0⟩
  | _ => v

/-- The frame value of a track at `t`. -/
def trackValue (pool : Store Keyframe) (tr : Track) (t : Nat) : Triple :=
  toFrameValue tr.target (sampleRun tr.target (runKeys pool tr) t)

/-! ## Own values and frame values of a layer (R19) -/

/-- A free colour (log entry 5), three channels of 16 bits. -/
def freeColour (n : Nat) : Triple :=
  let v := (Config.colourWithoutSolid n).toNat
  ⟨(v % 65536 : Nat), (v / 65536 % 65536 : Nat), (v / 65536 / 65536 : Nat)⟩

/-- The layer's own value of a target (R19). A layer whose source is not SOLID has no own colour: a free value. -/
def ownValue (ed : Editable) (n : Nat) : Target → Triple
  | .colour =>
    match ed.source with
    | .solid c => ⟨c.r, c.g, c.b⟩
    | _ => freeColour n
  | .level => ⟨ed.level, 0, 0⟩
  | .offset => ⟨ed.offset, 0, 0⟩
  | .opacity => ⟨ed.opacity, 0, 0⟩

/-- The fields with a target's value put in: COLOR only into a SOLID source (R108, R112). -/
def putValue (ed : Editable) (tgt : Target) (v : Triple) : Editable :=
  match tgt with
  | .colour =>
    match ed.source with
    | .solid _ => { ed with source := .solid ⟨v.x.toNat, v.y.toNat, v.z.toNat⟩ }
    | _ => ed
  | .level => { ed with level := v.x.toNat }
  | .offset => { ed with offset := v.x }
  | .opacity => { ed with opacity := v.x.toNat }

/-- Replaces a layer record. -/
def State.setLayer (s : State) (i : LayerNo) (l : Layer) : State :=
  { s with lt := { s.lt with layers := setAt s.lt.layers i l } }

/-! ## Cues and the start queue (R94, R98) -/

/-- Replaces a cue record. -/
def State.setCue (s : State) (c : CueNo) (x : Option Cue) : State :=
  { s with ce := { s.ce with cues := setAt s.ce.cues c x } }

/-- Replaces the start queue. -/
def State.setStartQueue (s : State) (q : List StartEntry) : State := { s with ce := { s.ce with queue := q } }

/-- A new entry stands after every entry whose start time is at or before its own, and right after the last of them (R98,
R100). Far SET_CLOCK steps can leave queued start times that span more than 2^47 us, and R98's order by start time then need not
hold beside this placement: the model keeps the placement (log entry 20). -/
def insertEntry (e : StartEntry) : List StartEntry → List StartEntry
  | [] => [e]
  | x :: xs => if (x :: xs).all (fun y => timeLater y.start e.start) then e :: x :: xs else x :: insertEntry e xs

/-- The queue without a cue's entry. -/
def dropEntry (c : CueNo) (q : List StartEntry) : List StartEntry := q.filter fun e => e.cue != c

/-- The cue is RUNNING or RELEASING. -/
def Run.active : Run → Bool
  | .running .. => true
  | .releasing .. => true
  | _ => false

/-- A cue leaves SCHEDULED, RUNNING or RELEASING for READY, and its owner hears why (R115). -/
def State.endCue (s : State) (c : CueNo) (cue : Cue) (why : EndReason) : State :=
  (s.setCue c (some { cue with run := .ready })).notify cue.owner (.cueEnded c cue.layer why)

/-- Schedules a cue (R100): its old entry is replaced, its run ended with CUE_ENDED STOPPED. -/
def State.schedule (s : State) (c : CueNo) (cue : Cue) (start : Time) (by' : Origin) : State :=
  let q := insertEntry ⟨c, start, by'⟩ (dropEntry c s.ce.queue)
  let s1 := (s.setCue c (some { cue with run := .scheduled })).setStartQueue q
  if cue.run.active then s1.notify cue.owner (.cueEnded c cue.layer .stopped) else s1

/-- A start would make a 17th entry (R99, R101). -/
def State.startFull (s : State) (cue : Cue) : Bool := decide (s.ce.queue.length ≥ 16) && cue.run != .scheduled

/-- Stops a cue according to its state (R110). -/
def State.stop (s : State) (c : CueNo) (cue : Cue) : State :=
  match cue.run with
  | .ready => s
  | .scheduled => (s.setStartQueue (dropEntry c s.ce.queue)).endCue c cue .stopped
  | .running start latest =>
    if cue.release > 0 then s.setCue c (some { cue with run := .releasing start s.sc.scene latest })
    else s.endCue c cue .stopped
  | .releasing .. => s.endCue c cue .stopped

/-- The state byte of a cue that has been stopped: RELEASING 4 when the stop begins a release, else READY 1 (R110). -/
def stoppedByte (cue : Cue) : Byte :=
  match cue.run with
  | .running .. => if cue.release > 0 then 4 else 1
  | _ => 1

/-! ## DEFINE_CUE and DELETE_CUE (R95, R96, R97) -/

/-- A track field: known target, run count 2 to 64, run within the pool (R95, check 1). -/
def track? (t : Nat × Nat × Nat) : Option Track :=
  match target? t.1 with
  | none => none
  | some tgt => if 2 ≤ t.2.2 ∧ t.2.2 ≤ 64 ∧ runInside t.2.1 t.2.2 1024 then some ⟨tgt, t.2.1, t.2.2⟩ else none

/-- Two tracks have the same target (R95, check 2). -/
def sharesTarget : List Track → Bool
  | [] => false
  | t :: rest => rest.any (fun u => u.target == t.target) || sharesTarget rest

/-- What an AUTO_SHOW byte means: 0 no, 1 yes; for others the spec gives no meaning (log entry 7). -/
def autoShowOf (v : Nat) : Bool :=
  match v with
  | 0 => false
  | 1 => true
  | _ => Config.autoShowOther (oneByte v)

/-- The lowest-numbered EMPTY cue (R96). -/
def State.freeCue? (s : State) : Option CueNo := (List.finRange 24).find? fun c => s.ce.cues[c].isNone

def serveDefineCue (tk : Taken) (a : DefineCueArgs) (s : State) : Served := do
  let layer ← found (fin? 16 a.layer) .badValue
  require (decide (countIn 1 4 a.count = 0)) .badValue
  let tracks ← found (allFound (a.tracks.map track?)) .badValue
  let ending ← found (ending? a.ending) .badValue
  require (decide (a.duration = 0)) .badValue
  require (sharesTarget tracks) .badTrack
  require (tracks.any (trackBroken (s.originRec tk.origin) s.ce.pool a.duration)) .badTrack
  let c ← found s.freeCue? .noRoom
  let cue : Cue := ⟨tk.origin, layer, tracks, a.duration, a.loops, ending, autoShowOf a.autoShow, min 5000 a.release, .ready⟩
  return (s.setCue c (some cue)).reply tk .done (decide (a.release > 5000)) false [oneByte c.val]

/-- DEFINE_CUE (R95, R96). -/
def execDefineCue (o : Origin) (s : State) : Host.Outcome State Fault Refusal :=
  takeRequest (some .defineCue) o s fun tk s => answer tk s (serveDefineCue tk (defineCueArgs tk.req.data) s)

/-- Every valid bind entry that `p` holds for is made invalid (R131). -/
def State.unbindWhere (s : State) (p : BindEntry → Bool) : State :=
  { s with tu := { s.tu with binds := mapAt s.tu.binds fun _ e => e.filter fun e => !p e } }

/-- A cue becomes EMPTY; if it was SCHEDULED, RUNNING or RELEASING its owner hears why (R97, R113, R115). -/
def State.emptyCue (s : State) (c : CueNo) (cue : Cue) (why : EndReason) : State :=
  let s1 := (s.setCue c none).setStartQueue (dropEntry c s.ce.queue)
  if cue.run = .ready then s1 else s1.notify cue.owner (.cueEnded c cue.layer why)

def serveDeleteCue (tk : Taken) (cue : Nat) (s : State) : Served := do
  let c ← found (fin? 24 cue) .badValue
  let x ← found s.ce.cues[c] .notFound
  require (x.owner ≠ tk.origin) .notOwner
  return ((s.done tk []).emptyCue c x .stopped).unbindWhere fun e => e.owner == x.owner && e.cue == c

/-- DELETE_CUE (R97). -/
def execDeleteCue (o : Origin) (s : State) : Host.Outcome State Fault Refusal :=
  takeRequest (some .deleteCue) o s fun tk s => answer tk s (serveDeleteCue tk (byteAt tk.req.data 2) s)

/-! ## START_CUE and STOP_CUE (R99, R100, R110) -/

/-- The origin may start and stop the cue: its owner, or SERVICE (R99, R110). -/
def mayRun (o : Origin) (cue : Cue) : Bool := o == cue.owner || o == .service

/-- The start time a form gives, and whether its delay was brought into range; `none` for an unknown form (R99,
R100). -/
def startTime? (stamp : Time) : StartForm → Option (Time × Bool)
  | .atTime v => some (v, false)
  | .after d => some (timePlus stamp (min 60000 d * 1000), decide (d > 60000))
  | .next => some (stamp, false)
  | .unknown _ => none

/-- The value of an AT start lies outside the window from 1 s back to 60 s ahead (R99, check 5). -/
def outsideWindow (now : Time) : StartForm → Bool
  | .atTime v => decide (timeDiff v now < -1000000 ∨ timeDiff v now > 60000000)
  | _ => false

def serveStartCue (tk : Taken) (a : StartCueArgs) (s : State) : Served := do
  require s.inSetup .wrongState
  let c ← found (fin? 24 a.cue) .badValue
  let (start, clamped) ← found (startTime? tk.req.stamp a.form) .badValue
  let cue ← found s.ce.cues[c] .notFound
  require (!mayRun tk.origin cue) .notOwner
  require (outsideWindow s.sc.scene a.form) .badValue
  require (s.startFull cue) .noRoom
  let s1 := s.reply tk .done clamped (cue.run == .scheduled) (timeBytes start)
  return s1.schedule c cue start tk.origin

/-- START_CUE (R99, R100). -/
def execStartCue (o : Origin) (s : State) : Host.Outcome State Fault Refusal :=
  takeRequest (some .startCue) o s fun tk s => answer tk s (serveStartCue tk (startCueArgs tk.req.data) s)

def serveStopCue (tk : Taken) (cue : Nat) (s : State) : Served := do
  require s.inSetup .wrongState
  let c ← found (fin? 24 cue) .badValue
  let x ← found s.ce.cues[c] .notFound
  require (!mayRun tk.origin x) .notOwner
  return (s.done tk [stoppedByte x]).stop c x

/-- STOP_CUE (R110). -/
def execStopCue (o : Origin) (s : State) : Host.Outcome State Fault Refusal :=
  takeRequest (some .stopCue) o s fun tk s => answer tk s (serveStopCue tk (byteAt tk.req.data 2) s)

/-! ## Ends that other steps cause (R113) -/

/-- Ends, in ascending cue number, every cue for which `p` holds, with one reason. -/
def State.endCuesWhere (s : State) (p : Cue → Bool) (why : EndReason) : State :=
  (List.finRange 24).foldl (fun s c =>
    match s.ce.cues[c] with
    | none => s
    | some cue => if p cue then s.endCue c cue why else s) s

/-- A cue RUNNING or RELEASING on the layer. -/
def activeOn (l : LayerNo) (cue : Cue) : Bool := cue.run.active && cue.layer == l

/-- Every SCHEDULED, RUNNING and RELEASING cue becomes READY and the queue is emptied (R113). -/
def State.endAllCues (s : State) (why : EndReason) : State :=
  (s.endCuesWhere (fun cue => cue.run != .ready) why).setStartQueue []

/-! ## Actions of the bind table (R101) -/

/-- START from a bind entry: as START_CUE NEXT with the stamp, unless it would make a 17th entry. -/
def State.actStart (s : State) (c : CueNo) (cue : Cue) (stamp : Time) (owner : Origin) : State :=
  if s.startFull cue then s else s.schedule c cue stamp owner

/-- Takes an action of a bind entry, in RUN and SETTLING (R101). -/
def State.act (s : State) (e : BindEntry) (stamp : Time) : State :=
  if s.ps.state = .run ∨ s.ps.state = .settling then
    match s.ce.cues[e.cue] with
    | none => s
    | some cue =>
      match e.action with
      | .start => s.actStart e.cue cue stamp e.owner
      | .stop => s.stop e.cue cue
      | .toggle => if cue.run = .ready then s.actStart e.cue cue stamp e.owner else s.stop e.cue cue
  else s

/-! ## The frame start at the Cue Engine (R102 to R112) -/

/-- An entry is due at `tf`: its start time is at or before it (R102). -/
def startDue (tf : Time) (e : StartEntry) : Bool := !timeLater e.start tf

/-- A due cue starts: kept in phase when it lies less than a period back, else rewritten to `tf` with CUE_LATE; with
AUTO_SHOW its layer becomes SHOWN (R104, R105). -/
def State.startCueAt (s : State) (tf : Time) (c : CueNo) (cue : Cue) (start : Time) : State :=
  let lateness := timeDiff tf start
  let late := decide (lateness ≥ s.sc.period * 1000)
  let start' := if late then tf else start
  let s1 := s.setCue c (some { cue with run := .running start' [] })
  let s2 := if late then s1.notify cue.owner (.cueLate c (min 4294967295 lateness.toNat) tf) else s1
  if cue.autoShow then s2.setLayer cue.layer { s2.lt.layers[cue.layer] with state := .shown } else s2

/-- A due entry is resolved against its layer: LAYER_GONE, or the cue on the layer is preempted and the due cue starts
(R103). -/
def State.resolve (s : State) (tf : Time) (e : StartEntry) : State :=
  match s.ce.cues[e.cue] with
  | none => s
  | some cue =>
    let l := s.lt.layers[cue.layer]
    if l.state = .free ∨ l.owner ≠ some cue.owner then s.endCue e.cue cue .layerGone
    else (s.endCuesWhere (activeOn cue.layer) .preempted).startCueAt tf e.cue cue e.start

/-- Step 1 of R102: every due entry leaves the queue, and each is resolved in queue order. After far SET_CLOCK steps a due entry
can stand behind one that is not due: it leaves too (R102, R114; log entry 20). -/
def State.dueStarts (s : State) (tf : Time) : State :=
  (s.ce.queue.filter (startDue tf)).foldl (fun s e => s.resolve tf e)
    (s.setStartQueue (s.ce.queue.filter fun e => !startDue tf e))

/-- The time elapsed at `tf` since a start, in whole ms (R106). R106 has it 0 or more; a kept start that lies exactly 2^47 us from
its frame time reads as later than it by R79's difference, and the model takes 0 there, its choice (log entry 23). -/
def elapsed (tf start : Time) : Nat := (timeDiff tf start / 1000).toNat

/-- The release elapsed time at `tf`, in whole ms, rounded down (R111). It is -1 where an ADD correction has carried the clock
past the frame time and a stop is taken in that microsecond before the frame start (log entry 22). -/
def releaseElapsed (tf rel : Time) : Int := timeDiff tf rel / 1000

/-- The elapsed time satisfies the loop count (R112): for loop count 1, the duration or more. -/
def loopsDone (cue : Cue) (e : Nat) : Bool := cue.loops != 0 && decide (e / cue.duration ≥ cue.loops)

/-- The RUNNING cue reaches its natural end at `tf` (R112). -/
def endsAt (tf : Time) (cue : Cue) : Bool :=
  match cue.run with
  | .running start _ => loopsDone cue (elapsed tf start)
  | _ => false

/-- The RELEASING cue's release has run out at `tf` (R111). -/
def releaseOver (tf : Time) (cue : Cue) : Bool :=
  match cue.run with
  | .releasing _ rel _ => decide (releaseElapsed tf rel ≥ cue.release)
  | _ => false

/-- The tracks that are not broken at this frame start. -/
def State.soundTracks (s : State) (cue : Cue) : List Track :=
  cue.tracks.filter fun tr => !trackBroken (s.originRec cue.owner) s.ce.pool cue.duration tr

/-- The own fields with the values at t = duration of the tracks that are not broken (R112, HOLD). -/
def State.heldFields (s : State) (cue : Cue) (ed : Editable) : Editable :=
  (s.soundTracks cue).foldl (fun ed tr => putValue ed tr.target (trackValue s.ce.pool tr cue.duration)) ed

/-- The layer as the end behaviour leaves it (R112). -/
def State.endedLayer (s : State) (cue : Cue) (l : Layer) : Layer :=
  match l.state with
  | .free => l
  | st =>
    match cue.ending with
    | .hold => { l with ed := s.heldFields cue l.ed }
    | .restore => l
    | .hide => { l with state := if st = .shown then .held else st }

/-- The natural end of a cue (R112): the layer by the end behaviour, READY, CUE_ENDED FINISHED. -/
def State.naturalEnd (s : State) (c : CueNo) (cue : Cue) : State :=
  (s.setLayer cue.layer (s.endedLayer cue s.lt.layers[cue.layer])).endCue c cue .finished

/-- Step 2 of R102 at one cue. -/
def State.endIfDue (s : State) (tf : Time) (c : CueNo) : State :=
  match s.ce.cues[c] with
  | none => s
  | some cue =>
    if releaseOver tf cue then s.endCue c cue .stopped
    else if endsAt tf cue then s.naturalEnd c cue
    else s

/-- Step 2 of R102: the ends, in ascending cue number. -/
def State.cueEnds (s : State) (tf : Time) : State := (List.finRange 24).foldl (fun s c => s.endIfDue tf c) s

/-- The start time of an endless cue is rebased to within one pass of the frame time (R106). -/
def rebased (tf start : Time) (cue : Cue) : Time :=
  let e := elapsed tf start
  if cue.loops = 0 ∧ e ≥ cue.duration then timePlus start (e / cue.duration * cue.duration * 1000) else start

/-- A track's value at a frame start: sampled, or the own value while it is broken (R107 to R109). -/
def State.trackNow (s : State) (cue : Cue) (t : Nat) (tr : Track) : Triple :=
  if trackBroken (s.originRec cue.owner) s.ce.pool cue.duration tr then
    ownValue s.lt.layers[cue.layer].ed s.freeCount tr.target
  else trackValue s.ce.pool tr t

/-- A cue evaluated at the frame start: a RUNNING cue's values are formed (R106, R107). -/
def State.evaluated (s : State) (tf : Time) (cue : Cue) : Cue :=
  match cue.run with
  | .running start _ =>
    let start' := rebased tf start cue
    let t := elapsed tf start' % cue.duration
    { cue with run := .running start' (cue.tracks.map (s.trackNow cue t)) }
  | _ => cue

/-- Step 3 of R102; the free-value counter advances once a frame start (log entry 5). -/
def State.evaluate (s : State) (tf : Time) : State :=
  { s with
    ce := { s.ce with cues := mapAt s.ce.cues fun _ c => c.map (s.evaluated tf) }
    freeCount := s.freeCount + 1 }

/-- The crossfade weight of a release, below 0 where the release elapsed time is (R111). -/
def releaseWeight (tf rel : Time) (release : Nat) : Int := min 65536 (releaseElapsed tf rel * 65536 / release)

/-- The least and the greatest value of a target's channels (R19). -/
def targetRange : Target → Int × Int
  | .colour => (0, 65535)
  | .level => (0, 65535)
  | .offset => (-32768, 32767)
  | .opacity => (0, 255)

/-- The number under which the free value of a target's first channel goes. -/
def freePlace : Target → Nat
  | .colour => 0
  | .level => 3
  | .offset => 4
  | .opacity => 5

/-- A channel of a crossfade: the number that R111's formula gives where it lies in the target's range, and a free value of
that range where it does not (log entry 22). -/
def inTarget (n : Nat) (layer : LayerNo) (tgt : Target) (channel : Nat) (v : Int) : Int :=
  let r := targetRange tgt
  if r.1 ≤ v ∧ v ≤ r.2 then v
  else r.1 + (Config.releaseOutOfRange n layer.val (freePlace tgt + channel)).toNat % (r.2 - r.1 + 1)

/-- The value a RELEASING cue on a layer gives a target: from its frozen value toward the own one (R111). -/
def releaseValue (ed : Editable) (n : Nat) (layer : LayerNo) (w : Int) (tgt : Target) (frozen : Triple) : Triple :=
  let v := blendTriple frozen (ownValue ed n tgt) w
  match tgt with
  | .colour => ⟨inTarget n layer tgt 0 v.x, inTarget n layer tgt 1 v.y, inTarget n layer tgt 2 v.z⟩
  | _ => { v with x := inTarget n layer tgt 0 v.x }

/-- The layer's fields with frame values in place of own ones, as a cue on it gives them (R19, R108, R111). -/
def cueFields (tf : Time) (n : Nat) (cue : Cue) (ed : Editable) : Editable :=
  match cue.run with
  | .running _ latest =>
    (cue.tracks.zip latest).foldl (fun e x => putValue e x.1.target x.2) ed
  | .releasing _ rel frozen =>
    (cue.tracks.zip frozen).foldl
      (fun e x => putValue e x.1.target (releaseValue ed n cue.layer (releaseWeight tf rel cue.release) x.1.target x.2)) ed
  | _ => ed

/-- One of the cue's tracks is broken at this frame start; a RELEASING cue's are not checked (R109). -/
def State.cueBroken (s : State) (cue : Cue) : Bool :=
  match cue.run with
  | .running .. => cue.tracks.any (trackBroken (s.originRec cue.owner) s.ce.pool cue.duration)
  | _ => false

/-- The cue RUNNING or RELEASING on a layer: there is at most one (R103). -/
def State.cueOn (s : State) (l : LayerNo) : Option Cue :=
  (List.finRange 24).findSome? fun c => s.ce.cues[c].filter (activeOn l)

/-! ## The two ends as rows of the table -/

/-- A step at a cue, judged at the latest frame start (log entry 6). -/
def atLastFrame (s : State) (c : CueNo) (cond : Time → Cue → Bool) (next : Cue → State) :
    Host.Outcome State Fault Refusal :=
  match s.sc.lastFrame, s.ce.cues[c] with
  | some m, some cue => s.liveWhen (cond m.frameTime cue) (next cue)
  | _, _ => .next s

/-- CUE_NATURAL_END (R112). Every frame start makes the natural ends due at it; the row is the same end of one cue. -/
def execCueNaturalEnd (c : CueNo) (s : State) : Host.Outcome State Fault Refusal :=
  atLastFrame s c endsAt fun cue => s.naturalEnd c cue

/-- CUE_RELEASE_END (R111). Every frame start makes the release ends due at it; the row is the same end of one cue. -/
def execCueReleaseEnd (c : CueNo) (s : State) : Host.Outcome State Fault Refusal :=
  atLastFrame s c releaseOver fun cue => s.endCue c cue .stopped

end Sys2Proof.Machine
end

