-- ==== Sys2Proof/Machine/Layers.lean ====
section
/-! DEFINITION. Layer Table (02): opening, editing, showing, hiding, closing, gates, presence. -/

namespace Sys2Proof.Machine

/-! ## Shared operations -/

/-- The layer is HELD or SHOWN by the origin. -/
def ownedBy (o : Origin) (l : Layer) : Bool := l.state != .free && l.owner == some o

/-- held(o): the number of layers HELD or SHOWN that the origin owns (R18). -/
def State.heldCount (s : State) (o : Origin) : Nat := s.lt.layers.toList.countP (ownedBy o)

/-- The number of FREE layers (R18). -/
def State.freeCountOfLayers (s : State) : Nat := s.lt.layers.toList.countP fun l => l.state == .free

/-- The shortfall of an origin: max(0, reserve - held) (R18). -/
def State.shortfall (s : State) (o : Origin) : Nat := (s.originRec o).reserve - s.heldCount o

/-- The compose with further layers marked as become FREE since it began (R67). -/
def Compose.markGone (m : BitVec 16) (c : Compose) : Compose := { c with gone := c.gone ||| m }

/-- The layers for which `p` holds become FREE with their free contents; a compose in flight will settle no void flag
for them (R17, R28, R67). Their stream queues are freed (R25). -/
def State.freeLayersWhere (s : State) (p : LayerNo → Layer → Bool) : State :=
  let gone := markSet fun i => p i s.lt.layers[i]
  let s1 := s.mapLayers fun i l => if p i l then Layer.freed else l
  let s2 := { s1 with co := { s1.co with inFlight := s1.co.inFlight.map (Compose.markGone gone) } }
  s2.releaseQueues

/-- The gate of an origin (R32). -/
def State.gate (s : State) (o : Origin) : Gate := s.lt.gates[o.idx]

/-- Replaces the gate of an origin. -/
def State.setGate (s : State) (o : Origin) (g : Gate) : State :=
  { s with lt := { s.lt with gates := setAt s.lt.gates o.idx g } }

/-- The staged copies of an origin's layers are discarded, and queues no longer held are freed (R25, R36, R37). -/
def State.discardCopies (s : State) (o : Origin) : State :=
  (s.mapLayers fun _ l => if l.owner = some o then { l with copy := none } else l).releaseQueues

/-- The checks of SHOW_LAYER, HIDE_LAYER and CLOSE_LAYER (2.4). -/
def ownLayer (tk : Taken) (layer : Nat) (s : State) : Except Code LayerNo := do
  require s.inSetup .wrongState
  let i ← found (fin? 16 layer) .badValue
  require (!ownedBy tk.origin s.lt.layers[i]) .notOwner
  return i

/-! ## OPEN_LAYER (R20) -/

/-- The lowest-numbered FREE layer. -/
def State.freeLayer? (s : State) : Option LayerNo := (List.finRange 16).find? fun i => s.lt.layers[i].state == .free

/-- The reserves of the other origins refuse the grant: held(o) is not below reserve(o), and the free count minus 1 is
below the sum of the others' shortfalls (R20, check 5). -/
def State.reservesRefuse (s : State) (o : Origin) : Bool :=
  decide (s.heldCount o ≥ (s.originRec o).reserve) &&
    decide ((s.freeCountOfLayers : Int) - 1 < ((Origin.all.map fun q => if q = o then 0 else s.shortfall q).sum : Nat))

/-- A layer just granted (R20). -/
def Layer.granted (o : Origin) (tier : Tier) : Layer := { Layer.freed with state := .held, owner := some o, tier := tier }

def serveOpenLayer (tk : Taken) (tier : Nat) (s : State) : Served := do
  let o := tk.origin
  require s.inSetup .wrongState
  let t ← found (fin? 6 tier) .badValue
  require (decide (t > (s.originRec o).maxTier)) .noRight
  require (s.heldCount o == (s.originRec o).limit) .noRoom
  require (s.reservesRefuse o) .noRoom
  let i ← found s.freeLayer? .noRoom
  return (s.setLayer i (Layer.granted o t)).done tk [oneByte i.val]

/-- OPEN_LAYER (R20). -/
def execOpenLayer (o : Origin) (s : State) : Host.Outcome State Fault Refusal :=
  takeRequest (some .openLayer) o s fun tk s => answer tk s (serveOpenLayer tk (byteAt tk.req.data 2) s)

/-! ## EDIT_LAYER (R21, R22, R25, R33) -/

/-- A hole field: absent at first lamp FFFFh, else a range within the lamp space; the outer `none` is outside its kind
(R21, check 4). -/
def hole? (h : Nat × Nat) : Option (Option LampRange) :=
  if h.1 = 0xFFFF then some none else if rangeOk h.1 h.2 then some (some ⟨h.1, h.2⟩) else none

/-- What a marked field carries once checked; `none` where the field is not marked. -/
def fieldOf {α β : Type} (check : α → Option β) : Option α → Option (Option β)
  | none => some none
  | some x => (check x).map some

/-- A source field of a known kind, a PATTERN slot at most 15 (R21, check 4). -/
def sourceKnown : SourceArg → Option SourceArg
  | .solid c => some (.solid c)
  | .pattern n => if n ≤ 15 then some (.pattern n) else none
  | .stream a => some (.stream a)
  | .unknown _ => none

/-- The maximum age brought into range: 0 selects 200 ms (R22). -/
def clampAge (a : Nat) : Nat := if a = 0 then 200 else max 10 (min 1000 a)

/-- Clamping changed the value; selecting the default is not a clamp (R22). -/
def ageClamped (a : Nat) : Bool := a != 0 && clampAge a != a

/-- The source that a checked source field sets; the part chooses the stream queue (R25). -/
def sourceOf (q : QueueNo) : SourceArg → Source
  | .solid c => .solid c
  | .pattern n => .pattern (Fin.ofNat 16 n)
  | .stream a => .stream q (clampAge a)
  | .unknown _ => .solid Rgb.zero

/-- An edit whose fields have passed check 4 of R21, in range (R22). -/
structure Edit where
  zones : Option (BitVec 32)
  span : Option SpanMode
  holes : Option (Option LampRange × Option LampRange)
  blend : Option Blend
  opacity : Option Nat
  qual : Option (Option FlagRef)
  source : Option SourceArg
  level : Option Nat
  offset : Option Int
  fadeIn : Option Nat
  fadeOut : Option Nat
  clamped : Bool
  deriving DecidableEq, Repr

/-- The marked fields checked for kind and brought into range; `none` when one lies outside its kind (R21 check 4,
R22). -/
def edit? (a : EditLayerArgs) : Option Edit := do
  let span ← fieldOf spanMode? a.span
  let holes ← fieldOf (fun h => do
    let h1 ← hole? h.1
    let h2 ← hole? h.2
    return (h1, h2)) a.holes
  let blend ← fieldOf blend? a.blend
  let qual ← fieldOf (fun r => flagRef? r.1 r.2) a.qual
  let source ← fieldOf sourceKnown a.source
  let ageOut := match source with
    | some (.stream n) => ageClamped n
    | _ => false
  return { zones := a.zones.map (BitVec.ofNat 32), span := span, holes := holes, blend := blend, opacity := a.opacity,
           qual := qual, source := source, level := a.level, offset := a.offset.map signed16,
           fadeIn := a.fadeIn.map (min 10000), fadeOut := a.fadeOut.map (min 10000),
           clamped := a.fadeIn.any (fun n => decide (n > 10000)) || a.fadeOut.any (fun n => decide (n > 10000)) || ageOut }

/-- The fields with the marked ones written together (R22). -/
def applyEdit (e : Edit) (q : QueueNo) (ed : Editable) : Editable where
  zones := e.zones.getD ed.zones
  span := e.span.getD ed.span
  hole1 := (e.holes.map (·.1)).getD ed.hole1
  hole2 := (e.holes.map (·.2)).getD ed.hole2
  blend := e.blend.getD ed.blend
  opacity := e.opacity.getD ed.opacity
  qual := e.qual.getD ed.qual
  source := (e.source.map (sourceOf q)).getD ed.source
  level := e.level.getD ed.level
  offset := e.offset.getD ed.offset
  fadeIn := e.fadeIn.getD ed.fadeIn
  fadeOut := e.fadeOut.getD ed.fadeOut

/-- The staged copy, filled from the live record when it is empty (R33). -/
def filledCopy (l : Layer) : Staged := l.copy.getD ⟨l.ed, l.detached, l.state == .shown⟩

/-- A change of an origin's own layer goes to the live record under an OPEN gate, to the staged copy under a CLOSED or
OPENING one (R22, R27, R33). -/
def gated (g : Gate) (live : Layer → Layer) (staged : Staged → Staged) (l : Layer) : Layer :=
  match g with
  | .opened => live l
  | _ => { l with copy := some (staged (filledCopy l)) }

/-- The edit written to the record or copy: an edit that sets the source clears its detached mark (R22, R45). -/
def editLive (e : Edit) (q : QueueNo) (l : Layer) : Layer :=
  { l with ed := applyEdit e q l.ed, detached := l.detached && e.source.isNone }

def editCopy (e : Edit) (q : QueueNo) (c : Staged) : Staged :=
  { c with ed := applyEdit e q c.ed, detached := c.detached && e.source.isNone }

/-- The zone set names a zone that is not defined (R21, check 5). -/
def namesUndefined (zones : Vector (Option Zone) 32) (set : BitVec 32) : Bool :=
  (List.finRange 32).any fun z => set.getLsbD z.val && zones[z].isNone

/-- The zone set names a zone that the origin cannot target (R21, check 6). -/
def State.namesForbidden (s : State) (o : Origin) (set : BitVec 32) : Bool :=
  (List.finRange 32).any fun z => set.getLsbD z.val && !s.targetable o z

/-- The edit sets a PATTERN source whose slot is not defined (R21, check 7). -/
def State.slotMissing (s : State) (e : Edit) : Bool :=
  match e.source with
  | some (.pattern n) => s.ss.slots[Fin.ofNat 16 n].isNone
  | _ => false

/-- The edit sets a STREAM source. -/
def setsStream (e : Edit) : Bool :=
  match e.source with
  | some (.stream _) => true
  | _ => false

/-- The queue a STREAM edit of the layer uses: the one it holds, else the lower-numbered free one (R25). -/
def State.queueFor (s : State) (i : LayerNo) : Option QueueNo := (s.heldQueue i).or s.freeQueue?

/-- The state with the edit made: a queue bound when the edit needs one, the fields written, queues no longer held
freed (R22, R25, R33). -/
def State.makeEdit (s : State) (o : Origin) (i : LayerNo) (e : Edit) : State :=
  let q := (s.queueFor i).getD 0
  let s1 := if setsStream e && (s.heldQueue i).isNone then s.bindQueue q i else s
  (s1.setLayer i (gated (s.gate o) (editLive e q) (editCopy e q) s1.lt.layers[i])).releaseQueues

/-- The stream queue a layer holds, FFh for none (11.7). -/
def queueByte : Option QueueNo → Byte
  | none => 0xFF
  | some q => oneByte q.val

def serveEditLayer (tk : Taken) (a : EditLayerArgs) (s : State) : Served := do
  let o := tk.origin
  require s.inSetup .wrongState
  let i ← found (fin? 16 a.layer) .badValue
  require (decide (a.mask ≥ 2 ^ 11)) .badValue
  require (!ownedBy o s.lt.layers[i]) .notOwner
  let e ← found (edit? a) .badValue
  require (e.zones.any (namesUndefined s.co.zones)) .badValue
  require (e.zones.any (s.namesForbidden o)) .noRight
  require (s.slotMissing e) .badValue
  require (setsStream e && (s.queueFor i).isNone) .noRoom
  let s1 := s.makeEdit o i e
  return s1.reply tk .done e.clamped false [queueByte (s1.heldQueue i)]

/-- EDIT_LAYER (R21, R22). -/
def execEditLayer (o : Origin) (s : State) : Host.Outcome State Fault Refusal :=
  takeRequest (some .editLayer) o s fun tk s => answer tk s (serveEditLayer tk (editLayerArgs tk.req.data) s)

/-! ## SHOW_LAYER, HIDE_LAYER, CLOSE_LAYER (R27, R28) -/

/-- Sets a layer SHOWN or HELD, live or in its staged copy (R27, R33). -/
def State.setShown (s : State) (o : Origin) (i : LayerNo) (shown : Bool) : State :=
  s.setLayer i (gated (s.gate o) (fun l => { l with state := if shown then .shown else .held })
    (fun c => { c with shown := shown }) s.lt.layers[i])

def serveShowLayer (tk : Taken) (layer : Nat) (s : State) : Served := do
  let i ← ownLayer tk layer s
  return (s.setShown tk.origin i true).done tk []

/-- SHOW_LAYER (R27). -/
def execShowLayer (o : Origin) (s : State) : Host.Outcome State Fault Refusal :=
  takeRequest (some .showLayer) o s fun tk s => answer tk s (serveShowLayer tk (byteAt tk.req.data 2) s)

def serveHideLayer (tk : Taken) (layer : Nat) (s : State) : Served := do
  let i ← ownLayer tk layer s
  return (s.setShown tk.origin i false).done tk []

/-- HIDE_LAYER (R27). -/
def execHideLayer (o : Origin) (s : State) : Host.Outcome State Fault Refusal :=
  takeRequest (some .hideLayer) o s fun tk s => answer tk s (serveHideLayer tk (byteAt tk.req.data 2) s)

def serveCloseLayer (tk : Taken) (layer : Nat) (s : State) : Served := do
  let i ← ownLayer tk layer s
  return ((s.done tk []).freeLayersWhere fun j _ => j == i).endCuesWhere (activeOn i) .layerGone

/-- CLOSE_LAYER (R28): never staged. -/
def execCloseLayer (o : Origin) (s : State) : Host.Outcome State Fault Refusal :=
  takeRequest (some .closeLayer) o s fun tk s => answer tk s (serveCloseLayer tk (byteAt tk.req.data 2) s)

/-! ## Gates (R32 to R36) -/

/-- A gate timeout brought into range: 0 selects 250 ms (R32). -/
def clampTimeout (t : Nat) : Nat := if t = 0 then 250 else max 20 (min 2000 t)

/-- GATE_CLOSE (R32). On a CLOSED gate the timeout is not brought into range, and the reply does not carry CLAMPED: R32 says
DONE alone there, and the clear flag is the model's choice (log entry 21). -/
def serveGateClose (tk : Taken) (timeout : Nat) (s : State) : Served := do
  require s.inSetup .wrongState
  let t := clampTimeout timeout
  let shut := s.setGate tk.origin (.closed (timePlus s.sc.local' (t * 1000)))
  let clamped := decide (timeout ≠ 0 ∧ t ≠ timeout)
  return match s.gate tk.origin with
    | .closed _ => s.done tk []
    | _ => shut.reply tk .done clamped false []

/-- GATE_CLOSE (R32): a CLOSED gate is left as it is. -/
def execGateClose (o : Origin) (s : State) : Host.Outcome State Fault Refusal :=
  takeRequest (some .gateClose) o s fun tk s => answer tk s (serveGateClose tk (leAt tk.req.data 2 2) s)

def serveGateOpen (tk : Taken) (s : State) : Served := do
  require s.inSetup .wrongState
  return match s.gate tk.origin with
    | .closed _ => (s.setGate tk.origin .opening).done tk []
    | _ => s.done tk []

/-- GATE_OPEN (R34). -/
def execGateOpen (o : Origin) (s : State) : Host.Outcome State Fault Refusal :=
  takeRequest (some .gateOpen) o s fun tk s => answer tk s (serveGateOpen tk s)

/-- Local time has reached the deadline of the origin's CLOSED gate (R36): every deadline lies at most 2000 ms ahead
when it is set, so the difference read as a signed number tells before from after. -/
def State.gateExpired (s : State) (o : Origin) : Bool :=
  match s.gate o with
  | .closed d => decide (timeDiff s.sc.local' d ≥ 0)
  | _ => false

/-- The gate expires: its copies are discarded, the gate opens, GATE_EXPIRED is queued (R36). -/
def State.expireGate (s : State) (o : Origin) : State :=
  ((s.discardCopies o).setGate o .opened).notify o .gateExpired

/-- GATE_EXPIRY (R36), in every part state. -/
def execGateExpiry (o : Origin) (s : State) : Host.Outcome State Fault Refusal :=
  s.liveWhen (s.gateExpired o) (s.expireGate o)

/-- A valid copy goes live: its fields, its detached mark and its state; the copy becomes empty (R35). -/
def applyCopy (l : Layer) : Layer :=
  match l.copy with
  | none => l
  | some c => { l with ed := c.ed, detached := c.detached, state := if c.shown then .shown else .held, copy := none }

/-- The layer's owner has an OPENING gate. -/
def ownerOpening (gates : Vector Gate 4) (l : Layer) : Bool := l.owner.any fun o => gates[o.idx] == .opening

/-- The gate application of a frame start (R35): every valid copy under an OPENING gate goes live, queues no longer
held are freed, and OPENING gates become OPEN. -/
def State.applyGates (s : State) : State :=
  let s1 := (s.mapLayers fun _ l => if ownerOpening s.lt.gates l then applyCopy l else l).releaseQueues
  { s1 with lt := { s1.lt with gates := mapAt s1.lt.gates fun _ g => if g = .opening then .opened else g } }

/-! ## Presence (R29, R30) -/

/-- The step of a fade time of `f` ms at period `p` ms (R29). -/
def fadeStep (p f : Nat) : Nat := max 1 (65535 * p * 1000 / (f * 1000))

/-- The presence one frame start later, toward the target (R29). -/
def stepPresence (p : Nat) (toFull : Bool) (fadeIn fadeOut presence : Nat) : Nat :=
  if toFull then
    if fadeIn = 0 then 65535 else min 65535 (presence + fadeStep p fadeIn)
  else if fadeOut = 0 then 0 else presence - fadeStep p fadeOut

/-- The presence target is 65535: SHOWN, and the qualifier holds (R26, R29). -/
def wantsFull (flags : BitVec 32) (l : Layer) : Bool := l.state == .shown && qualHolds flags l.ed.qual

/-- The presence step of a frame start, on every layer that is not FREE (R29). -/
def State.stepPresences (s : State) : State :=
  s.mapLayers fun _ l =>
    if l.state = .free then l
    else { l with presence :=
      stepPresence s.sc.period (wantsFull s.tu.flags l) l.ed.fadeIn l.ed.fadeOut l.presence }

end Sys2Proof.Machine
end

