-- ==== Sys2Proof/Machine/Triggers.lean ====
section
/-! DEFINITION. Trigger Unit (07): lines and debounce, capture slots, event codes, condition flags, the bind table and the
wake list. -/

namespace Sys2Proof.Machine

/-! ## Shared operations -/

/-- Replaces a line record. -/
def State.setLineRec (s : State) (t : LineNo) (x : Line) : State :=
  { s with tu := { s.tu with lines := setAt s.tu.lines t x } }

/-- Replaces a capture slot. -/
def State.setCapture (s : State) (t : LineNo) (x : Capture) : State :=
  { s with tu := { s.tu with captures := setAt s.tu.captures t x } }

/-- Replaces a flag's writer. -/
def State.setWriter (s : State) (f : FlagNo) (w : Writer) : State :=
  { s with tu := { s.tu with writers := setAt s.tu.writers f w } }

/-- Replaces a bind entry. -/
def State.setBind (s : State) (i : BindNo) (e : Option BindEntry) : State :=
  { s with tu := { s.tu with binds := setAt s.tu.binds i e } }

/-- Replaces the wake list. -/
def State.setWakeList (s : State) (l : List WakeEntry) : State := { s with tu := { s.tu with wakeList := l } }

/-- Writes one flag's value, when a flag is named. -/
def State.mirrorTo (s : State) (f : Option FlagNo) (v : Bool) : State :=
  match f with
  | none => s
  | some f => s.setFlagBits (writeFlag s.tu.flags f v)

/-! ## SET_LINE (R117) -/

/-- The mirror flag a LEVEL line may write: a flag whose writer is the line (R117, check 5). -/
def mirror? (writers : Vector Writer 32) (t : LineNo) (n : Nat) : Option FlagNo :=
  (fin? 32 n).filter fun f => writers[f] == .line t

/-- The mirror flag that is stored: the flag in mode LEVEL, none otherwise; the outer `none` is check 5 of R117. -/
def storedMirror? (writers : Vector Writer 32) (t : LineNo) (mode : LineMode) (n : Nat) : Option (Option FlagNo) :=
  if mode = .level then (mirror? writers t n).map some else some none

/-- A debounce and a window brought into range (R117). -/
def clampDebounce (n : Nat) : Nat := min 50 n
def clampWindow (n : Nat) : Nat := max 1 (min 10000 n)

/-- The flag that a line record mirrors: its mirror flag while in mode LEVEL. -/
def Line.mirrored (x : Line) : Option FlagNo := if x.mode = .level then x.mirror else none

/-- The line record replaced whole, its pending change cancelled and its level taken afresh, its slot emptied, the former
mirror flag cleared and the new one given the level (R117). -/
def State.replaceLine (s : State) (t : LineNo) (x : Line) : State :=
  let old := s.tu.lines[t]
  let s1 := (s.setLineRec t x).setCapture t { s.tu.captures[t] with valid := false, missed := false }
  (s1.mirrorTo old.mirrored false).mirrorTo x.mirrored x.level

def serveSetLine (tk : Taken) (a : SetLineArgs) (s : State) : Served := do
  configChecks tk s
  let t ← found (fin? 8 a.line) .badValue
  let mode ← found (lineMode? a.mode) .badValue
  let policy ← found (capturePolicy? a.policy) .badValue
  let wake ← found (yesNo? a.wake) .badValue
  require (wake && (mode == .off || mode == .level)) .badValue
  let mirror ← found (storedMirror? s.tu.writers t mode a.mirror) .badValue
  let raw := s.tu.lines[t].raw
  let x : Line := ⟨mode, clampDebounce a.debounce, wake, policy, clampWindow a.window, mirror, raw, none, raw⟩
  let clamped := clampDebounce a.debounce != a.debounce || clampWindow a.window != a.window
  return (s.replaceLine t x).reply tk .done clamped false []

/-- SET_LINE (R117). -/
def execSetLine (o : Origin) (s : State) : Host.Outcome State Fault Refusal :=
  takeRequest (some .setLine) o s fun tk s => answer tk s (serveSetLine tk (setLineArgs tk.req.data) s)

/-! ## SET_FLAG_OWNER (R127) -/

/-- A writer field: kind 0 an origin, kind 1 a line (11.7). -/
def writer? (kind n : Nat) : Option Writer :=
  match kind with
  | 0 => (Origin.ofNat? n).map .origin
  | 1 => (fin? 8 n).map .line
  | _ => none

/-- The flag's present writer is a LEVEL line that mirrors into it, and the new writer is not that line (R127,
check 4). -/
def State.mirrorHeld (s : State) (f : FlagNo) (w : Writer) : Bool :=
  match s.tu.writers[f] with
  | .origin _ => false
  | .line t => s.tu.lines[t].mirrored == some f && w != .line t

/-- The new writer is a line that already writes another flag (R127, check 5). -/
def State.lineBusy (s : State) (f : FlagNo) (w : Writer) : Bool :=
  match w with
  | .origin _ => false
  | .line _ => (List.finRange 32).any fun g => g != f && s.tu.writers[g] == w

/-- The flag takes the writer and becomes 0; its present writer changes nothing (R127). -/
def State.giveFlag (s : State) (f : FlagNo) (w : Writer) : State :=
  if s.tu.writers[f] = w then s else (s.setWriter f w).setFlagBits (writeFlag s.tu.flags f false)

def serveSetFlagOwner (tk : Taken) (a : SetFlagOwnerArgs) (s : State) : Served := do
  configChecks tk s
  let f ← found (fin? 32 a.flag) .badValue
  let w ← found (writer? a.writerKind a.writer) .badValue
  require (s.mirrorHeld f w) .overlap
  require (s.lineBusy f w) .overlap
  return (s.giveFlag f w).done tk []

/-- SET_FLAG_OWNER (R127). -/
def execSetFlagOwner (o : Origin) (s : State) : Host.Outcome State Fault Refusal :=
  takeRequest (some .setFlagOwner) o s fun tk s => answer tk s (serveSetFlagOwner tk (setFlagOwnerArgs tk.req.data) s)

/-! ## SET_FLAGS (R126) -/

/-- A marked flag's writer is not the origin (R126, check 2). -/
def State.marksForeign (s : State) (o : Origin) (mask : BitVec 32) : Bool :=
  mask &&& ~~~(writtenBy s.tu.writers (.origin o)) != 0

def serveSetFlags (tk : Taken) (a : SetFlagsArgs) (s : State) : Served := do
  require (s.inSetup && a.mask != 0) .wrongState
  require (s.marksForeign tk.origin a.mask) .notOwner
  let s1 := s.setFlagBits (writeMarked s.tu.flags a.mask a.values)
  return s1.done tk (leBytes 4 s1.tu.flags.toNat)

/-- SET_FLAGS (R126): with an empty mask it reports the flags. -/
def execSetFlags (o : Origin) (s : State) : Host.Outcome State Fault Refusal :=
  takeRequest (some .setFlags) o s fun tk s => answer tk s (serveSetFlags tk (setFlagsArgs tk.req.data) s)

/-! ## BIND and UNBIND (R130, R131) -/

/-- The requester's valid entry with this pattern (R130). -/
def State.samePattern? (s : State) (o : Origin) (code mask : Byte) : Option BindNo :=
  (List.finRange 24).find? fun i => s.tu.binds[i].any fun e => e.owner == o && e.code == code && e.mask == mask

/-- The lowest-numbered invalid entry. -/
def State.freeBind? (s : State) : Option BindNo := (List.finRange 24).find? fun i => s.tu.binds[i].isNone

/-- The table with the requester's entry of the same pattern made invalid (R130, step 1). -/
def State.unbindSame (s : State) (o : Origin) (code mask : Byte) : State :=
  match s.samePattern? o code mask with
  | none => s
  | some i => s.setBind i none

def serveBind (tk : Taken) (a : BindArgs) (s : State) : Served := do
  let o := tk.origin
  let c ← found (fin? 24 a.cue) .badValue
  let action ← found (bindAction? a.action) .badValue
  let qual ← found (flagRef? a.qual.1 a.qual.2) .badValue
  let cue ← found s.ce.cues[c] .notFound
  require (cue.owner ≠ o) .notOwner
  let mask := oneByte a.mask
  let code := oneByte a.code &&& mask
  let s1 := s.unbindSame o code mask
  let i ← found s1.freeBind? .noRoom
  return (s1.setBind i (some ⟨o, code, mask, qual, action, c⟩)).reply tk .done false
    (s.samePattern? o code mask).isSome [oneByte i.val]

/-- BIND (R130). -/
def execBind (o : Origin) (s : State) : Host.Outcome State Fault Refusal :=
  takeRequest (some .bind) o s fun tk s => answer tk s (serveBind tk (bindArgs tk.req.data) s)

def serveUnbind (tk : Taken) (entry : Nat) (s : State) : Served := do
  let i ← found (fin? 24 entry) .badValue
  let e ← found s.tu.binds[i] .notFound
  require (decide (tk.origin ≠ e.owner ∧ tk.origin ≠ .service)) .notOwner
  return (s.setBind i none).done tk []

/-- UNBIND (R131). -/
def execUnbind (o : Origin) (s : State) : Host.Outcome State Fault Refusal :=
  takeRequest (some .unbind) o s fun tk s => answer tk s (serveUnbind tk (byteAt tk.req.data 2) s)

/-! ## Matching a code (R132, R133) -/

/-- The entry's pattern and qualifier hold for the code (R129, R132). -/
def entryFires (flags : BitVec 32) (code : Byte) (e : BindEntry) : Bool :=
  code &&& e.mask == e.code && qualHolds flags e.qual

/-- The entries that fire for a code, in ascending entry number, settled before any acts (R132). -/
def State.fired (s : State) (code : Byte) : List BindEntry :=
  s.tu.binds.toList.filterMap fun e => e.filter (entryFires s.tu.flags code)

/-- A code is matched: the actions of the entries that fire are taken in turn, then TRIGGER_SEEN is queued (R132,
R133). -/
def State.matchCode (s : State) (src : CodeSource) (code : Byte) (stamp : Time) : State :=
  let es := s.fired code
  (es.foldl (fun s e => s.act e stamp) s).notifyAll (.triggerSeen src code stamp true es.length)

/-- A code that is not matched is only reported (R124). -/
def State.seeUnmatched (s : State) (src : CodeSource) (code : Byte) (stamp : Time) : State :=
  s.notifyAll (.triggerSeen src code stamp false 0)

def serveTrigger (tk : Taken) (code : Nat) (s : State) : Served := do
  require s.inSetup .wrongState
  require (decide (code ≥ 0xF0)) .badValue
  let c := oneByte code
  return (s.done tk [oneByte (s.fired c).length]).matchCode (.origin tk.origin) c tk.req.stamp

/-- TRIGGER (R123). -/
def execTrigger (o : Origin) (s : State) : Host.Outcome State Fault Refusal :=
  takeRequest (some .trigger) o s fun tk s => answer tk s (serveTrigger tk (byteAt tk.req.data 2) s)

/-! ## READ_CAPTURE (R122) -/

def lineModeByte : LineMode → Byte
  | .off => 0
  | .rise => 1
  | .fall => 2
  | .both => 3
  | .level => 4

/-- The result fields of READ_CAPTURE (R122, 11.7). -/
def captureBytes (c : Capture) (x : Line) : List Byte :=
  [boolByte c.valid, edgeByte c.edge] ++ timeBytes c.stamp ++ [boolByte c.missed, lineModeByte x.mode, boolByte x.level]

def serveReadCapture (tk : Taken) (line : Nat) (s : State) : Served := do
  let t ← found (fin? 8 line) .badValue
  let c := s.tu.captures[t]
  return (s.setCapture t { c with valid := false, missed := false }).done tk (captureBytes c s.tu.lines[t])

/-- READ_CAPTURE (R122). -/
def execReadCapture (o : Origin) (s : State) : Host.Outcome State Fault Refusal :=
  takeRequest (some .readCapture) o s fun tk s => answer tk s (serveReadCapture tk (byteAt tk.req.data 2) s)

/-! ## Debounce (R118) -/

/-- A line whose raw level becomes `level`: a level other than the debounced one starts a pending change, a return to the
debounced one abandons it (R118). -/
def rawChanged (now : Time) (level : Bool) (x : Line) : Line :=
  { x with raw := level, pendingChange := if level = x.level then none else some ⟨level, now⟩ }

/-- LINE_RAW_CHANGE (R118). While the RESET pin is asserted the part debounces no line: only the level on the pin
changes (R193). A level that is the raw level already is no change (log entry 19). -/
def execLineRawChange (t : LineNo) (level : Bool) (s : State) : Host.Outcome State Fault Refusal :=
  let x := s.tu.lines[t]
  if x.raw = level then .next s
  else if s.ps.resetHeld then .next (s.setLineRec t { x with raw := level })
  else .next (s.setLineRec t (rawChanged s.sc.local' level x))

/-- The pending change of a line has stood for its debounce (R118). -/
def changeDue (now : Time) (x : Line) : Bool :=
  x.pendingChange.any fun p => decide (localSince now p.since ≥ x.debounce * 1000)

/-! ## Edges (R119, R120, R121, R124) -/

/-- The kind of edge of a change to `level`. -/
def edgeTo (level : Bool) : EdgeKind := if level then .rise else .fall

/-- An accepted change to `level` is an edge in this mode (R119). -/
def isEdge (mode : LineMode) (level : Bool) : Bool :=
  match mode with
  | .off => false
  | .rise => level
  | .fall => !level
  | .both => true
  | .level => false

/-- The event code of an edge: F0h + n for a rise, F8h + n for a fall (R119). -/
def edgeCode (t : LineNo) : EdgeKind → Byte
  | .rise => oneByte (0xF0 + t.val)
  | .fall => oneByte (0xF8 + t.val)

/-- The policy lets the edge fill the slot (R121). -/
def fills (x : Line) (now : Time) (c : Capture) : Bool :=
  !c.valid ||
    (match x.policy with
    | .overwrite => true
    | .hold => false
    | .holdTimed => decide (localSince now c.fill > x.window * 1000))

/-- The slot once an edge has been offered to it (R121). -/
def offered (x : Line) (now : Time) (e : EdgeKind) (stamp : Time) (c : Capture) : Capture :=
  if fills x now c then { c with valid := true, edge := e, stamp := stamp, fill := now } else { c with missed := true }

/-- The number of pairs the wake list holds (R124). -/
def wakePlaces : Nat := 8

/-- A pair joins the wake list, or is reported not matched when the list is full (R124). -/
def State.addWake (s : State) (t : LineNo) (e : EdgeKind) (stamp : Time) : State :=
  if s.tu.wakeList.length < wakePlaces then s.setWakeList (s.tu.wakeList ++ [⟨edgeCode t e, stamp, t⟩])
  else s.seeUnmatched (.line t e) (edgeCode t e) stamp

/-- An edge's code by the part state (R124). In ASLEEP an edge on a wake line is a wake event (R192). -/
def State.handleEdge (s : State) (t : LineNo) (e : EdgeKind) (stamp : Time) : State :=
  match s.ps.state with
  | .run => s.matchCode (.line t e) (edgeCode t e) stamp
  | .settling => s.matchCode (.line t e) (edgeCode t e) stamp
  | .setup => s.seeUnmatched (.line t e) (edgeCode t e) stamp
  | .asleep =>
    if s.tu.lines[t].wake then (s.addWake t e stamp).wakeEvent
    else s.seeUnmatched (.line t e) (edgeCode t e) stamp
  | .waking => s.addWake t e stamp

/-- An edge is stamped, offered to the slot, coded and handled, in that order (R119). -/
def State.takeEdge (s : State) (t : LineNo) (e : EdgeKind) : State :=
  let stamp := s.sc.scene
  let c := offered s.tu.lines[t] s.sc.local' e stamp s.tu.captures[t]
  (s.setCapture t c).handleEdge t e stamp

/-- An accepted change: the level is updated, and the mode says whether it mirrors, is an edge, or nothing more
(R119, R120). -/
def State.acceptChange (s : State) (t : LineNo) (level : Bool) : State :=
  let x := s.tu.lines[t]
  let s1 := s.setLineRec t { x with level := level, pendingChange := none }
  if x.mode = .level then s1.mirrorTo x.mirror level
  else if isEdge x.mode level then s1.takeEdge t (edgeTo level)
  else s1

/-- LINE_CHANGE_ACCEPTED (R118, R119), in every part state. -/
def execLineChangeAccepted (t : LineNo) (s : State) : Host.Outcome State Fault Refusal :=
  match s.tu.lines[t].pendingChange with
  | none => .next s
  | some p => s.liveWhen (changeDue s.sc.local' s.tu.lines[t]) (s.acceptChange t p.level)

/-! ## The wake list at wake completion (R124) -/

/-- The kind of edge a line's code stands for. -/
def codeEdge (code : Byte) : EdgeKind := if code.getLsbD 3 then .fall else .rise

/-- The pairs of the wake list are matched in order, each with its own stamp and followed by its TRIGGER_SEEN, and the
list is emptied (R124). -/
def State.matchWakeList (s : State) : State :=
  s.tu.wakeList.foldl (fun s w => s.matchCode (.line w.line (codeEdge w.code)) w.code w.stamp) (s.setWakeList [])

end Sys2Proof.Machine
end

