-- ==== Sys2Proof/Machine/Loops.lean ====
section
/-! DEFINITION. Lamp Loops (09): loop settings, bursts and their returns, failure and holdoff, quiet, settle and wake, the
lamp health map. -/

namespace Sys2Proof.Machine

/-! ## Shared operations -/

/-- Replaces a loop record. -/
def State.setLoop (s : State) (l : LoopNo) (x : Loop) : State :=
  { s with lc := { s.lc with loops := setAt s.lc.loops l x } }

/-- Replaces a lamp health record. -/
def State.setHealth (s : State) (lam : LampNo) (h : Health) : State :=
  { s with lc := { s.lc with health := setAt s.lc.health lam h } }

/-- Replaces a loop record and queues CHAIN_STATE with the cause (R166). -/
def State.changeLoop (s : State) (l : LoopNo) (x : Loop) (cause : LoopCause) : State :=
  let old := s.lc.loops[l]
  (s.setLoop l x).notifyAll (.chainState l cause x.state old.state x.nodes old.nodes)

/-- The health map with the queried-since-discovery marks cleared of every lamp of the loops that `p` holds for. -/
def unqueried (p : LoopNo → Bool) (health : Vector Health 384) : Vector Health 384 :=
  mapAt health fun lam h => if p (lampLoop lam) then { h with queried := false } else h

/-- Clears the queried-since-discovery marks of a loop's 64 lamp records, as entry to DISCOVERING does (R163). -/
def State.clearQueried (s : State) (l : LoopNo) : State :=
  { s with lc := { s.lc with health := unqueried (· == l) s.lc.health } }

/-! ## SET_CHAIN (R73, R160) -/

/-- A loop once it is switched off: a burst in progress is cut off, QUIET is sent, the loop is OFF (R160). -/
def Loop.switchedOff (x : Loop) : Loop :=
  { x with state := .off, errors := 0, quietCount := 0, showPending := false, claimed := false, sleepHold := false,
           await := none, out := [.quiet] }

/-- A loop once it is switched on again (R160). -/
def Loop.switchedOn (x : Loop) : Loop := { x with state := .discovering, holdLen := 8 }

/-- The loop's state follows its new settings (R160). -/
def State.followSettings (s : State) (l : LoopNo) : State :=
  let x := s.lc.loops[l]
  if !x.enable || s.co.chains[l].budget == 0 then
    if x.state = .off then s else s.changeLoop l x.switchedOff .disabled
  else if x.state = .off then (s.clearQueried l).changeLoop l x.switchedOn .enabled
  else s

/-- A budget and a knee brought into range (R73). -/
def clampBudget (n : Nat) : Nat := min 5000 n
def clampKnee (n : Nat) : Nat := max 60 (min 120 n)

/-- Stores a loop's budget, knee and enable flag (R73, R160). -/
def State.storeChain (s : State) (l : LoopNo) (c : Chain) (enable : Bool) : State :=
  { s with
    co := { s.co with chains := setAt s.co.chains l c }
    lc := { s.lc with loops := setAt s.lc.loops l { s.lc.loops[l] with enable := enable } } }

def serveSetChain (tk : Taken) (a : SetChainArgs) (s : State) : Served := do
  configChecks tk s
  let l ← found (fin? 6 a.loop) .badValue
  let enable ← found (yesNo? a.enable) .badValue
  let c : Chain := ⟨clampBudget a.budget, clampKnee a.knee⟩
  let clamped := c.budget != a.budget || c.knee != a.knee
  return ((s.storeChain l c enable).reply tk .done clamped false []).followSettings l

/-- SET_CHAIN (R73, R160). -/
def execSetChain (o : Origin) (s : State) : Host.Outcome State Fault Refusal :=
  takeRequest (some .setChain) o s fun tk s => answer tk s (serveSetChain tk (setChainArgs tk.req.data) s)

/-! ## The frame start at a loop (R152) -/

/-- The loop sends COUNT and awaits its return (R152). -/
def Loop.counting (x : Loop) (now : Time) : Loop :=
  { x with claimed := false, await := some ⟨.count, now, none⟩, out := [.count] }

/-- The holdoff has ended: the loop is DISCOVERING, its marks are cleared, and it sends COUNT at this same frame start
(R152, R157). -/
def State.endHoldoff (s : State) (l : LoopNo) : State :=
  let x := s.lc.loops[l]
  (s.clearQueried l).changeLoop l ({ x with state := .discovering, holdCount := 0 }.counting s.sc.local') .holdoffEnd

/-- A RUNNING loop at a frame start: SHOW when one is pending, then claimed (R152). -/
def Loop.shown (x : Loop) : Loop :=
  if x.showPending then { x with showPending := false, claimed := true, out := [.show'] } else { x with claimed := true }

/-- The holdoff counter of a FAILED loop reaches 0 at a frame start (R152). -/
def Loop.holdoffOver (x : Loop) : Bool := decide (x.holdCount ≤ 1)

/-- One loop at a frame start, by its state (R152). -/
def State.loopAtFrame (s : State) (l : LoopNo) : State :=
  let x := s.lc.loops[l]
  match x.state with
  | .running => s.setLoop l x.shown
  | .discovering => s.setLoop l (x.counting s.sc.local')
  | .failed =>
    if x.holdoffOver then s.endHoldoff l
    else s.setLoop l { x with holdCount := x.holdCount - 1, claimed := false }
  | .quiet => s.setLoop l { x with claimed := false }
  | .off => s.setLoop l { x with claimed := false }

/-- Every loop at a frame start, in ascending number (R152, R166). -/
def State.loopsAtFrame (s : State) : State := (List.finRange 6).foldl State.loopAtFrame s

/-! ## Bursts and the timeout of their returns (R151) -/

/-- LOOP_BURST_END (R149, R151): the local time of the end of a burst is recorded with its awaited return. -/
def execLoopBurstEnd (l : LoopNo) (s : State) : Host.Outcome State Fault Refusal :=
  let x := s.lc.loops[l]
  match x.await with
  | none => .next s
  | some a =>
    s.liveWhen a.ended.isNone (s.setLoop l { x with await := some { a with ended := some s.sc.local' } })

/-- The return timeout in microseconds (R151). -/
def returnTimeout : Nat := 200

/-- The awaited return has run out of time (R151); a return at the very microsecond still counts (log entry 18). -/
def timedOut (now : Time) (a : Await) : Bool := a.ended.any fun t => decide (localSince now t ≥ returnTimeout)

/-- A return received now comes too late (R151). -/
def tooLate (now : Time) (a : Await) : Bool := a.ended.any fun t => decide (localSince now t > returnTimeout)

/-! ## Judging a return (R151, R153, R155) -/

/-- What judging a return finds. -/
inductive Verdict where
  | discovered (nodes : Nat)
  | noNodes
  | noReturn
  | good (query : Nat) (status : StatusWord)
  | failed
  deriving DecidableEq, Repr

/-- A COUNT return judged (R151, R153); `none` is a return that did not come. -/
def judgeCount (late : Bool) : Option LoopReturn → Verdict
  | none => .noReturn
  | some r =>
    if late || !r.checkGood then .noReturn
    else if r.hops = 0 then .noNodes
    else if r.hops ≤ 64 then .discovered r.hops
    else .noReturn

/-- A REFRESH return judged (R151, R155). -/
def judgeRefresh (late : Bool) (nodes query : Nat) : Option LoopReturn → Verdict
  | none => .failed
  | some r =>
    match r.status with
    | none => .failed
    | some st => if late || !r.checkGood || r.hops != nodes then .failed else .good query st

/-- The verdict on what a loop received for its awaited return. -/
def verdict (now : Time) (x : Loop) (a : Await) (ret : Option LoopReturn) : Verdict :=
  match a.kind with
  | .count => judgeCount (tooLate now a) ret
  | .refresh q => judgeRefresh (tooLate now a) x.nodes q ret

/-- The loop once a good discovery has found `n` nodes (R153). -/
def Loop.found (x : Loop) (n : Nat) : Loop :=
  { x with state := .running, nodes := n, query := 0, errors := 0, quietCount := 0, showPending := false, holdLen := 8,
           await := none }

/-- The loop on entry to FAILED (R157). -/
def Loop.failing (x : Loop) : Loop :=
  { x with state := .failed, holdCount := x.holdLen, holdLen := min 64 (2 * x.holdLen), errors := 0, showPending := false,
           claimed := false, await := none, out := [.quiet] }

/-- The loop enters FAILED (R157). -/
def State.failLoop (s : State) (l : LoopNo) (cause : LoopCause) : State := s.changeLoop l s.lc.loops[l].failing cause

/-- The colours marked in either mask. -/
def maskUnion (a b : ColourMask) : ColourMask := ⟨a.r || b.r, a.g || b.g, a.b || b.b⟩

/-- A health record after a good query: OPEN as reported, SHORT latched, the temperature brought into -40 to 150
(R163). -/
def queriedHealth (h : Health) (st : StatusWord) : Health :=
  ⟨st.openMarks, maskUnion h.shortMask st.shortMarks, max (-40) (min 150 st.temp), true⟩

/-- A status word applied to a lamp's record, with LAMP_FAULT when it changes a mask (R163, R165). -/
def State.applyStatus (s : State) (lam : LampNo) (st : StatusWord) : State :=
  let old := s.lc.health[lam]
  let new := queriedHealth old st
  let s1 := s.setHealth lam new
  if new.openMask = old.openMask ∧ new.shortMask = old.shortMask then s1
  else s1.notifyAll (.lampFault lam new.openMask new.shortMask new.temp)

/-- The record at position `q` of a loop takes the status word (R156). -/
def State.applyQuery (s : State) (l : LoopNo) (q : Nat) (st : StatusWord) : State :=
  match fin? 64 q with
  | none => s
  | some k => s.applyStatus (lampAt l k) st

/-- A failed REFRESH return: the third in a row takes the loop to FAILED (R155). -/
def State.countFailure (s : State) (l : LoopNo) : State :=
  let x := s.lc.loops[l]
  if x.errors ≥ 2 then s.failLoop l .errors
  else s.setLoop l { x with errors := x.errors + 1, await := none }

/-- What a verdict does (R153, R155). -/
def State.actOn (s : State) (l : LoopNo) (v : Verdict) : State :=
  let x := s.lc.loops[l]
  match v with
  | .discovered n => s.changeLoop l (x.found n) .discovered
  | .noNodes => s.failLoop l .noNodes
  | .noReturn => s.failLoop l .noReturn
  | .good q st => (s.setLoop l { x with errors := 0, await := none }).applyQuery l q st
  | .failed => s.countFailure l

/-- The verdict takes the loop to FAILED (R153, R155). -/
def failsLoop (x : Loop) : Verdict → Bool
  | .discovered _ => false
  | .noNodes => true
  | .noReturn => true
  | .good .. => false
  | .failed => decide (x.errors ≥ 2)

/-- LOOP_RETURN_RECEIVED (R151): an awaited return is judged; one that nothing awaits is ignored. -/
def execLoopReturnReceived (l : LoopNo) (ret : LoopReturn) (s : State) : Host.Outcome State Fault Refusal :=
  match s.lc.loops[l].await with
  | none => .next s
  | some a => s.live (s.actOn l (verdict s.sc.local' s.lc.loops[l] a (some ret)))

/-- LOOP_RETURN_TIMEOUT (R151): the return has not come whole 200 µs after the end of the burst. -/
def execLoopReturnTimeout (l : LoopNo) (s : State) : Host.Outcome State Fault Refusal :=
  match s.lc.loops[l].await with
  | none => .next s
  | some a => s.liveWhen (timedOut s.sc.local' a) (s.actOn l (verdict s.sc.local' s.lc.loops[l] a none))

/-- LOOP_FAILED (R153, R155, R157): the judgement, of the return given or of its timeout, that takes the loop to
FAILED. -/
def execLoopFailed (l : LoopNo) (ret : Option LoopReturn) (s : State) : Host.Outcome State Fault Refusal :=
  match s.lc.loops[l].await with
  | none => .next s
  | some a =>
    let v := verdict s.sc.local' s.lc.loops[l] a ret
    s.liveWhen ((ret.isSome || timedOut s.sc.local' a) && failsLoop s.lc.loops[l] v) (s.actOn l v)

/-! ## The compose completion at a loop (R154, R158, R159) -/

/-- Every code of the words is 0. -/
def allDark (words : List Rgb) : Bool := words.all fun c => c == Rgb.zero

/-- The loop sends REFRESH with its drive words and its query index (R154). -/
def Loop.refreshed (x : Loop) (now : Time) (words : List Rgb) (quietCount : Nat) : Loop :=
  { x with quietCount := quietCount, query := (x.query + 1) % x.nodes, showPending := true,
           await := some ⟨.refresh x.query, now, none⟩, out := [.refresh words x.query] }

/-- The loop sends QUIET and is QUIET: no return is awaited, and no SHOW is pending (R158). -/
def Loop.quieted (x : Loop) : Loop :=
  { x with state := .quiet, quietCount := 0, showPending := false, await := none, out := [.quiet] }

/-- The loop sends WAKE and is RUNNING (R159). -/
def Loop.lit (x : Loop) : Loop := { x with state := .running, quietCount := 0, errors := 0, out := [.wake] }

/-- The quiet counter at which a loop goes quiet (R158). -/
def quietLimit : Nat := 64

/-- One loop at a compose completion, with the final codes of its lamps in position order (R154, R158, R159). -/
def State.loopAtCompletion (s : State) (codes : LoopNo → List Rgb) (l : LoopNo) : State :=
  let x := s.lc.loops[l]
  let words := (codes l).take x.nodes
  match x.state with
  | .running =>
    if x.claimed then
      let n := if allDark words then x.quietCount + 1 else 0
      if n ≥ quietLimit then s.changeLoop l x.quieted .dark
      else s.setLoop l (x.refreshed s.sc.local' words n)
    else s
  | .quiet => if allDark words then s else s.changeLoop l x.lit .lit
  | .discovering => s
  | .failed => s
  | .off => s

/-- Every loop at a compose completion, in ascending number (R166). -/
def State.loopsAtCompletion (s : State) (codes : LoopNo → List Rgb) : State :=
  (List.finRange 6).foldl (fun s l => s.loopAtCompletion codes l) s

/-! ## Settle and wake (R161) -/

/-- A loop on the settle event (R161). -/
def Loop.settled (x : Loop) : Loop :=
  match x.state with
  | .off => x
  | st =>
    { x with
      state := .quiet
      sleepHold := true
      errors := 0
      quietCount := 0
      showPending := false
      claimed := false
      await := none
      holdCount := if st = .failed then 0 else x.holdCount
      out := if st = .running ∧ x.showPending then [.show', .quiet] else [.quiet] }

/-- Every loop takes the settle event (R161). -/
def State.settleLoops (s : State) : State :=
  { s with lc := { s.lc with loops := mapAt s.lc.loops fun _ x => x.settled } }

/-- A loop on the wake event (R161). -/
def Loop.woken (x : Loop) : Loop :=
  if x.sleepHold then { x with state := .discovering, sleepHold := false, holdLen := 8 } else x

/-- Every loop takes the wake event, the marks of those that rediscover cleared (R161). -/
def State.wakeLoops (s : State) : State :=
  { s with lc := {
      loops := mapAt s.lc.loops fun _ x => x.woken
      health := unqueried (fun l => s.lc.loops[l].sleepHold) s.lc.health } }

/-! ## CLEAR_HEALTH (R164) -/

/-- The lamp has a SHORT mark. -/
def Health.shorted (h : Health) : Bool := h.shortMask != ColourMask.none

/-- The lamps of the range that hold a SHORT mark (R164). -/
def State.shortedIn (s : State) (first count : Nat) : Nat :=
  (List.finRange 384).countP fun lam => inRange first count lam && s.lc.health[lam].shorted

/-- The health map with the SHORT marks of a range of lamps removed (R164). -/
def unshorted (first count : Nat) (health : Vector Health 384) : Vector Health 384 :=
  mapAt health fun lam h => if inRange first count lam then { h with shortMask := ColourMask.none } else h

/-- The SHORT marks of the range removed (R164). -/
def State.clearShorts (s : State) (first count : Nat) : State :=
  { s with lc := { s.lc with health := unshorted first count s.lc.health } }

def serveClearHealth (tk : Taken) (a : LampRangeArgs) (s : State) : Served := do
  require (decide (tk.origin ≠ .service)) .noRight
  require (!rangeOk a.first a.count) .badValue
  return (s.clearShorts a.first a.count).done tk (leBytes 2 (s.shortedIn a.first a.count))

/-- CLEAR_HEALTH (R164). -/
def execClearHealth (o : Origin) (s : State) : Host.Outcome State Fault Refusal :=
  takeRequest (some .clearHealth) o s fun tk s => answer tk s (serveClearHealth tk (lampRangeArgs tk.req.data) s)

end Sys2Proof.Machine
end

