-- ==== Sys2Proof/Machine/Compose.lean ====
section
/-! DEFINITION. Composition Arithmetic (04): what a compose reads at its frame start, and what it gives at its
completion. -/

namespace Sys2Proof.Machine

/-! ## Colours -/

/-- The colour with each channel changed by `f`. -/
def Rgb.each (f : Nat → Nat) (c : Rgb) : Rgb := ⟨f c.r, f c.g, f c.b⟩

/-- Two colours combined channel by channel. -/
def Rgb.zip (f : Nat → Nat → Nat) (a b : Rgb) : Rgb := ⟨f a.r b.r, f a.g b.g, f a.b b.b⟩

/-- The greatest of the three channels. -/
def Rgb.peak (c : Rgb) : Nat := max c.r (max c.g c.b)

/-- The sum of the three channels. -/
def Rgb.total (c : Rgb) : Nat := c.r + c.g + c.b

/-! ## Begin: the inputs as they stand at the frame start (R54, R56) -/

/-- The live source of a layer is void at this frame start (R54). -/
def State.sourceVoid (s : State) (l : Layer) : Bool :=
  match l.ed.source with
  | .solid _ => false
  | .pattern _ => l.detached
  | .stream q _ => s.ss.queues[q].stale

/-- The fields of a layer with frame values in place of own ones (R19). -/
def State.frameFields (s : State) (tf : Time) (i : LayerNo) : Editable :=
  let ed := s.lt.layers[i].ed
  match s.cueOn i with
  | none => ed
  | some cue => cueFields tf s.freeCount cue ed

/-- A layer as a compose begun at frame time `tf` reads it (R56, R60). -/
def State.composeLayer (s : State) (tf : Time) (i : LayerNo) : ComposeLayer :=
  let l := s.lt.layers[i]
  { owner := l.owner
    tier := l.tier
    ed := s.frameFields tf i
    presence := l.presence
    isVoid := s.sourceVoid l || (s.cueOn i).any s.cueBroken
    frame := match l.ed.source with
      | .stream q _ => s.ss.queues[q].current
      | _ => none }

/-- The inputs of a compose begun at frame time `tf` (R56). -/
def State.composeInputs (s : State) (tf : Time) : Compose where
  frameTime := tf
  began := s.sc.local'
  inSetup := s.inSetup
  layers := tabulate (s.composeLayer tf)
  zones := s.co.zones
  holders := tabulate s.holder
  pattern := s.ss.pattern
  slots := s.ss.slots
  glareOn := glareHolds s.tu.flags s.co.glare
  glareCap := s.co.glare.cap
  bins := s.co.bins
  lampBin := s.co.lampBin
  chains := s.co.chains
  nodes := tabulate fun l => s.lc.loops[l].nodes
  health := s.lc.health
  gone := 0

/-- Begins a compose (R56). -/
def State.beginCompose (s : State) (tf : Time) : State :=
  { s with co := { s.co with inFlight := some (s.composeInputs tf) } }

/-! ## One layer at one lamp (R59 to R64) -/

/-- The stack order: the layers of positive presence by ascending tier, then ascending number (R59). -/
def Compose.stack (c : Compose) : List LayerNo :=
  (List.finRange 6).flatMap fun t =>
    (List.finRange 16).filter fun i => decide (c.layers[i].presence > 0) && c.layers[i].tier == t

/-- A lamp index lies in a hole (R24). -/
def inHole (h : Option LampRange) (lam : LampNo) : Bool := h.any fun r => inRange r.first r.count lam

/-- A layer is skipped at a lamp of zone `z`: by its zone set, a hole, or the zone's holder (R59). -/
def skipped (c : Compose) (z : ZoneNo) (lam : LampNo) (y : ComposeLayer) : Bool :=
  !y.ed.zones.getLsbD z.val || inHole y.ed.hole1 lam || inHole y.ed.hole2 lam ||
    (c.holders[z].isSome && y.owner != c.holders[z])

/-- The sum of the lengths of the set's zones that `p` holds for. -/
def setLength (zones : Vector (Option Zone) 32) (set : BitVec 32) (p : ZoneNo → Bool) : Nat :=
  ((List.finRange 32).map fun y => if set.getLsbD y.val && p y then lengthOf zones y else 0).sum

/-- The position and the line length of a lamp at position `q` of zone `z`, by the span mode (R10, R11, R60). -/
def linePlace (zones : Vector (Option Zone) 32) (ed : Editable) (z : ZoneNo) (q : Nat) : Nat × Nat :=
  match ed.span with
  | .each => (q, lengthOf zones z)
  | .joined => (setLength zones ed.zones (fun y => decide (y < z)) + q, setLength zones ed.zones fun _ => true)

/-- The entry read at a slot index under the repeat mode (R44). -/
def slotEntry (mem : Store PatEntry) (sl : Slot) (i : Int) : PatEntry :=
  match sl.rep with
  | .wrap => readPattern mem (sl.first + (i % sl.length).toNat)
  | .edge => readPattern mem (sl.first + (min (sl.length - 1 : Int) (max 0 i)).toNat)
  | .clip => if 0 ≤ i ∧ i < sl.length then readPattern mem (sl.first + i.toNat) else PatEntry.blank

/-- Two neighbouring entries mixed at sixteenths `f` (R61, step 5). -/
def mixEntries (a b : PatEntry) (f : Nat) : PatEntry :=
  let mix := fun x y => (x * (16 - f) + y * f) / 16
  ⟨Rgb.zip mix a.colour b.colour, mix a.coverage b.coverage⟩

/-- A PATTERN sampled at sixteenth-lamp coordinate `x16` (R61, steps 3 to 5). -/
def samplePattern (mem : Store PatEntry) (sl : Slot) (x16 : Int) : PatEntry :=
  let i := x16 / 16
  mixEntries (slotEntry mem sl i) (slotEntry mem sl (i + 1)) (x16 - 16 * i).toNat

/-- The zone's line wraps for the layer: span mode EACH on a RING (R6, R61). -/
def ringWraps (zones : Vector (Option Zone) 32) (ed : Editable) (z : ZoneNo) : Bool :=
  ed.span == .each && (zones[z].any fun x => x.kind == .ring)

/-- The coordinate of a position on a layer's line (R61, steps 1 and 2). -/
def patternCoord (zones : Vector (Option Zone) 32) (ed : Editable) (z : ZoneNo) (p : Nat) : Int :=
  let x16 : Int := 16 * p - ed.offset
  if ringWraps zones ed z then x16 % (16 * lengthOf zones z : Nat) else x16

/-- An 8-bit code decoded to linear light (R62). -/
def decodeCode (v : Nat) : Nat := (v * v * 65535 + 32512) / 65025

/-- A stream frame sampled at position `p` of a line of `n` positions (R62). -/
def sampleStream (f : StreamFrame) (p n : Nat) : Rgb :=
  Rgb.each decodeCode (f.entries.getD (p * f.entries.length / n) Rgb.zero)

/-- The source colour and coverage of a contribution that is not void (R60 to R62). -/
def sourceColour (c : Compose) (y : ComposeLayer) (z : ZoneNo) (q : Nat) : PatEntry :=
  let place := linePlace c.zones y.ed z q
  match y.ed.source with
  | .solid col => ⟨col, 255⟩
  | .pattern n =>
    match c.slots[n] with
    | none => PatEntry.blank
    | some sl => samplePattern c.pattern sl (patternCoord c.zones y.ed z place.1)
  | .stream _ _ =>
    match y.frame with
    | none => PatEntry.blank
    | some f => ⟨sampleStream f place.1 place.2, 255⟩

/-- The linear multiplier of a level (R63). -/
def levelFactor (level : Nat) : Nat := (level * level + 32767) / 65535

/-- A colour at a level (R63). -/
def levelled (level : Nat) (col : Rgb) : Rgb := Rgb.each (fun x => x * levelFactor level / 65535) col

/-- The alpha of a contribution (R64). -/
def alphaOf (opacity coverage presence : Nat) : Nat := opacity * coverage * presence / 65025

/-! ## Blending and voiding (R65, R66) -/

/-- One channel blended at alpha `a` (R65). -/
def blendChannel (b : Blend) (a : Nat) (cs acc : Nat) : Nat :=
  match b with
  | .replace => (cs * a + acc * (65535 - a) + 32767) / 65535
  | .add => min 65535 (acc + cs * a / 65535)
  | .max => max acc (cs * a / 65535)
  | .tint => acc * ((cs * a + 65535 * (65535 - a) + 32767) / 65535) / 65535

/-- The accumulator at a lamp: its colour, its void mark, and the layers that voided the lamp (R59, R66). -/
structure Acc where
  colour : Rgb
  isVoid : Bool
  voiders : BitVec 16
  deriving DecidableEq, Repr

/-- The accumulator before the first layer (R59). -/
def Acc.start : Acc := ⟨Rgb.zero, false, 0⟩

/-- A contribution of alpha above 0 that is not void enters the accumulator: a full REPLACE clears the void mark (R65,
R66). -/
def Acc.blended (acc : Acc) (b : Blend) (a : Nat) (cs : Rgb) : Acc :=
  { acc with
    colour := Rgb.zip (blendChannel b a) cs acc.colour
    isVoid := acc.isVoid && !(b == .replace && a == 65535) }

/-- A void contribution of alpha above 0: the colour stands, the lamp is marked (R65, R66). -/
def Acc.voided (acc : Acc) (i : LayerNo) : Acc :=
  { acc with isVoid := true, voiders := acc.voiders ||| BitVec.twoPow 16 i.val }

/-- A layer of the stack at a lamp at position `q` of zone `z` (R59, R60, R64 to R66). -/
def layerAt (c : Compose) (z : ZoneNo) (lam : LampNo) (q : Nat) (acc : Acc) (i : LayerNo) : Acc :=
  let y := c.layers[i]
  if skipped c z lam y then acc
  else if y.isVoid then
    if alphaOf y.ed.opacity 255 y.presence = 0 then acc else acc.voided i
  else
    let src := sourceColour c y z q
    let a := alphaOf y.ed.opacity src.coverage y.presence
    if a = 0 then acc else acc.blended y.ed.blend a (levelled y.ed.level src.colour)

/-- The whole stack at a lamp (R59). -/
def stackAt (c : Compose) (order : List LayerNo) (z : ZoneNo) (lam : LampNo) (q : Nat) : Acc :=
  order.foldl (layerAt c z lam q) Acc.start

/-! ## Output stages (R67 to R72) -/

/-- The glare stage at a lamp of a glare-class zone while the condition holds (R69). -/
def glareStage (cap : Nat) (col : Rgb) : Rgb :=
  let m := col.peak
  if m > cap then Rgb.each (fun x => x * cap / m) col else col

/-- One channel calibrated (R70). -/
def calibrate (gain x : Nat) : Nat := min 65535 (x * gain / 32768)

/-- One channel's drive code (R72). -/
def driveCode (x : Nat) : Nat := min 4095 ((x + 8) / 16)

/-- The health mask: SHORT channels are 0 (R72). -/
def healthMask (short : ColourMask) (d : Rgb) : Rgb :=
  ⟨if short.r then 0 else d.r, if short.g then 0 else d.g, if short.b then 0 else d.b⟩

/-- The bin of a lamp. -/
def binOf (c : Compose) (lam : LampNo) : Bin := c.bins[c.lampBin[lam]]

/-- The unscaled drives of a lamp of zone `x` whose stack ended in `acc` (R67, R69, R70, R72). -/
def outputStages (c : Compose) (x : Zone) (lam : LampNo) (acc : Acc) : Rgb :=
  let col := if acc.isVoid then x.fallback else acc.colour
  let glared := if c.glareOn && x.glare then glareStage c.glareCap col else col
  healthMask c.health[lam].shortMask (Rgb.each driveCode (Rgb.zip calibrate (binOf c lam).gains glared))

/-- What a compose gives at one lamp: its unscaled drives, and the layers that voided it. -/
structure LampOut where
  drive : Rgb
  voiders : BitVec 16
  deriving DecidableEq, Repr

/-- A lamp in SETUP or in no zone: code 0, voided by nothing (R4, R56). -/
def LampOut.dark : LampOut := ⟨Rgb.zero, 0⟩

/-- A lamp composed (R4, R56, R59). -/
def lampOut (c : Compose) (order : List LayerNo) (lam : LampNo) : LampOut :=
  if c.inSetup then LampOut.dark
  else
    match zoneOf c.zones lam with
    | none => LampOut.dark
    | some z =>
      match c.zones[z] with
      | none => LampOut.dark
      | some x =>
        let acc := stackAt c order z lam ((zonePos x lam).getD 0)
        ⟨outputStages c x lam acc, acc.voiders⟩

/-- Every lamp composed. -/
def Compose.lamps (c : Compose) : Vector LampOut 384 := tabulate (lampOut c c.stack)

/-! ## The loop budget (R74 to R76) -/

/-- The lamp numbers of a loop in position order. -/
def loopLamps (l : LoopNo) : List LampNo := (List.finRange 64).map (lampAt l)

/-- The current of a lamp's channels whose OPEN mark is not set (R74). -/
def lampCurrent (open' : ColourMask) (coeffs d : Rgb) : Nat :=
  (if open'.r then 0 else d.r * coeffs.r) + (if open'.g then 0 else d.g * coeffs.g) + (if open'.b then 0 else d.b * coeffs.b)

/-- The current estimate of a loop in nA, over its present lamps (R74). -/
def loopEstimate (c : Compose) (drive : LampNo → Rgb) (l : LoopNo) : Nat :=
  ((loopLamps l).map fun lam =>
    if lampPresent c.nodes lam then lampCurrent c.health[lam].openMask (binOf c lam).coeffs (drive lam) else 0).sum

/-- The hottest temperature reported on a loop since its discovery (R75). -/
def hottest (health : Vector Health 384) (l : LoopNo) : Option Int :=
  ((loopLamps l).filterMap fun lam => if health[lam].queried then some health[lam].temp else none).max?

/-- The derate at temperature `t` with knee `k` (R75). -/
def derateAt (k : Nat) (t : Int) : Nat :=
  if t ≤ k then 65536 else if t < k + 40 then 65536 - ((t - k).toNat * 49152 / 40) else 16384

/-- The derate of a loop (R75). -/
def loopDerate (c : Compose) (l : LoopNo) : Nat :=
  match hottest c.health l with
  | none => 65536
  | some t => derateAt c.chains[l].knee t

/-- The effective budget in nA (R76). -/
def effectiveBudget (budget derate : Nat) : Nat := budget * 1000000 * derate / 65536

/-- What a compose gives for one loop: whether it is limiting, its derate, and its scale while limiting (R76). -/
structure LoopOut where
  limiting : Bool
  derate : Nat
  scale : Nat
  deriving DecidableEq, Repr

/-- The budget judged for one loop (R76). -/
def judgeBudget (estimate budget derate : Nat) : LoopOut :=
  let b := effectiveBudget budget derate
  ⟨decide (estimate > b), derate, b * 65536 / estimate⟩

/-- The budget of every loop (R74, R75, R76). -/
def Compose.loopOuts (c : Compose) (lamps : Vector LampOut 384) : Vector LoopOut 6 :=
  tabulate fun l => judgeBudget (loopEstimate c (fun lam => lamps[lam].drive) l) c.chains[l].budget (loopDerate c l)

/-- A lamp's codes scaled with its loop (R76). -/
def scaleDrive (y : LoopOut) (d : Rgb) : Rgb := if y.limiting then Rgb.each (fun x => x * y.scale / 65536) d else d

/-- The final drive codes of every lamp (R57, R76). -/
def finalDrives (lamps : Vector LampOut 384) (loops : Vector LoopOut 6) : Vector Rgb 384 :=
  mapAt lamps fun lam y => scaleDrive loops[lampLoop lam] y.drive

/-! ## Completion at the Compositor (R67, R77) -/

/-- A layer voided at least one lamp (R67). -/
def layerVoided (lamps : Vector LampOut 384) (i : LayerNo) : Bool :=
  lamps.toList.any fun y => y.voiders.getLsbD i.val

/-- Queues a notice to an owner, when there is one. -/
def State.notifyOwner (s : State) (o : Option Origin) (n : Notice) : State :=
  match o with
  | none => s
  | some o => s.notify o n

/-- The void flag of one layer settled, with LAYER_VOID to its frame-start owner on a change; a compose that read SETUP
clears it silently, and a layer that became FREE since is left alone (R31, R56, R67). -/
def State.settleVoid (s : State) (c : Compose) (lamps : Vector LampOut 384) (i : LayerNo) : State :=
  let l := s.lt.layers[i]
  let v := layerVoided lamps i
  if c.gone.getLsbD i.val then s
  else if c.inSetup then s.setLayer i { l with void := false }
  else if l.void = v then s
  else (s.setLayer i { l with void := v }).notifyOwner c.layers[i].owner (.layerVoid i v)

/-- Replaces a loop's limiting record. -/
def State.setLimit (s : State) (l : LoopNo) (x : Limit) : State :=
  { s with co := { s.co with limits := setAt s.co.limits l x } }

/-- The change of a limiting record is reported (R77). -/
def limitReported (old new : Limit) : Bool :=
  old.limiting != new.limiting || (old.derate == 65536) != (new.derate == 65536)

/-- The limiting record of one loop settled, with LIMITING on a reportable change (R77). -/
def State.settleLimit (s : State) (loops : Vector LoopOut 6) (l : LoopNo) : State :=
  let new : Limit := ⟨loops[l].limiting, loops[l].derate⟩
  let s1 := s.setLimit l new
  if limitReported s.co.limits[l] new then s1.notifyAll (.limiting l new.limiting new.derate) else s1

end Sys2Proof.Machine
end

