-- ==== Sys2Proof/Machine/Watches.lean ====
section
/-! DEFINITION. Watch Unit (10): watch records, measures, hit states, the signal lines; and the completion of a compose,
which hands its drives to the loops and the watches (R57). -/

namespace Sys2Proof.Machine

/-! ## Measures and comparators (R169, R170) -/

/-- The present lamps of a zone (R15, R169). -/
def watchedLamps (zones : Vector (Option Zone) 32) (nodes : Vector Nat 6) (z : ZoneNo) : List LampNo :=
  (List.finRange 384).filter fun lam => inZone zones z lam && lampPresent nodes lam

/-- The measure of the drive codes of a zone's present lamps (R169). -/
def measureOf (m : Measure) (drives : List Rgb) : Nat :=
  match m with
  | .peak => drives.foldl (fun k d => max k d.peak) 0
  | .mean => (drives.map Rgb.total).sum / (3 * drives.length)

/-- A comparator holds for a measure (R170). -/
def compares (c : Comparator) (m : Nat) : Bool :=
  match c.kind with
  | .off => false
  | .below => decide (m < c.threshold)
  | .atLeast => decide (m ≥ c.threshold)
  | .equal => m == c.threshold

/-- A watch matches at a measure (R170). -/
def watchMatches (w : Watch) (m : Nat) : Bool :=
  if w.b.kind = .off then compares w.a m
  else
    match w.combine with
    | .all => compares w.a m && compares w.b m
    | .any => compares w.a m || compares w.b m

/-! ## Records and lines (R167, R168, R172) -/

/-- Replaces a watch record. -/
def State.setWatchRec (s : State) (w : WatchNo) (x : Watch) : State :=
  { s with wu := { s.wu with watches := setAt s.wu.watches w x } }

/-- Some enabled watch routed to the line has hit yes (R172). -/
def lineHigh (watches : Vector Watch 4) (line : Signal) : Bool :=
  watches.toList.any fun w => w.enabled && w.hit && w.signal == line

/-- SIG0 and SIG1 formed from the hit states (R172). -/
def State.formLines (s : State) : State :=
  { s with wu := { s.wu with sig0 := lineHigh s.wu.watches .sig0, sig1 := lineHigh s.wu.watches .sig1 } }

/-- A comparator field: comparator A may not be OFF (R168, check 4). A threshold above 4095 becomes 4095. -/
def comparator? (mayBeOff : Bool) (kind threshold : Nat) : Option Comparator :=
  match compareKind? kind with
  | none => none
  | some .off => if mayBeOff then some ⟨.off, min 4095 threshold⟩ else none
  | some k => some ⟨k, min 4095 threshold⟩

def serveSetWatch (tk : Taken) (a : SetWatchArgs) (s : State) : Served := do
  configChecks tk s
  let w ← found (fin? 4 a.watch) .badValue
  let z ← found (fin? 32 a.zone) .badValue
  let measure ← found (measure? a.measure) .badValue
  let combine ← found (combine? a.combine) .badValue
  let signal ← found (signal? a.signal) .badValue
  let enabled ← found (yesNo? a.enable) .badValue
  let notice ← found (yesNo? a.notice) .badValue
  let cmpA ← found (comparator? false a.aKind a.aThreshold) .badValue
  let cmpB ← found (comparator? true a.bKind a.bThreshold) .badValue
  let clamped := decide (a.aThreshold > 4095 ∨ a.bThreshold > 4095)
  let x : Watch := ⟨enabled, z, measure, cmpA, cmpB, combine, notice, signal, false⟩
  return ((s.setWatchRec w x).formLines).reply tk .done clamped false []

/-- SET_WATCH (R168). -/
def execSetWatch (o : Origin) (s : State) : Host.Outcome State Fault Refusal :=
  takeRequest (some .setWatch) o s fun tk s => answer tk s (serveSetWatch tk (setWatchArgs tk.req.data) s)

/-! ## Evaluation (R170, R171, R173) -/

/-- One watch evaluated on the drives of a compose, with WATCH_HIT on a change when its notice field is yes (R170,
R171). -/
def State.evalWatch (s : State) (c : Compose) (drives : Vector Rgb 384) (w : WatchNo) : State :=
  let x := s.wu.watches[w]
  let m := measureOf x.measure ((watchedLamps s.co.zones c.nodes x.zone).map fun lam => drives[lam])
  let hit := watchMatches x m
  let s1 := s.setWatchRec w { x with hit := hit }
  if !x.enabled then s
  else if x.notice && x.hit != hit then s1.notifyAll (.watchHit w hit m c.frameTime)
  else s1

/-- The watches in ascending number, then the lines once (R170, R172). -/
def State.evalWatches (s : State) (c : Compose) (drives : Vector Rgb 384) : State :=
  ((List.finRange 4).foldl (fun s w => s.evalWatch c drives w) s).formLines

/-- A watch evaluated on measure 0, when it is enabled (R173). -/
def watchOnDark (x : Watch) : Watch := if x.enabled then { x with hit := watchMatches x 0 } else x

/-- The watches at entry to ASLEEP: every enabled one on measure 0, without notices, then the lines (R173). -/
def State.darkWatches (s : State) : State :=
  State.formLines { s with wu := { s.wu with watches := mapAt s.wu.watches fun _ x => watchOnDark x } }

/-! ## COMPOSE_COMPLETE (R57) -/

/-- The final codes of a loop's 64 lamps in position order (R57). -/
def loopCodes (drives : Vector Rgb 384) (l : LoopNo) : List Rgb := (loopLamps l).map fun lam => drives[lam]

/-- A compose completes: void flags and limiting records are settled, each loop takes its codes, and the watches are
evaluated (R57, R67, R77, R154, R170; for the order across blocks, log entry 9). -/
def State.completeCompose (s : State) (c : Compose) : State :=
  let lamps := c.lamps
  let loops := c.loopOuts lamps
  let drives := finalDrives lamps loops
  let s1 : State := { s with co := { s.co with inFlight := none } }
  let s2 := (List.finRange 16).foldl (fun s i => s.settleVoid c lamps i) s1
  let s3 := (List.finRange 6).foldl (fun s l => s.settleLimit loops l) s2
  (s3.loopsAtCompletion (loopCodes drives)).evalWatches c drives

/-- The codes a compose gives the nodes of a loop of `n` nodes, in position order (R57, R154). -/
def Compose.words (c : Compose) (l : LoopNo) (n : Nat) : List Rgb :=
  let lamps := c.lamps
  (loopCodes (finalDrives lamps (c.loopOuts lamps)) l).take n

/-- The loop goes quiet at the completion of this compose: RUNNING and claimed, its codes all 0, its quiet counter
reaching 64 (R158). -/
def goesQuiet (x : Loop) (words : List Rgb) : Bool :=
  x.state == .running && x.claimed && allDark words && decide (x.quietCount + 1 ≥ quietLimit)

/-- QUIET_THRESHOLD (R158): at the completion of the compose in flight the loop's quiet counter reaches 64. A completion
quiets every such loop; the row is that change of one loop (log entry 6). -/
def execQuietThreshold (l : LoopNo) (s : State) : Host.Outcome State Fault Refusal :=
  match s.co.inFlight with
  | none => .next s
  | some c =>
    let x := s.lc.loops[l]
    s.liveWhen (goesQuiet x (c.words l x.nodes)) (s.changeLoop l x.quieted .dark)

/-- COMPOSE_COMPLETE (R57). -/
def execComposeComplete (s : State) : Host.Outcome State Fault Refusal :=
  match s.co.inFlight with
  | none => .next s
  | some c => s.live (s.completeCompose c)

end Sys2Proof.Machine
end

