-- ==== Sys2Proof/Machine/Frames.lean ====
section
/-! DEFINITION. The work of a frame start (05 R88), in the order the chapters give it. -/

namespace Sys2Proof.Machine

/-- The frame start's work once it has been raised with frame time `tf`: gate application, the Cue Engine's due starts,
ends and track evaluation, the presence step, stream promotion and staleness, the loops, and then the compose begun on
what these leave (R30, R35, R56, R88, R102, R152). -/
def State.frameWork (s : State) (tf : Time) : State :=
  let s1 := ((s.applyGates.dueStarts tf).cueEnds tf).evaluate tf
  let s2 := (s1.stepPresences.promote tf).judgeStale
  s2.loopsAtFrame.beginCompose tf

/-- A frame start with frame time `tf`: raised, then worked (R87, R88). -/
def State.frameStart (s : State) (tf : Time) : State := (s.raiseFrame tf).frameWork tf

/-- FRAME_START (R87, R88): the frame time is the next frame time itself. -/
def execFrameStart (s : State) : Host.Outcome State Fault Refusal :=
  match s.sc.nextFrame with
  | none => .next s
  | some tf => s.liveWhen s.frameDue (s.frameStart tf)

/-! ## Two parts of a frame start as rows of the table -/

/-- The queue is stale at a frame start raised now with frame time `tf`: judged once gates are applied and the queue is
brought up to the frame time (R35, R51, R52). -/
def State.staleAt (s : State) (tf : Time) (q : QueueNo) : Bool :=
  let s1 := s.applyGates.promote tf
  isStale s1.lt.layers s1.sc.local' s1.ss.queues[q]

/-- STREAM_STALE (R52): at the frame start that is due the queue is stale. The frame start judges every queue; the row is
the judgement of one queue (log entry 6). -/
def execStreamStale (q : QueueNo) (s : State) : Host.Outcome State Fault Refusal :=
  match s.sc.nextFrame with
  | none => .next s
  | some tf => s.liveWhen (s.frameDue && s.staleAt tf q) (s.setQueue q { s.ss.queues[q] with stale := true })

/-- HOLDOFF_END (R152): at the frame start that is due a FAILED loop's holdoff counter reaches 0. The frame start ends every
such holdoff; the row is the end of one loop's (log entry 6). -/
def execHoldoffEnd (l : LoopNo) (s : State) : Host.Outcome State Fault Refusal :=
  let x := s.lc.loops[l]
  s.liveWhen (s.frameDue && x.state == .failed && x.holdoffOver) (s.endHoldoff l)

end Sys2Proof.Machine
end

