-- ==== Sys2Proof/Machine/Part.lean ====
section
/-! DEFINITION. Part State (12): the states, sleep and wake, the resets; READ_STATUS (11). -/

namespace Sys2Proof.Machine

/-! ## The part state (R188, R189) -/

/-- Replaces the part state. -/
def State.setPartState (s : State) (p : PartState) : State := { s with ps := { s.ps with state := p } }

/-- The checks of ENTER_RUN and ENTER_SETUP (R189). -/
def stateChecks (tk : Taken) (s : State) : Except Code Unit := do
  require (!tk.origin.mayConfigure) .noRight
  require (s.ps.state == .settling) .wrongState

def serveEnterRun (tk : Taken) (s : State) : Served := do
  stateChecks tk s
  return if s.inSetup then (s.setPartState .run).done tk [] else s.done tk []

/-- ENTER_RUN (R189): in RUN it changes nothing. -/
def execEnterRun (o : Origin) (s : State) : Host.Outcome State Fault Refusal :=
  takeRequest (some .enterRun) o s fun tk s => answer tk s (serveEnterRun tk s)

/-- Every gate becomes OPEN and every staged copy is discarded (R37). -/
def State.openGates (s : State) : State :=
  let s1 := s.mapLayers fun _ l => { l with copy := none }
  { s1 with lt := { s1.lt with gates := Vector.replicate 4 .opened } }

/-- Every zone hold is released (R141). -/
def State.releaseHolds (s : State) : State := { s with ot := { s.ot with holds := Vector.replicate 32 none } }

/-- What ENTER_SETUP does in RUN (R189): cues, gates and copies, layers and queues, holds, state. -/
def State.enterSetup (s : State) : State :=
  let s1 := (s.endAllCues .stopped).openGates
  ((s1.freeLayersWhere fun _ l => l.state != .free).releaseHolds).setPartState .setup

def serveEnterSetup (tk : Taken) (s : State) : Served := do
  stateChecks tk s
  return if s.inSetup then s.done tk [] else (s.done tk []).enterSetup

/-- ENTER_SETUP (R189): in SETUP it changes nothing. -/
def execEnterSetup (o : Origin) (s : State) : Host.Outcome State Fault Refusal :=
  takeRequest (some .enterSetup) o s fun tk s => answer tk s (serveEnterSetup tk s)

/-! ## Sleep (R190, R191) -/

/-- The tier ALERT. -/
def alertTier : Tier := 4

/-- A layer of tier ALERT has presence above 0 (R190). -/
def State.alertLit (s : State) : Bool :=
  s.lt.layers.toList.any fun l => l.tier == alertTier && decide (l.presence > 0)

def serveSleep (tk : Taken) (s : State) : Served := do
  require (decide (tk.origin ≠ .body)) .noRight
  require (decide (s.ps.state ≠ .run)) .wrongState
  require s.alertLit .alertActive
  return (s.setPartState .settling).done tk []

/-- SLEEP (R190). -/
def execSleep (o : Origin) (s : State) : Host.Outcome State Fault Refusal :=
  takeRequest (some .sleep) o s fun tk s => answer tk s (serveSleep tk s)

/-- The loop awaits the return of a REFRESH. -/
def Loop.awaitsRefresh (x : Loop) : Bool :=
  x.await.any fun a =>
    match a.kind with
    | .refresh _ => true
    | .count => false

/-- Settling's last compose has completed and the returns of its REFRESH bursts have been judged (R190). -/
def State.settleReady (s : State) : Bool :=
  s.ps.state == .settling && s.co.inFlight.isNone && !(s.lc.loops.toList.any Loop.awaitsRefresh)

/-- Every layer's presence becomes 0 (R30, R191). -/
def State.darkLayers (s : State) : State := s.mapLayers fun _ l => { l with presence := 0 }

/-- The frame timer stops (R90). -/
def State.stopFrames (s : State) : State := { s with sc := { s.sc with nextFrame := none, lastFrame := none } }

/-- Entry to ASLEEP (R191). -/
def State.fallAsleep (s : State) : State :=
  let s1 := (s.setPartState .asleep).endAllCues .sleep
  s1.darkLayers.emptyQueues.stopFrames.darkWatches

/-- SETTLE (R161, R190, R191). -/
def execSettle (s : State) : Host.Outcome State Fault Refusal :=
  s.liveWhen s.settleReady s.settleLoops.fallAsleep

/-! ## Wake (R192) -/

/-- The part is WAKING no more: it is in RUN, and the trim corrector resumes with that (R81, R192). -/
def State.wakeUp (s : State) : State := { s with ps := { s.ps with state := .run, wakeSince := none } }

/-- Wake completion (R192): RUN, the loops, the wake list, a frame start with the scene clock as its frame time. -/
def State.completeWake (s : State) : State :=
  let s1 := s.wakeUp.wakeLoops.matchWakeList
  s1.frameStart s.sc.scene

/-- WAKE_COMPLETION (R192). -/
def execWakeCompletion (s : State) : Host.Outcome State Fault Refusal :=
  s.liveWhen (s.ps.state == .waking) s.completeWake

/-! ## Power-on, the RESET pin and RESTART (R162, R187, R193) -/

/-- The raw levels of the trigger lines. -/
def State.rawLevels (s : State) (t : LineNo) : Bool := s.tu.lines[t].raw

/-- POWER_ON: every block takes its power-on values, and the part is in SETUP with the RESET pin not
asserted (log entry 13). -/
def execPowerOn (strap : Fin 8) (raw : BitVec 8) (s : State) : Host.Outcome State Fault Refusal :=
  .next (State.fresh strap (fun t => raw.getLsbD t.val) s.pending s.freeCount)

/-- The loop with its burst in progress cut off and its awaited return abandoned (R162). -/
def Loop.cutOff (x : Loop) : Loop := { x with await := none, out := [] }

/-- The work in progress that the RESET pin ends: the compose in flight, the bursts and awaited returns, the
transmissions (R58, R162, R187). -/
def State.abandonWork (s : State) : State :=
  let s1 := (s.abandonSend .ca).abandonSend .cb
  { s1 with
    co := { s1.co with inFlight := none }
    lc := { s1.lc with loops := mapAt s1.lc.loops fun _ x => x.cutOff } }

/-- Both clocks held at 0 (R193). -/
def State.zeroClocks (s : State) : State := { s with sc := { s.sc with scene := 0, local' := 0, lastFrame := none } }

/-- The RESET pin asserted. -/
def State.holdReset (s : State) : State := { s with ps := { s.ps with resetHeld := true } }

/-- RESET_PIN_ASSERT (R193). -/
def execResetPinAssert (s : State) : Host.Outcome State Fault Refusal :=
  s.live s.abandonWork.zeroClocks.holdReset

/-- RESET_PIN_RELEASE (R193): every block starts from its power-on values and the strap pins are sampled. The pin can
only be released while it is asserted. -/
def execResetPinRelease (strap : Fin 8) (s : State) : Host.Outcome State Fault Refusal :=
  .next (if s.ps.resetHeld then State.fresh strap s.rawLevels s.pending s.freeCount else s)

/-- The Scene Clock after a RESTART: both clocks and the corrector are kept, the next frame falls 10 000 later (R78, R80,
R81, R90). -/
def restartedClock (c : ClockBlock) : ClockBlock :=
  { ClockBlock.fresh with
    scene := c.scene
    local' := c.local'
    trim := c.trim
    sense := c.sense
    acc := c.acc
    nextFrame := some (timePlus c.scene 10000) }

/-- The part after a RESTART: power-on values but for the clocks, the health map (whose queried marks every loop's entry
to DISCOVERING clears) and the strap (R162, R163, R193). -/
def State.restarted (s : State) : State :=
  let f := State.fresh s.mp.strap s.rawLevels s.pending s.freeCount
  { f with
    sc := restartedClock s.sc
    lc := { f.lc with health := unqueried (fun _ => true) s.lc.health } }

def serveRestart (tk : Taken) (s : State) : Served := do
  require (decide (tk.origin ≠ .service)) .noRight
  return s.restarted.done tk []

/-- RESTART (R193): its reply enters the emptied queue. -/
def execRestart (o : Origin) (s : State) : Host.Outcome State Fault Refusal :=
  takeRequest (some .restart) o s fun tk s => answer tk s (serveRestart tk s)

/-! ## READ_STATUS (R186, 11.7) -/

def partStateByte : PartState → Byte
  | .setup => 0
  | .run => 1
  | .settling => 2
  | .asleep => 3
  | .waking => 4

def channelStateByte : ChannelState → Byte
  | .active => 0
  | .passive => 1
  | .offline => 2

def chanByte : Chan → Byte
  | .ca => 0
  | .cb => 1

def gateByte : Gate → Byte
  | .opened => 0
  | .closed _ => 1
  | .opening => 2

/-- The status of one channel's counters. -/
def counterBytes (c : Channel) : List Byte := leBytes 2 c.txErrors ++ [oneByte c.rxErrors]

/-- The zones an origin holds, as a mark set. -/
def State.heldZones (s : State) (o : Origin) : BitVec 32 := markSet fun z => s.holder z == some o

/-- The result fields of READ_STATUS, bytes 4 to 40 (11.7). -/
def statusBytes (o : Origin) (s : State) : List Byte :=
  let p := s.port o
  [partStateByte s.ps.state, originByte s.ot.timeSource] ++
    [channelStateByte (channelState s.mp.ca), channelStateByte (channelState s.mp.cb)] ++
    counterBytes s.mp.ca ++ counterBytes s.mp.cb ++ [chanByte p.home] ++ leBytes 2 p.mask.toNat ++
    [oneByte p.intake.length, oneByte p.tx.length, oneByte (s.heldCount o), oneByte s.freeCountOfLayers] ++
    [gateByte (s.gate o)] ++ leBytes 4 (s.heldZones o).toNat ++ [oneByte s.ce.queue.length] ++
    s.lc.loops.toList.flatMap (fun x => [loopStateByte x.state, oneByte x.nodes]) ++
    [oneByte (markSet fun l : LoopNo => s.co.limits[l].limiting).toNat] ++
    [oneByte ((if s.wu.sig0 then 1 else 0) + (if s.wu.sig1 then 2 else 0))]

/-- READ_STATUS (R186): never refused. -/
def execReadStatus (o : Origin) (s : State) : Host.Outcome State Fault Refusal :=
  takeRequest (some .readStatus) o s fun tk s => s.done tk (statusBytes o s)

end Sys2Proof.Machine
end

