-- ==== Sys2Proof/Machine/Forget.lean ====
section
/-! DEFINITION. FORGET (08.5): the teardown of everything an origin has built. -/

namespace Sys2Proof.Machine

/-- A start-queue entry of the cue was scheduled by the origin (R113). -/
def State.scheduledBy (s : State) (o : Origin) (c : CueNo) : Bool :=
  s.ce.queue.any fun e => e.cue == c && e.scheduler == o

/-- One cue at FORGET (R113, R147 step 2): EMPTY when the origin owns it, READY when the origin scheduled it for another
owner. -/
def State.forgetCue (s : State) (o : Origin) (c : CueNo) : State :=
  match s.ce.cues[c] with
  | none => s
  | some cue =>
    if cue.owner = o then s.emptyCue c cue .forgotten
    else if s.scheduledBy o c then (s.setStartQueue (dropEntry c s.ce.queue)).endCue c cue .forgotten
    else s

/-- Every cue, in ascending number (R113, R147 step 2). -/
def State.forgetCues (s : State) (o : Origin) : State := (List.finRange 24).foldl (fun s c => s.forgetCue o c) s

/-- Every slot the origin owns is deleted (R46, R147 step 4). -/
def State.forgetSlots (s : State) (o : Origin) : State :=
  (List.finRange 16).foldl (fun s n =>
    if s.ss.slots[n].any fun x => x.owner == o then s.deleteSlot n else s) s

/-- Every zone the origin holds is left with no holder (R147 step 6). -/
def State.forgetHolds (s : State) (o : Origin) : State :=
  { s with ot := { s.ot with holds := mapAt s.ot.holds fun _ h => h.filter fun h => h.holder != o } }

/-- Every flag the origin writes is set to 0 (R147 step 7). -/
def State.forgetFlags (s : State) (o : Origin) : State :=
  s.setFlagBits (s.tu.flags &&& ~~~(writtenBy s.tu.writers (.origin o)))

/-- The origin's subscription mask is cleared (R147 step 8). -/
def State.clearMask (s : State) (o : Origin) : State := s.setPort o { s.port o with mask := 0 }

/-- The teardown of an origin, in the order of R147. -/
def State.forget (s : State) (o : Origin) : State :=
  let s1 := (s.discardCopies o).setGate o .opened
  let s2 := (s1.forgetCues o).freeLayersWhere fun _ l => ownedBy o l
  let s3 := ((s2.forgetSlots o).unbindWhere fun e => e.owner == o).forgetHolds o
  (s3.forgetFlags o).clearMask o

/-- How many entries of a table `p` holds for. -/
def countAt {α : Type} {n : Nat} (v : Vector α n) (p : α → Bool) : Nat := v.toList.countP p

/-- The five counts of the reply to FORGET (R148, 11.7). -/
def forgetCounts (o : Origin) (s : State) : List Byte :=
  [oneByte (s.heldCount o), oneByte (countAt s.ce.cues fun c => c.any fun c => c.owner == o),
   oneByte (countAt s.ss.slots fun x => x.any fun x => x.owner == o),
   oneByte (countAt s.tu.binds fun e => e.any fun e => e.owner == o),
   oneByte (countAt s.ot.holds fun h => h.any fun h => h.holder == o)]

def serveForget (tk : Taken) (origin : Nat) (s : State) : Served := do
  let o ← found (Origin.ofNat? origin) .badValue
  require (decide (tk.origin ≠ o ∧ tk.origin ≠ .service)) .notOwner
  return (s.done tk (forgetCounts o s)).forget o

/-- FORGET (R146, R147, R148). -/
def execForget (o : Origin) (s : State) : Host.Outcome State Fault Refusal :=
  takeRequest (some .forget) o s fun tk s => answer tk s (serveForget tk (byteAt tk.req.data 2) s)

end Sys2Proof.Machine
end

