-- ==== Sys2Proof/Machine/Dispatch.lean ====
section
/-! DEFINITION. The dispatch: one arm for each command, each one direct call of its meaning. -/

namespace Sys2Proof.Machine

/-- A command's effect on everything but the queue. -/
def exec (i : Instr) (s : State) : Host.Outcome State Fault Refusal :=
  match i with
  | .powerOn strap raw => Sys2Proof.Machine.execPowerOn strap raw s
  | .resetPinAssert => Sys2Proof.Machine.execResetPinAssert s
  | .resetPinRelease strap => Sys2Proof.Machine.execResetPinRelease strap s
  | .frameReceived ch fmt ident data => Sys2Proof.Machine.execFrameReceived ch fmt ident data s
  | .requestUnknownKind o => Sys2Proof.Machine.execRequestUnknownKind o s
  | .setOrigin o => Sys2Proof.Machine.execSetOrigin o s
  | .setZone o => Sys2Proof.Machine.execSetZone o s
  | .clearZone o => Sys2Proof.Machine.execClearZone o s
  | .setBin o => Sys2Proof.Machine.execSetBin o s
  | .setLampBin o => Sys2Proof.Machine.execSetLampBin o s
  | .setChain o => Sys2Proof.Machine.execSetChain o s
  | .setLine o => Sys2Proof.Machine.execSetLine o s
  | .setFlagOwner o => Sys2Proof.Machine.execSetFlagOwner o s
  | .setGlare o => Sys2Proof.Machine.execSetGlare o s
  | .setFrame o => Sys2Proof.Machine.execSetFrame o s
  | .setWatch o => Sys2Proof.Machine.execSetWatch o s
  | .writePattern o => Sys2Proof.Machine.execWritePattern o s
  | .definePattern o => Sys2Proof.Machine.execDefinePattern o s
  | .deletePattern o => Sys2Proof.Machine.execDeletePattern o s
  | .writeKeys o => Sys2Proof.Machine.execWriteKeys o s
  | .defineCue o => Sys2Proof.Machine.execDefineCue o s
  | .deleteCue o => Sys2Proof.Machine.execDeleteCue o s
  | .bind o => Sys2Proof.Machine.execBind o s
  | .unbind o => Sys2Proof.Machine.execUnbind o s
  | .timeQuery o => Sys2Proof.Machine.execTimeQuery o s
  | .setClock o => Sys2Proof.Machine.execSetClock o s
  | .trimClock o => Sys2Proof.Machine.execTrimClock o s
  | .readStatus o => Sys2Proof.Machine.execReadStatus o s
  | .subscribe o => Sys2Proof.Machine.execSubscribe o s
  | .readCapture o => Sys2Proof.Machine.execReadCapture o s
  | .openLayer o => Sys2Proof.Machine.execOpenLayer o s
  | .editLayer o => Sys2Proof.Machine.execEditLayer o s
  | .showLayer o => Sys2Proof.Machine.execShowLayer o s
  | .hideLayer o => Sys2Proof.Machine.execHideLayer o s
  | .closeLayer o => Sys2Proof.Machine.execCloseLayer o s
  | .gateClose o => Sys2Proof.Machine.execGateClose o s
  | .gateOpen o => Sys2Proof.Machine.execGateOpen o s
  | .startCue o => Sys2Proof.Machine.execStartCue o s
  | .stopCue o => Sys2Proof.Machine.execStopCue o s
  | .streamFrame o => Sys2Proof.Machine.execStreamFrame o s
  | .holdZone o => Sys2Proof.Machine.execHoldZone o s
  | .releaseZone o => Sys2Proof.Machine.execReleaseZone o s
  | .setFlags o => Sys2Proof.Machine.execSetFlags o s
  | .trigger o => Sys2Proof.Machine.execTrigger o s
  | .clearHealth o => Sys2Proof.Machine.execClearHealth o s
  | .forget o => Sys2Proof.Machine.execForget o s
  | .enterRun o => Sys2Proof.Machine.execEnterRun o s
  | .enterSetup o => Sys2Proof.Machine.execEnterSetup o s
  | .sleep o => Sys2Proof.Machine.execSleep o s
  | .restart o => Sys2Proof.Machine.execRestart o s
  | .trimCorrection => Sys2Proof.Machine.execTrimCorrection s
  | .frameStart => Sys2Proof.Machine.execFrameStart s
  | .cueNaturalEnd c => Sys2Proof.Machine.execCueNaturalEnd c s
  | .cueReleaseEnd c => Sys2Proof.Machine.execCueReleaseEnd c s
  | .streamStale q => Sys2Proof.Machine.execStreamStale q s
  | .holdoffEnd l => Sys2Proof.Machine.execHoldoffEnd l s
  | .composeComplete => Sys2Proof.Machine.execComposeComplete s
  | .quietThreshold l => Sys2Proof.Machine.execQuietThreshold l s
  | .loopReturnReceived l ret => Sys2Proof.Machine.execLoopReturnReceived l ret s
  | .loopReturnTimeout l => Sys2Proof.Machine.execLoopReturnTimeout l s
  | .loopFailed l ret => Sys2Proof.Machine.execLoopFailed l ret s
  | .gateExpiry o => Sys2Proof.Machine.execGateExpiry o s
  | .lineRawChange t level => Sys2Proof.Machine.execLineRawChange t level s
  | .lineChangeAccepted t => Sys2Proof.Machine.execLineChangeAccepted t s
  | .settle => Sys2Proof.Machine.execSettle s
  | .wakeCompletion => Sys2Proof.Machine.execWakeCompletion s
  | .frameTransmitStart ch => Sys2Proof.Machine.execFrameTransmitStart ch s
  | .frameTransmitted ch => Sys2Proof.Machine.execFrameTransmitted ch s
  | .channelError ch kind => Sys2Proof.Machine.execChannelError ch kind s
  | .channelRecovery ch => Sys2Proof.Machine.execChannelRecovery ch s
  | .loopBurstEnd l => Sys2Proof.Machine.execLoopBurstEnd l s

end Sys2Proof.Machine
end

