-- ==== Sys2Proof/Machine/Own.lean ====
section
/-! DEFINITION. What the part does of itself while no command waits (log entry 1): the steps its own clocks and queues
make due, else the passing of one microsecond of local time. -/

namespace Sys2Proof.Machine

/-- The command that takes a request of this kind from its origin's queue. -/
def requestCommand (o : Origin) : Option Kind → Instr
  | none => .requestUnknownKind o
  | some .setOrigin => .setOrigin o
  | some .setZone => .setZone o
  | some .clearZone => .clearZone o
  | some .setBin => .setBin o
  | some .setLampBin => .setLampBin o
  | some .setChain => .setChain o
  | some .setLine => .setLine o
  | some .setFlagOwner => .setFlagOwner o
  | some .setGlare => .setGlare o
  | some .setFrame => .setFrame o
  | some .setWatch => .setWatch o
  | some .writePattern => .writePattern o
  | some .definePattern => .definePattern o
  | some .deletePattern => .deletePattern o
  | some .writeKeys => .writeKeys o
  | some .defineCue => .defineCue o
  | some .deleteCue => .deleteCue o
  | some .bind => .bind o
  | some .unbind => .unbind o
  | some .timeQuery => .timeQuery o
  | some .setClock => .setClock o
  | some .trimClock => .trimClock o
  | some .readStatus => .readStatus o
  | some .subscribe => .subscribe o
  | some .readCapture => .readCapture o
  | some .openLayer => .openLayer o
  | some .editLayer => .editLayer o
  | some .showLayer => .showLayer o
  | some .hideLayer => .hideLayer o
  | some .closeLayer => .closeLayer o
  | some .gateClose => .gateClose o
  | some .gateOpen => .gateOpen o
  | some .startCue => .startCue o
  | some .stopCue => .stopCue o
  | some .streamFrame => .streamFrame o
  | some .holdZone => .holdZone o
  | some .releaseZone => .releaseZone o
  | some .setFlags => .setFlags o
  | some .trigger => .trigger o
  | some .clearHealth => .clearHealth o
  | some .forget => .forget o
  | some .enterRun => .enterRun o
  | some .enterSetup => .enterSetup o
  | some .sleep => .sleep o
  | some .restart => .restart o

/-- The longest a REFRESH with 64 words lasts, in microseconds of local time (R151). Taken for every burst (log entry
1). -/
def burstLimit : Nat := 240

/-- The longest a compose and a wake take, in microseconds of local time (R88, R192). -/
def composeLimit : Nat := 2000

/-- The first item that `p` holds for, as a command. -/
def firstOf {α : Type} (xs : List α) (p : α → Bool) (c : α → Instr) : Option Instr := (xs.find? p).map c

/-- The awaited return's burst has lasted its longest (R151). -/
def burstOver (now : Time) (x : Loop) : Bool :=
  x.await.any fun a => a.ended.isNone && decide (localSince now a.sent ≥ burstLimit)

/-- The compose in flight has lasted its longest (R88). -/
def State.composeOver (s : State) : Bool :=
  s.co.inFlight.any fun c => decide (localSince s.sc.local' c.began ≥ composeLimit)

/-- The wake has lasted its longest (R192). -/
def State.wakeOver (s : State) : Bool :=
  s.ps.state == .waking && s.ps.wakeSince.any fun t => decide (localSince s.sc.local' t ≥ composeLimit)

/-- A step of the part as a whole, when it is due. -/
def when' (cond : Bool) (c : Instr) : Option Instr := if cond then some c else none

/-- The front request of an origin that can be taken now, as a command (R178). -/
def State.requestDue (s : State) : Option Instr :=
  Origin.all.findSome? fun o => (s.ready o).map fun rq => requestCommand o rq.kind?

/-- The channel that can pick its next frame now, as a command (R183). -/
def State.sendDue (s : State) : Option Instr :=
  firstOf [Chan.ca, Chan.cb] (fun ch => s.maySend ch && (s.nextSender ch).isSome) .frameTransmitStart

/-- The step of the part's own that is due now, if any; the spec leaves the order of steps that fall in one microsecond
open, and this list is the model's (log entry 1). -/
def State.due (s : State) : Option Instr :=
  [when' s.frameDue .frameStart,
   firstOf (List.finRange 8) (fun t => changeDue s.sc.local' s.tu.lines[t]) .lineChangeAccepted,
   firstOf Origin.all s.gateExpired .gateExpiry,
   firstOf (List.finRange 6) (fun l => s.lc.loops[l].await.any (timedOut s.sc.local')) .loopReturnTimeout,
   when' s.composeOver .composeComplete,
   firstOf (List.finRange 6) (fun l => burstOver s.sc.local' s.lc.loops[l]) .loopBurstEnd,
   when' s.settleReady .settle,
   when' s.wakeOver .wakeCompletion,
   s.requestDue,
   s.sendDue].findSome? id

/-- What the part does on an empty queue: nothing while the RESET pin is asserted, else the step that is due, else one
microsecond (log entry 1). -/
def ownStep (s : State) : Host.Outcome State Fault Refusal :=
  if s.ps.resetHeld then .next s
  else
    match s.due with
    | none => .next s.microsecond
    | some c => exec c s

end Sys2Proof.Machine
end

