-- ==== Sys2Proof/Safety.lean ====
section
/-! DEFINITION. The terms claims are stated in: when a request is taken, what a reply leaves, what notices leave, when a frame
start is due, what a cue puts into its layer's fields, and the laws of the part's tables that every step keeps. -/

namespace Sys2Proof.Machine

/-! ## Requests and replies -/

/-- The request `rq` stands at the front of the intake queue of `o`, the part may take it now, and it is of kind `k`
(R178): the RESET pin is not asserted, the part state lets requests be taken, and the transmit queue has a place unless
the request is a STREAM_FRAME. -/
def Fronts (s : State) (o : Origin) (k : Kind) (rq : Intake) : Prop :=
  s.ps.resetHeld = false ∧ s.ps.state.takes = true ∧ (s.port o).intake.head? = some rq ∧
    kindOf? (byteAt rq.data 0) = some k ∧ (k = .streamFrame ∨ (s.port o).tx.length < 8)

/-- The request is also as long as its kind requires, so that it reaches its owning block (R179). -/
def Takes (s : State) (o : Origin) (k : Kind) (rq : Intake) : Prop :=
  Fronts s o k rq ∧ requiredLength k rq.data ≤ rq.data.length

/-- The frame of a reply (R180, R181): kind byte and tag as received, outcome, flags with LOST_BEFORE and NOTICES_LOST as
the origin's flags stood, result fields; bound to the channel of the request. -/
def replyFrame (s : State) (o : Origin) (rq : Intake) (c : Code) (clamped replaced : Bool) (result : List Byte) :
    TxFrame :=
  ⟨[oneByte (byteAt rq.data 0), oneByte (byteAt rq.data 1), codeByte c,
    flagsByte clamped replaced (s.port o).lost (s.port o).noticesLost] ++ result, some rq.chan, none⟩

/-- The state with the front request of `o` gone from its intake queue and its reply entered last in the transmit queue,
both loss flags of `o` cleared; nothing else differs (R178, R180, R181). -/
def served (s : State) (o : Origin) (rq : Intake) (c : Code) (clamped replaced : Bool) (result : List Byte) : State :=
  s.setPort o
    { s.port o with
      intake := (s.port o).intake.tail
      tx := (s.port o).tx ++ [replyFrame s o rq c clamped replaced result]
      lost := false
      noticesLost := false }

/-- A refusal: the outcome alone, and nothing else changes. -/
def turnedAway (s : State) (o : Origin) (rq : Intake) (c : Code) : State := served s o rq c false false []

/-- The origins that may configure (R188). -/
def Configures (o : Origin) : Prop := o = .body ∨ o = .service

/-- The configuration requests (R188). -/
def configKinds : List Kind :=
  [.setOrigin, .setZone, .clearZone, .setBin, .setLampBin, .setChain, .setLine, .setFlagOwner, .setGlare, .setFrame,
   .setWatch]

/-- The requests that are refused in SETUP whatever they carry (R188). -/
def runKinds : List Kind :=
  [.openLayer, .editLayer, .showLayer, .hideLayer, .closeLayer, .gateClose, .gateOpen, .startCue, .stopCue, .holdZone,
   .releaseZone, .trigger]

/-- The part is in RUN or SETTLING, where layer, cue-run, hold and event requests are taken (R188). -/
def Running (s : State) : Prop := s.ps.state = .run ∨ s.ps.state = .settling

/-- A configuration request reaches its owning block's own checks: a configuring origin, in SETUP (R188). -/
def TakesConfig (s : State) (o : Origin) (k : Kind) (rq : Intake) : Prop :=
  Takes s o k rq ∧ Configures o ∧ s.ps.state = .setup

/-! ## Notices -/

/-- From port `p` to port `q` only notices have been queued: frames bound to no channel, after what was there, or the
notices-lost flag (R182). -/
def OnlyNotices (p q : Port) : Prop :=
  q.intake = p.intake ∧ q.home = p.home ∧ q.lost = p.lost ∧ q.mask = p.mask ∧ (p.noticesLost = true → q.noticesLost = true) ∧
    ∃ ns : List TxFrame, q.tx = p.tx ++ ns ∧ ∀ f ∈ ns, f.bound = none ∧ f.sendingOn = none

/-- At every origin's port only notices have been queued. -/
def NoticesOnly (s t : State) : Prop := ∀ o, OnlyNotices (s.port o) (t.port o)

/-- The notices CUE_ENDED, with one reason, of the cues that `p` holds for, queued in ascending cue number, each to its
owner (R113, R115). -/
def endsTold (cues : Vector (Option Cue) 24) (p : CueNo → Cue → Bool) (why : EndReason) (s : State) : State :=
  (List.finRange 24).foldl (fun u c =>
    match cues[c] with
    | none => u
    | some cue => if p c cue then u.notify cue.owner (.cueEnded c cue.layer why) else u) s

/-! ## Frame starts and cues -/

/-- A frame start with frame time `tf` is due: the scene clock has reached it, the part is in SETUP or RUN, and no compose is
in flight (R87, R88; for the last, log entry 11). -/
def FrameDue (s : State) (tf : Time) : Prop :=
  s.sc.nextFrame = some tf ∧ 0 ≤ (s.sc.scene - tf).toInt ∧ (s.ps.state = .setup ∨ s.ps.state = .run) ∧
    s.co.inFlight = none

/-- `e` is `ed` with each track's value put into its target, COLOR into a SOLID source alone, and every other field as it was
(R19, R108). -/
def FieldsPut (trs : List Track) (vals : List Triple) (ed e : Editable) : Prop :=
  e = { ed with source := e.source, level := e.level, offset := e.offset, opacity := e.opacity } ∧
    (∀ (k : Nat) (tr : Track) (v : Triple), trs[k]? = some tr → vals[k]? = some v →
      (tr.target = .level → e.level = v.x.toNat) ∧ (tr.target = .offset → e.offset = v.x) ∧
      (tr.target = .opacity → e.opacity = v.x.toNat) ∧
      (tr.target = .colour → ∀ c, ed.source = .solid c → e.source = .solid ⟨v.x.toNat, v.y.toNat, v.z.toNat⟩)) ∧
    ((∀ tr ∈ trs, tr.target ≠ .level) → e.level = ed.level) ∧
    ((∀ tr ∈ trs, tr.target ≠ .offset) → e.offset = ed.offset) ∧
    ((∀ tr ∈ trs, tr.target ≠ .opacity) → e.opacity = ed.opacity) ∧
    ((∀ tr ∈ trs, tr.target ≠ .colour) ∨ (∀ c, ed.source ≠ .solid c) → e.source = ed.source)

/-- The cue numbered `k` is the one RUNNING or RELEASING on layer `i` (R103: there is one at most; in a state with more, the
lowest numbered). -/
def RunsOn (cues : Vector (Option Cue) 24) (i : LayerNo) (k : CueNo) (cue : Cue) : Prop :=
  cues[k] = some cue ∧ cue.run.active = true ∧ cue.layer = i ∧
    ∀ (j : CueNo) (other : Cue), j < k → cues[j] = some other → other.run.active = true → other.layer ≠ i

/-! ## The laws of the tables -/

/-- A span as R5 has it: count 1 to 384, every index a lamp. -/
def SpanSound (sp : Span) : Prop := 1 ≤ sp.count ∧ sp.count ≤ 384 ∧ spanInRange sp = true

/-- The span covers the lamp index (R8). -/
def covers (sp : Span) (lam : Nat) : Prop := (spanPos sp lam).isSome = true

/-- The spans cover no lamp twice. -/
def SpansApart (sps : List Span) : Prop := sps.Pairwise fun a b => ∀ lam, ¬(covers a lam ∧ covers b lam)

/-- The law of the zone table (R5, R12): sound spans, apart from each other, and no lamp in two defined zones. -/
def ZonesSound (s : State) : Prop :=
  (∀ (z : ZoneNo) (x : Zone), s.co.zones[z] = some x → x.spans ≠ [] ∧ (∀ sp ∈ x.spans, SpanSound sp) ∧ SpansApart x.spans) ∧
    ∀ (y z : ZoneNo) (lam : LampNo), inZone s.co.zones y lam = true → inZone s.co.zones z lam = true → y = z

/-- Pattern memory and the keyframe pool are in canonical form, within their 4096 and 1024 entries (R39, R91). -/
def BuffersSound (s : State) : Prop :=
  Store.wf PatEntry.blank s.ss.pattern = true ∧ (∀ e ∈ s.ss.pattern, e.1 < 4096) ∧
    Store.wf Keyframe.blank s.ce.pool = true ∧ ∀ e ∈ s.ce.pool, e.1 < 1024

/-- The error counts of a channel are in range (R175). -/
def ChannelSound (c : Channel) : Prop := c.txErrors ≤ 256 ∧ c.rxErrors ≤ 255

/-- Queues hold at most 8 and counts are in range (R175, R177, R182). -/
def PortsSound (s : State) : Prop :=
  (∀ o, (s.port o).intake.length ≤ 8 ∧ (s.port o).tx.length ≤ 8) ∧ ChannelSound s.mp.ca ∧ ChannelSound s.mp.cb

/-- A FREE layer holds the free contents, a HELD or SHOWN one has an owner, and no presence passes 65535 (R16, R17). A
layer FREE while a compose is in flight was left out of it or became FREE since (R67). -/
def LayersSound (s : State) : Prop :=
  ∀ i : LayerNo,
    (s.lt.layers[i].state = .free → s.lt.layers[i] = Layer.freed) ∧
    (s.lt.layers[i].state ≠ .free → s.lt.layers[i].owner.isSome = true) ∧
    s.lt.layers[i].presence ≤ 65535 ∧
    ∀ c, s.co.inFlight = some c → s.lt.layers[i].state = .free → c.gone.getLsbD i.val = true ∨ c.layers[i].presence = 0

/-- The layer's live source or valid staged copy is STREAM on the queue (R25). -/
def namesQueue (l : Layer) (q : QueueNo) : Prop :=
  streamQueue? l.ed.source = some q ∨ ∃ c, l.copy = some c ∧ streamQueue? c.ed.source = some q

/-- A queue is bound to the one layer that names it, and no layer holds both queues (R25). A queue holds at most 4
pending frames, each shown later than those before it (R47, R50). -/
def StreamsSound (s : State) : Prop :=
  (∀ (q : QueueNo) (i : LayerNo), s.ss.queues[q].bound = some i ↔ namesQueue s.lt.layers[i] q) ∧
    (∀ (p q : QueueNo) (i : LayerNo), s.ss.queues[p].bound = some i → s.ss.queues[q].bound = some i → p = q) ∧
    ∀ q : QueueNo, s.ss.queues[q].pending.length ≤ 4 ∧
      s.ss.queues[q].pending.Pairwise fun a b => timeLater b.show' a.show' = true

/-- The start queue holds at most 16 entries, at most one for a cue, and exactly the SCHEDULED cues (R94, R98). At most
one cue is RUNNING or RELEASING on a layer, and its owner is the layer's (R103). -/
def CuesSound (s : State) : Prop :=
  s.ce.queue.length ≤ 16 ∧ (s.ce.queue.map (·.cue)).Nodup ∧
    (∀ c : CueNo, (∃ e ∈ s.ce.queue, e.cue = c) ↔ ∃ cue, s.ce.cues[c] = some cue ∧ cue.run = .scheduled) ∧
    (∀ (c : CueNo) (cue : Cue), s.ce.cues[c] = some cue → cue.run.active = true →
      s.lt.layers[cue.layer].state ≠ .free ∧ s.lt.layers[cue.layer].owner = some cue.owner) ∧
    ∀ (c d : CueNo) (x y : Cue), s.ce.cues[c] = some x → s.ce.cues[d] = some y → x.run.active = true →
      y.run.active = true → x.layer = y.layer → c = d

/-- A valid bind entry names a defined cue of its owner, its match holds no bit outside its mask, and no owner has two
valid entries of one match and mask (R129, R130, R131). -/
def BindsSound (s : State) : Prop :=
  (∀ (i : BindNo) (e : BindEntry), s.tu.binds[i] = some e →
      e.code &&& e.mask = e.code ∧ ∃ cue, s.ce.cues[e.cue] = some cue ∧ cue.owner = e.owner) ∧
    ∀ (i j : BindNo) (e f : BindEntry), s.tu.binds[i] = some e → s.tu.binds[j] = some f → e.owner = f.owner →
      e.code = f.code → e.mask = f.mask → i = j

/-- A LEVEL line mirrors its debounced level into a flag it writes, only a line in another mode may wake the part, and a
line writes at most one flag (R117, R120, R127). -/
def MirrorsSound (s : State) : Prop :=
  (∀ t : LineNo, s.tu.lines[t].mode = .level → s.tu.lines[t].wake = false ∧
      ∃ f : FlagNo, s.tu.lines[t].mirror = some f ∧ s.tu.writers[f] = .line t ∧
        flagValue s.tu.flags f = s.tu.lines[t].level) ∧
    ∀ (t : LineNo) (f g : FlagNo), s.tu.writers[f] = .line t → s.tu.writers[g] = .line t → f = g

/-- The frame timer is stopped exactly in ASLEEP and WAKING, no compose is in flight there, a wake is timed exactly in
WAKING, and the wake list holds at most 8 pairs, and none outside WAKING (R90, R124, R190, R192). -/
def TimerSound (s : State) : Prop :=
  (s.sc.nextFrame = none ↔ s.ps.state = .asleep ∨ s.ps.state = .waking) ∧
    (s.ps.state = .asleep ∨ s.ps.state = .waking → s.co.inFlight = none) ∧
    (s.ps.wakeSince.isSome = true ↔ s.ps.state = .waking) ∧
    s.tu.wakeList.length ≤ 8 ∧ (s.ps.state ≠ .waking → s.tu.wakeList = [])

/-- A loop record within R149 to R161: its counters in range, a node count while RUNNING, a COUNT awaited only while
DISCOVERING and a REFRESH only while RUNNING. -/
def LoopSound (x : Loop) : Prop :=
  x.nodes ≤ 64 ∧ x.errors ≤ 2 ∧ x.quietCount ≤ 63 ∧ (x.holdLen = 8 ∨ x.holdLen = 16 ∨ x.holdLen = 32 ∨ x.holdLen = 64) ∧
    x.holdCount ≤ 64 ∧ (x.state = .failed → 1 ≤ x.holdCount) ∧
    (x.state = .running → 1 ≤ x.nodes) ∧ (x.query < x.nodes ∨ x.nodes = 0 ∧ x.query = 0) ∧
    (x.showPending = true → x.state = .running) ∧
    (x.sleepHold = true → x.state = .quiet) ∧
    ∀ a, x.await = some a →
      match a.kind with
      | .count => x.state = .discovering
      | .refresh q => x.state = .running ∧ q < x.nodes

/-- Every loop record is sound, and no loop is held for sleep outside ASLEEP and WAKING, where no compose is in flight
(R149, R161). -/
def LoopsSound (s : State) : Prop :=
  (∀ l : LoopNo, LoopSound s.lc.loops[l]) ∧
    (∀ l : LoopNo, s.lc.loops[l].sleepHold = true → s.ps.state = .asleep ∨ s.ps.state = .waking) ∧
    (s.ps.state = .asleep ∨ s.ps.state = .waking → s.co.inFlight = none)

/-- The run of a track is within its owner's keyframe range, starts at 0, never falls in time, and ends within the duration
(R95, R109). -/
def TrackSound (r : OriginRec) (pool : Store Keyframe) (duration : Nat) (tr : Track) : Prop :=
  r.keyFirst ≤ tr.first ∧ tr.first + tr.count ≤ r.keyLast + 1 ∧ (readKey pool tr.first).time = 0 ∧
    (∀ j, j + 1 < tr.count → (readKey pool (tr.first + j)).time ≤ (readKey pool (tr.first + j + 1)).time) ∧
    (readKey pool (tr.first + tr.count - 1)).time ≤ duration

/-- The law of R18: no origin holds more layers than its limit, the FREE layers never fall short of the sum of the
shortfalls, the reserves sum to 16 at most, every layer is FREE in SETUP, and just the FREE layers have no owner. -/
def ReservesSound (s : State) : Prop :=
  (∀ o, s.heldCount o ≤ (s.originRec o).limit) ∧
    (Origin.all.map fun o => (s.originRec o).reserve - s.heldCount o).sum ≤ s.freeCountOfLayers ∧
    (Origin.all.map fun o => (s.originRec o).reserve).sum ≤ 16 ∧
    (s.ps.state = .setup → ∀ i : LayerNo, s.lt.layers[i].state = .free) ∧
    ∀ i : LayerNo, s.lt.layers[i].state = .free ↔ s.lt.layers[i].owner = none

/-- The three codes of a drive word are 12-bit (R72). -/
def codesInRange (d : Rgb) : Prop := d.r ≤ 4095 ∧ d.g ≤ 4095 ∧ d.b ≤ 4095

/-- A step keeps a law of the state: from every state that has it, the state that a step answers has it too. -/
def KeptByStep (law : State → Prop) : Prop := ∀ s t : State, law s → step s = .next t → law t

end Sys2Proof.Machine
end

