-- ==== Sys2Proof/Certificates/Slice0/Obligations.lean ====
section
/-! DEFINITION. The statements for the provers. Where one rests on a choice of the model's, its docstring says so and names
the log entry. -/

open Sys2Proof Sys2Proof.Machine

/-! ## The machine as a whole -/

/-- A step with a command at the front of the queue runs that command on the state with the queue's rest. -/
def Obligations.StepTakesTheFrontCommand : Prop :=
  ∀ (c : Instr) (rest : List Instr) (s : State), s.pending = c :: rest → step s = exec c { s with pending := rest }

/-- On an empty queue (the model's choice, log entry 1): nothing while the RESET pin is asserted; else the step of the
part's own that is due; else one microsecond, in which local time advances by 1 and the scene clock by 1, or by 2 or 0
where the corrector acts (R78, R80, R81). -/
def Obligations.IdleTakesTheDueStepOrOneMicrosecond : Prop :=
  ∀ s : State, s.pending = [] →
    (s.ps.resetHeld = true → step s = .next s) ∧
    (s.ps.resetHeld = false → ∀ c, s.due = some c → step s = exec c s) ∧
    (s.ps.resetHeld = false → s.due = none →
      ∃ t, step s = .next t ∧ t = { s with sc := t.sc } ∧ t.sc.local' = s.sc.local' + 1 ∧
        t.sc = { s.sc with scene := t.sc.scene, local' := t.sc.local', acc := t.sc.acc } ∧
        if s.ps.state = .asleep ∨ s.ps.state = .waking then t.sc.scene = s.sc.scene + 1 ∧ t.sc.acc = s.sc.acc
        else t.sc.acc = s.sc.acc + s.sc.trim ∧
          (s.sc.acc.toNat + s.sc.trim.toNat < 2 ^ 24 → t.sc.scene = s.sc.scene + 1) ∧
          (2 ^ 24 ≤ s.sc.acc.toNat + s.sc.trim.toNat →
            t.sc.scene = s.sc.scene + if s.sc.sense = .add then 2 else 0))

/-- Every command is carried out or leaves the state as it is, none ends in a fault or a refusal, and no command changes the
queue of commands. -/
def Obligations.EveryCommandAnswersANextState : Prop :=
  ∀ (c : Instr) (s : State), ∃ t, exec c s = .next t ∧ t.pending = s.pending

/-- While the RESET pin is asserted the part acts on nothing (R193): only the pin's release, power-on and the level on a
line's pin change anything. That the last moves the raw level and nothing else is the model's choice (log entry 19). -/
def Obligations.AssertedResetActsOnNothing : Prop :=
  ∀ s : State, s.ps.resetHeld = true →
    (∀ c : Instr, (∀ strap raw, c ≠ .powerOn strap raw) → (∀ strap, c ≠ .resetPinRelease strap) →
      (∀ t level, c ≠ .lineRawChange t level) → exec c s = .next s) ∧
    ∀ t level, exec (.lineRawChange t level) s = .next (s.setLineRec t { s.tu.lines[t] with raw := level })

/-- A kind byte names the one kind of the table that has it, and every request with a frame is read back from it: its kind,
its tag, its required length, its fields (R179, 11.7). -/
def Obligations.RequestFramesAreReadBack : Prop :=
  (∀ (n : Nat) (k : Kind), kindOf? n = some k ↔ kindCode k = n) ∧
  ∀ (tag : Byte) (r : Request), requestFits r = true →
    kindOf? (byteAt (requestBytes tag r) 0) = some (requestKind r) ∧
    byteAt (requestBytes tag r) 1 = tag.toNat ∧
    requiredLength (requestKind r) (requestBytes tag r) = (requestBytes tag r).length ∧
    decodeRequest (requestKind r) (requestBytes tag r) = r

/-! ## Laws that every step keeps -/

/-- The laws of the tables hold of the state after power-on (R5, R16, R39, R91, R94, R117, R129, R149, R187, R188). -/
def Obligations.ResetMeetsTheLaws : Prop :=
  ZonesSound State.reset ∧ BuffersSound State.reset ∧ PortsSound State.reset ∧ LayersSound State.reset ∧
    StreamsSound State.reset ∧ CuesSound State.reset ∧ BindsSound State.reset ∧ MirrorsSound State.reset ∧
    TimerSound State.reset ∧ LoopsSound State.reset ∧ ReservesSound State.reset

/-- No step puts a lamp into two zones, or a span outside the lamp space (R5, R12). -/
def Obligations.StepsKeepLampsInOneZone : Prop := KeptByStep ZonesSound

/-- Every step keeps pattern memory and the keyframe pool in canonical form and within their sizes (R39, R91). -/
def Obligations.StepsKeepTheBuffersCanonical : Prop := KeptByStep BuffersSound

/-- Every step keeps intake and transmit queues at 8 at most and the error counts in range (R175, R177, R182). -/
def Obligations.StepsKeepTheQueuesBounded : Prop := KeptByStep PortsSound

/-- Every step keeps FREE layers at their free contents, so that a layer of presence above 0 is HELD or SHOWN, and
presences at 65535 at most (R16, R17, R29). -/
def Obligations.StepsKeepFreeLayersBlank : Prop := KeptByStep LayersSound

/-- Every step keeps the law of R18: held counts within their limits, and FREE layers enough for every reserve. -/
def Obligations.StepsKeepTheReserves : Prop := KeptByStep ReservesSound

/-- Where FREE layers hold the free contents, every step keeps each stream queue bound to the one layer that names it, and its
pending frames 4 at most in rising show time (R25, R47, R50). -/
def Obligations.StepsKeepStreamQueuesBound : Prop :=
  ∀ s t : State, LayersSound s → StreamsSound s → step s = .next t → StreamsSound t

/-- Every step keeps the start queue at 16 entries, one for each SCHEDULED cue, and at most one cue running on a layer,
of the layer's owner (R94, R98, R103). -/
def Obligations.StepsKeepTheStartQueueSound : Prop := KeptByStep CuesSound

/-- Every step keeps each owner's bind patterns distinct and every valid entry on a cue of its owner (R130, R131). -/
def Obligations.StepsKeepBindEntriesSound : Prop := KeptByStep BindsSound

/-- Every step keeps a LEVEL line's mirror flag at the line's level, written by that line alone (R117, R120, R125 to
R127). -/
def Obligations.StepsKeepMirrorFlagsAtTheirLines : Prop := KeptByStep MirrorsSound

/-- Every step keeps the frame timer stopped exactly in ASLEEP and WAKING, and the wake list empty outside WAKING (R90,
R124, R192). -/
def Obligations.StepsKeepTheTimerWithThePartState : Prop := KeptByStep TimerSound

/-- Every step keeps the loop records sound (R149 to R161). -/
def Obligations.StepsKeepLoopRecordsSound : Prop := KeptByStep LoopsSound

/-! ## Arithmetic of a compose -/

/-- R76: a loop is limiting when its estimate is above its effective budget; then every code of its lamps is scaled by
one factor below 1, and otherwise none is; every final code lies in 0 to 4095, and the estimate of the final codes does
not exceed the effective budget. -/
def Obligations.FinalCodesKeepTheBudget : Prop :=
  ∀ (c : Compose) (l : LoopNo),
    let lamps := c.lamps
    let drives := finalDrives lamps (c.loopOuts lamps)
    let est := loopEstimate c (fun lam => lamps[lam].drive) l
    let eff := c.chains[l].budget * 1000000 * loopDerate c l / 65536
    ((c.loopOuts lamps)[l].limiting = true ↔ est > eff) ∧
    (est ≤ eff → ∀ lam : LampNo, lampLoop lam = l → drives[lam] = lamps[lam].drive) ∧
    (est > eff → eff * 65536 / est ≤ 65535 ∧ ∀ lam : LampNo, lampLoop lam = l →
      drives[lam] = Rgb.each (fun x => x * (eff * 65536 / est) / 65536) lamps[lam].drive) ∧
    (∀ lam : LampNo, codesInRange drives[lam]) ∧
    loopEstimate c (fun lam => drives[lam]) l ≤ eff

/-- R75: a loop with no lamp queried since its discovery has derate 65536; otherwise the hottest such lamp gives it: full
up to the knee, a quarter from 40 degrees above it, and between them the line of the rule. -/
def Obligations.DerateFollowsTheHottestLamp : Prop :=
  ∀ (c : Compose) (l : LoopNo),
    ((∀ lam : LampNo, lampLoop lam = l → c.health[lam].queried = false) → loopDerate c l = 65536) ∧
    ∀ lam : LampNo, lampLoop lam = l → c.health[lam].queried = true →
      (∀ other : LampNo, lampLoop other = l → c.health[other].queried = true → c.health[other].temp ≤ c.health[lam].temp) →
      let t := c.health[lam].temp
      let k : Int := c.chains[l].knee
      (t ≤ k → loopDerate c l = 65536) ∧
      (k < t → t < k + 40 → (loopDerate c l : Int) = 65536 - (t - k) * 49152 / 40 ∧ 16384 < loopDerate c l) ∧
      (k + 40 ≤ t → loopDerate c l = 16384)

/-- R69: while the glare condition holds, a lamp of a glare-class zone leaves the output stages as its glare-staged colour
calibrated, converted and masked: a colour whose greatest channel is above the cap leaves the stage with that channel at the
cap exactly and every channel in its ratio, any other colour unchanged, so that none is above the cap. Every other lamp
passes the stage unchanged, and a void lamp's fallback colour passes through it as a composed colour does. A compose gives a lamp
of one zone the output stages of its whole stack at the lamp's position there, and the voids of that stack; a lamp of no defined
zone, and every lamp of a compose that read SETUP, gets code 0 and is voided by nothing. -/
def Obligations.GlareStageCapsTheGreatestChannel : Prop :=
  (∀ (cap : Nat) (col : Rgb),
    (glareStage cap col).peak ≤ cap ∧
    (col.peak ≤ cap → glareStage cap col = col) ∧
    (cap < col.peak → (glareStage cap col).peak = cap ∧
      glareStage cap col = ⟨col.r * cap / col.peak, col.g * cap / col.peak, col.b * cap / col.peak⟩)) ∧
  (∀ (c : Compose) (lam : LampNo),
    (c.inSetup = true ∨ (∀ (z : ZoneNo) (x : Zone), c.zones[z] = some x → zoneHas x lam = false) →
      c.lamps[lam] = ⟨⟨0, 0, 0⟩, 0⟩) ∧
    ∀ (z : ZoneNo) (x : Zone) (q : Nat), c.inSetup = false → c.zones[z] = some x → zonePos x lam = some q →
      (∀ (y : ZoneNo) (other : Zone), y ≠ z → c.zones[y] = some other → zoneHas other lam = false) →
      let acc := stackAt c c.stack z lam q
      c.lamps[lam] = ⟨outputStages c x lam acc, acc.voiders⟩) ∧
  ∀ (c : Compose) (x : Zone) (lam : LampNo) (acc : Acc),
    let col := if acc.isVoid = true then x.fallback else acc.colour
    let after := fun k : Rgb =>
      healthMask c.health[lam].shortMask (Rgb.each driveCode (Rgb.zip calibrate (binOf c lam).gains k))
    (c.glareOn = true → x.glare = true → outputStages c x lam acc = after (glareStage c.glareCap col)) ∧
    (c.glareOn = false ∨ x.glare = false → outputStages c x lam acc = after col)

/-- R44: an index inside a slot reads the slot's entry; outside it, WRAP reads modulo the length, EDGE the nearest end, CLIP
(0, 0, 0) and coverage 0. R61: a PATTERN is read at 16 times the position less the offset, modulo the length of a RING for an
EACH layer, its two neighbouring entries mixed in sixteenths. R62: a STREAM reads the entry its place on the line falls in,
each code decoded to linear light. R60, R63, R64, R65: a contribution that is not void has its source's colour and coverage,
is levelled, and is blended at the alpha of opacity, coverage and presence; the four blends of 16-bit channels at alphas 0 to
65535 stay 16-bit; at full alpha each is what the rule says, and TINT never brightens. -/
def Obligations.BlendsStayInRange : Prop :=
  (∀ (b : Blend) (a cs acc : Nat), a ≤ 65535 → cs ≤ 65535 → acc ≤ 65535 →
    blendChannel b a cs acc ≤ 65535 ∧
    blendChannel .replace 65535 cs acc = cs ∧
    blendChannel .add 65535 cs acc = min 65535 (acc + cs) ∧
    blendChannel .max 65535 cs acc = max acc cs ∧
    blendChannel .tint 65535 cs acc = acc * cs / 65535 ∧
    blendChannel .tint a cs acc ≤ acc) ∧
  (∀ (a cs acc : Nat),
    blendChannel .replace a cs acc = (cs * a + acc * (65535 - a) + 32767) / 65535 ∧
    blendChannel .add a cs acc = min 65535 (acc + cs * a / 65535) ∧
    blendChannel .max a cs acc = max acc (cs * a / 65535) ∧
    blendChannel .tint a cs acc = acc * ((cs * a + 65535 * (65535 - a) + 32767) / 65535) / 65535) ∧
  (∀ (mem : Store PatEntry) (sl : Slot) (i : Int), 1 ≤ sl.length →
    (∀ j : Nat, j < sl.length → i = j → slotEntry mem sl i = readPattern mem (sl.first + j)) ∧
    (sl.rep = .wrap → ∀ (j : Nat) (k : Int), j < sl.length → i = j + k * sl.length →
      slotEntry mem sl i = readPattern mem (sl.first + j)) ∧
    (sl.rep = .edge → (i < 0 → slotEntry mem sl i = readPattern mem sl.first) ∧
      (sl.length ≤ i → slotEntry mem sl i = readPattern mem (sl.first + sl.length - 1))) ∧
    (sl.rep = .clip → i < 0 ∨ sl.length ≤ i → slotEntry mem sl i = ⟨⟨0, 0, 0⟩, 0⟩)) ∧
  (∀ (mem : Store PatEntry) (sl : Slot) (i : Int) (f : Nat), f < 16 →
    let a := slotEntry mem sl i
    let b := slotEntry mem sl (i + 1)
    let mix := fun x y : Nat => (x * (16 - f) + y * f) / 16
    samplePattern mem sl (16 * i + f) =
      ⟨⟨mix a.colour.r b.colour.r, mix a.colour.g b.colour.g, mix a.colour.b b.colour.b⟩, mix a.coverage b.coverage⟩) ∧
  (∀ (zones : Vector (Option Zone) 32) (ed : Editable) (z : ZoneNo) (p : Nat),
    let ring := ed.span = .each ∧ ∃ x, zones[z] = some x ∧ x.kind = .ring
    let len : Int := 16 * lengthOf zones z
    let at' := patternCoord zones ed z p
    (¬ring → at' = 16 * p - ed.offset) ∧
    (ring → 0 < len → 0 ≤ at' ∧ at' < len ∧ ∃ k : Int, at' = 16 * p - ed.offset + k * len)) ∧
  (∀ (f : StreamFrame) (p n : Nat), p < n → f.entries ≠ [] →
    ∃ e, f.entries[p * f.entries.length / n]? = some e ∧
      sampleStream f p n = ⟨decodeCode e.r, decodeCode e.g, decodeCode e.b⟩) ∧
  (∀ v, decodeCode v = (v * v * 65535 + 32512) / 65025 ∧ (v ≤ 255 → decodeCode v ≤ 65535)) ∧
  (decodeCode 0 = 0 ∧ decodeCode 255 = 65535) ∧
  (∀ level, level ≤ 65535 → levelFactor level = (level * level + 32767) / 65535 ∧ levelFactor level ≤ 65535) ∧
  (levelFactor 0 = 0 ∧ levelFactor 32768 = 16384 ∧ levelFactor 65535 = 65535) ∧
  (∀ (opacity coverage presence : Nat), opacity ≤ 255 → coverage ≤ 255 → presence ≤ 65535 →
    let a := alphaOf opacity coverage presence
    a = opacity * coverage * presence / 65025 ∧ a ≤ 65535 ∧
    (a = 65535 ↔ opacity = 255 ∧ coverage = 255 ∧ presence = 65535)) ∧
  ∀ (c : Compose) (z : ZoneNo) (lam : LampNo) (q : Nat) (acc : Acc) (i : LayerNo),
    let y := c.layers[i]
    let src := sourceColour c y z q
    let line := linePlace c.zones y.ed z q
    let a := alphaOf y.ed.opacity src.coverage y.presence
    let lit := fun x : Nat => x * levelFactor y.ed.level / 65535
    let b := y.ed.blend
    (∀ col, y.ed.source = .solid col → src = ⟨col, 255⟩) ∧
    (∀ n sl, y.ed.source = .pattern n → c.slots[n] = some sl →
      src = samplePattern c.pattern sl (patternCoord c.zones y.ed z line.1)) ∧
    (∀ k age f, y.ed.source = .stream k age → y.frame = some f → src = ⟨sampleStream f line.1 line.2, 255⟩) ∧
    (skipped c z lam y = true ∨ y.isVoid = true ∨ a = 0 → (layerAt c z lam q acc i).colour = acc.colour) ∧
    (skipped c z lam y = false → y.isVoid = false → a ≠ 0 → (layerAt c z lam q acc i).colour =
      ⟨blendChannel b a (lit src.colour.r) acc.colour.r, blendChannel b a (lit src.colour.g) acc.colour.g,
        blendChannel b a (lit src.colour.b) acc.colour.b⟩)

/-- R24, R59, R66, R145: the stack order takes every layer of presence above 0 once, by ascending tier and, within a tier, by
ascending number. A layer is skipped at a lamp of a zone exactly when its zone set lacks the zone, the lamp's index lies in one of
its holes, or the zone has a holder that is not the layer's owner. After a stack, a lamp is void exactly when some layer of it voided the lamp and no full REPLACE that is not void came
after; the voiding layers are those of the stack that are not skipped there, void, and of alpha above 0. -/
def Obligations.VoidMarkFollowsTheStack : Prop :=
  (∀ c : Compose,
    (∀ i : LayerNo, i ∈ c.stack ↔ 0 < c.layers[i].presence) ∧
    c.stack.Pairwise fun i j => c.layers[i].tier < c.layers[j].tier ∨ c.layers[i].tier = c.layers[j].tier ∧ i < j) ∧
  (∀ (c : Compose) (z : ZoneNo) (lam : LampNo) (y : ComposeLayer), skipped c z lam y = true ↔
    y.ed.zones.getLsbD z.val = false ∨
    (∃ h, (y.ed.hole1 = some h ∨ y.ed.hole2 = some h) ∧ h.first ≤ lam.val ∧ lam.val < h.first + h.count) ∨
    ∃ o, c.holders[z] = some o ∧ y.owner ≠ some o) ∧
  ∀ (c : Compose) (z : ZoneNo) (lam : LampNo) (q : Nat) (order : List LayerNo),
    let voids := fun i : LayerNo => !skipped c z lam c.layers[i] && c.layers[i].isVoid &&
      alphaOf c.layers[i].ed.opacity 255 c.layers[i].presence != 0
    let repairs := fun i : LayerNo => !skipped c z lam c.layers[i] && !c.layers[i].isVoid &&
      c.layers[i].ed.blend == .replace &&
      alphaOf c.layers[i].ed.opacity (sourceColour c c.layers[i] z q).coverage c.layers[i].presence == 65535
    ((stackAt c order z lam q).isVoid = true ↔
      ∃ before i after, order = before ++ i :: after ∧ voids i = true ∧ ∀ j ∈ after, repairs j = false) ∧
    ∀ i, (stackAt c order z lam q).voiders.getLsbD i.val = true ↔ i ∈ order ∧ voids i = true

/-- R8, R10, R11: the positions of a sound zone number its lamps one to one from 0 to length - 1. On the line of an EACH layer
a lamp stands at its zone position, on that of a JOINED layer behind all lower zones of the set; either way before the end of
the line, which JOINED lamps of two zones never share a place on. -/
def Obligations.PositionsLieOnTheirLines : Prop :=
  (∀ x : Zone, (∀ sp ∈ x.spans, SpanSound sp) → SpansApart x.spans →
    (∀ lam p, spansPos x.spans lam = some p → p < zoneLength x ∧ lam < 384) ∧
    (∀ p, p < zoneLength x → ∃ lam, spansPos x.spans lam = some p) ∧
    ∀ a b p, spansPos x.spans a = some p → spansPos x.spans b = some p → a = b) ∧
  ∀ (zones : Vector (Option Zone) 32) (ed : Editable) (z : ZoneNo) (q : Nat), ed.zones.getLsbD z.val = true →
    q < lengthOf zones z →
    (linePlace zones ed z q).1 < (linePlace zones ed z q).2 ∧
    (ed.span = .each → linePlace zones ed z q = (q, lengthOf zones z)) ∧
    ∀ (y : ZoneNo) (p : Nat), ed.span = .joined → ed.zones.getLsbD y.val = true → p < lengthOf zones y → y < z →
      (linePlace zones ed y p).1 < (linePlace zones ed z q).1

/-- R29: a presence step moves toward its target and never past it, and within the steps of the fade time reaches it. -/
def Obligations.PresenceReachesItsTarget : Prop :=
  ∀ (p fadeIn fadeOut presence : Nat), presence ≤ 65535 →
    (presence ≤ stepPresence p true fadeIn fadeOut presence ∧ stepPresence p true fadeIn fadeOut presence ≤ 65535 ∧
      stepPresence p false fadeIn fadeOut presence ≤ presence) ∧
    (stepPresence p true 0 fadeOut presence = 65535 ∧ stepPresence p false fadeIn 0 presence = 0) ∧
    (0 < fadeIn → stepPresence p true fadeIn fadeOut presence = min 65535 (presence + max 1 (65535 * p / fadeIn))) ∧
    (0 < fadeOut → stepPresence p false fadeIn fadeOut presence = presence - max 1 (65535 * p / fadeOut)) ∧
    (∀ n, 65535 ≤ n * max 1 (65535 * p / fadeIn) → Nat.iterate (stepPresence p true fadeIn fadeOut) n presence = 65535) ∧
    ∀ n, 65535 ≤ n * max 1 (65535 * p / fadeOut) → Nat.iterate (stepPresence p false fadeIn fadeOut) n presence = 0

/-- R107: a run sampled at t gives the value of its last keyframe at or before t when that is the run's last or its ease is
STEP, and otherwise the segment toward the next, truncated toward zero; each channel lies between the two keyframes' values,
and SMOOTH keeps the weight in range. R108: the value becomes the target's frame value, OPACITY its first channel over 257.
R109: a track is broken unless its run is sound, and gives the layer's own value then. R106: an endless cue is rebased to
within one pass (an elapsed time below 0 taken as 0, the model's choice, log entry 23). R19, R108, R111: a RUNNING cue's latest values are put into the layer's fields, a RELEASING cue's frozen ones
moved toward the own ones by the time since the stop, a weight below 0 for a stop after the frame time; other cues put in
nothing. R112: a HOLD end puts in the values at t = duration of the tracks that are not broken. (The own colour of a layer that
is not SOLID is a free value, log entry 5; so, within its target's range, is a channel of a release that R111's formula takes out
of that range, log entry 22.) -/
def Obligations.SegmentsStayBetweenKeyframes : Prop :=
  (∀ (a b : Int) (w : Nat), w ≤ 65536 → min a b ≤ blendInt a b w ∧ blendInt a b w ≤ max a b) ∧
  (∀ w, w ≤ 65535 → smoothWeight w ≤ 65535) ∧
  (smoothWeight 0 = 0 ∧ smoothWeight 32768 = 32768 ∧ smoothWeight 65535 = 65535) ∧
  (∀ (tgt : Target) (k n : Keyframe) (t : Nat), k.time ≤ t → t < n.time →
    let a := keyValue tgt k
    let b := keyValue tgt n
    let v := Machine.segment tgt k n t
    let w := (t - k.time) * 65536 / (n.time - k.time)
    let on := fun u : Nat => (⟨a.x + Int.tdiv ((b.x - a.x) * u) 65536, a.y + Int.tdiv ((b.y - a.y) * u) 65536,
      a.z + Int.tdiv ((b.z - a.z) * u) 65536⟩ : Triple)
    (k.ease = .step → v = a) ∧ (k.ease = .linear → v = on w) ∧
    (k.ease = .smooth → v = on (w * w * (196608 - 2 * w) / 2 ^ 32)) ∧
    (min a.x b.x ≤ v.x ∧ v.x ≤ max a.x b.x) ∧ (min a.y b.y ≤ v.y ∧ v.y ≤ max a.y b.y) ∧
      min a.z b.z ≤ v.z ∧ v.z ≤ max a.z b.z) ∧
  (∀ (tgt : Target) (before : List Keyframe) (k : Keyframe) (t : Nat), (∀ x ∈ before, x.time ≤ t) → k.time ≤ t →
    sampleRun tgt (before ++ [k]) t = keyValue tgt k ∧
    ∀ (n : Keyframe) (after : List Keyframe), t < n.time →
      sampleRun tgt (before ++ k :: n :: after) t = Machine.segment tgt k n t) ∧
  (∀ (tgt : Target) (k : Keyframe),
    (tgt = .offset → keyValue tgt k = ⟨(BitVec.ofNat 16 k.value.r).toInt, 0, 0⟩) ∧
    (tgt ≠ .offset → keyValue tgt k = ⟨k.value.r, k.value.g, k.value.b⟩)) ∧
  (∀ (pool : Store Keyframe) (tr : Track) (t : Nat),
    let v := sampleRun tr.target ((List.range tr.count).map fun j => readKey pool (tr.first + j)) t
    trackValue pool tr t = if tr.target = .opacity then ⟨v.x / 257, 0, 0⟩ else v) ∧
  (∀ (r : OriginRec) (pool : Store Keyframe) (duration : Nat) (tr : Track), 2 ≤ tr.count →
    (trackBroken r pool duration tr = false ↔ TrackSound r pool duration tr)) ∧
  (∀ (s : State) (cue : Cue) (t : Nat) (tr : Track),
    let broken := trackBroken (s.originRec cue.owner) s.ce.pool cue.duration tr
    let ed := s.lt.layers[cue.layer].ed
    (broken = false → s.trackNow cue t tr = trackValue s.ce.pool tr t) ∧
    (broken = true → s.trackNow cue t tr = ownValue ed s.freeCount tr.target)) ∧
  (∀ (ed : Editable) (n : Nat), ownValue ed n .level = ⟨ed.level, 0, 0⟩ ∧ ownValue ed n .offset = ⟨ed.offset, 0, 0⟩ ∧
    ownValue ed n .opacity = ⟨ed.opacity, 0, 0⟩ ∧
    ∀ col, ed.source = .solid col → ownValue ed n .colour = ⟨col.r, col.g, col.b⟩) ∧
  (∀ (tf start : Time) (cue : Cue), 1 ≤ cue.duration →
    let e := ((tf - start).toInt / 1000).toNat
    (cue.loops ≠ 0 ∨ e < cue.duration → rebased tf start cue = start) ∧
    (cue.loops = 0 → cue.duration ≤ e →
      rebased tf start cue = start + BitVec.ofNat 48 (e / cue.duration * cue.duration * 1000) ∧
      elapsed tf (rebased tf start cue) = e % cue.duration)) ∧
  (∀ (tf : Time) (n : Nat) (cue : Cue) (ed : Editable), (cue.tracks.map (·.target)).Nodup →
    (cue.run = .ready ∨ cue.run = .scheduled → cueFields tf n cue ed = ed) ∧
    (∀ start latest, cue.run = .running start latest → latest.length = cue.tracks.length →
      FieldsPut cue.tracks latest ed (cueFields tf n cue ed)) ∧
    (∀ start rel frozen, cue.run = .releasing start rel frozen → frozen.length = cue.tracks.length → 1 ≤ cue.release →
      let w : Int := min 65536 ((tf - rel).toInt / 1000 * 65536 / cue.release)
      ∃ vals : List Triple, vals.length = cue.tracks.length ∧ FieldsPut cue.tracks vals ed (cueFields tf n cue ed) ∧
        ∀ (k : Nat) (tr : Track) (fz v : Triple), cue.tracks[k]? = some tr → frozen[k]? = some fz → vals[k]? = some v →
          let own := ownValue ed n tr.target
          let lo : Int := if tr.target = .offset then -32768 else 0
          let hi : Int := if tr.target = .offset then 32767 else if tr.target = .opacity then 255 else 65535
          let gives := fun got f o : Int => lo ≤ got ∧ got ≤ hi ∧
            (lo ≤ f + Int.tdiv ((o - f) * w) 65536 → f + Int.tdiv ((o - f) * w) 65536 ≤ hi →
              got = f + Int.tdiv ((o - f) * w) 65536)
          gives v.x fz.x own.x ∧ (tr.target = .colour → gives v.y fz.y own.y ∧ gives v.z fz.z own.z))) ∧
  ∀ (s : State) (cue : Cue) (ed : Editable), (cue.tracks.map (·.target)).Nodup →
    let sound := cue.tracks.filter fun tr => !trackBroken (s.originRec cue.owner) s.ce.pool cue.duration tr
    FieldsPut sound (sound.map fun tr => trackValue s.ce.pool tr cue.duration) ed (s.heldFields cue ed)

/-- R78, R80, R81: over n microseconds in a part state that does not suspend the corrector, local time advances by n, and
the scene clock gains (ADD) or loses (SUBTRACT) exactly the whole number of times the accumulator passes 2^24. -/
def Obligations.TrimGainsItsRate : Prop :=
  ∀ (n : Nat) (s : State), s.trimSuspended = false →
    let t := Nat.iterate State.microsecond n s
    let passes := (s.sc.acc.toNat + n * s.sc.trim.toNat) / 2 ^ 24
    t.sc.local' = s.sc.local' + BitVec.ofNat 48 n ∧
    t.sc.acc = BitVec.ofNat 24 (s.sc.acc.toNat + n * s.sc.trim.toNat) ∧
    (s.sc.sense = .add → t.sc.scene = s.sc.scene + BitVec.ofNat 48 (n + passes)) ∧
    (s.sc.sense = .subtract → t.sc.scene = s.sc.scene + BitVec.ofNat 48 (n - passes))

/-! ## Taking requests -/

/-- R178, R179: a request is not taken in ASLEEP or WAKING, and one that would be replied to is not taken while its origin's
transmit queue is full: nothing changes. One taken is refused UNKNOWN_KIND when its kind is unknown and BAD_VALUE when it is
short, before any block's checks; a short STREAM_FRAME is discarded with no reply. -/
def Obligations.RequestsAreTakenInTurn : Prop :=
  (∀ (o : Origin) (k : Option Kind) (s : State),
    s.ps.state = .asleep ∨ s.ps.state = .waking ∨
      ((s.port o).tx.length ≥ 8 ∧ ∀ rq, (s.port o).intake.head? = some rq → kindOf? (byteAt rq.data 0) ≠ some .streamFrame) →
    exec (requestCommand o k) s = .next s) ∧
  ∀ (o : Origin) (s : State) (rq : Intake), s.ps.resetHeld = false → s.ps.state.takes = true →
    (s.port o).intake.head? = some rq →
    (kindOf? (byteAt rq.data 0) = none → (s.port o).tx.length < 8 →
      exec (.requestUnknownKind o) s = .next (turnedAway s o rq .unknownKind)) ∧
    ∀ k, kindOf? (byteAt rq.data 0) = some k → rq.data.length < requiredLength k rq.data →
      (k ≠ .streamFrame → (s.port o).tx.length < 8 →
        exec (requestCommand o (some k)) s = .next (turnedAway s o rq .badValue)) ∧
      (k = .streamFrame →
        exec (.streamFrame o) s = .next (s.setPort o { s.port o with intake := (s.port o).intake.tail }))

/-- R188, R38, R49: a configuration request is refused NO_RIGHT from MEDIA and ASSIST, then WRONG_STATE outside SETUP; in SETUP
the layer, cue-run, hold and event requests, and SET_FLAGS with marks, are refused WRONG_STATE, and a STREAM_FRAME is
discarded. None of these changes anything else. -/
def Obligations.RequestsKeepToTheirPartState : Prop :=
  ∀ (k : Kind) (o : Origin) (s : State) (rq : Intake), Takes s o k rq →
    (k ∈ configKinds →
      (¬Configures o → exec (requestCommand o (some k)) s = .next (turnedAway s o rq .noRight)) ∧
      (Configures o → s.ps.state ≠ .setup →
        exec (requestCommand o (some k)) s = .next (turnedAway s o rq .wrongState))) ∧
    (s.ps.state = .setup →
      (k ∈ runKinds → exec (requestCommand o (some k)) s = .next (turnedAway s o rq .wrongState)) ∧
      (k = .setFlags → leAt rq.data 2 4 % 2 ^ 32 ≠ 0 →
        exec (.setFlags o) s = .next (turnedAway s o rq .wrongState)) ∧
      (k = .streamFrame →
        exec (.streamFrame o) s = .next (s.setPort o { s.port o with intake := (s.port o).intake.tail })))

/-- R182, R184: a notice is entered last in the transmit queue of an origin that subscribes to its kind when the queue has
a place; a full queue drops it and sets the notices-lost flag; an origin that does not subscribe sees nothing. An
every-origin notice meets the four origins in ascending number. -/
def Obligations.NoticesMeetTheQueue : Prop :=
  ∀ (s : State) (o : Origin) (n : Notice),
    ((s.port o).mask.getLsbD (noticeBit n) = false → s.notify o n = s) ∧
    ((s.port o).mask.getLsbD (noticeBit n) = true → (s.port o).tx.length < 8 →
      s.notify o n = s.setPort o { s.port o with tx := (s.port o).tx ++ [⟨noticeBytes n, none, none⟩] }) ∧
    ((s.port o).mask.getLsbD (noticeBit n) = true → (s.port o).tx.length ≥ 8 →
      s.notify o n = s.setPort o { s.port o with noticesLost := true }) ∧
    s.notifyAll n = (((s.notify .body n).notify .media n).notify .assist n).notify .service n

/-! ## Configuration requests -/

/-- R71: SET_BIN replaces one bin whole, SET_LAMP_BIN maps a range of lamps to one bin; both are checked in the rule's
order and change nothing when refused. -/
def Obligations.BinRequestsReplaceBinsAndMap : Prop :=
  ∀ (o : Origin) (s : State) (rq : Intake),
    (Takes s o .setBin rq →
      (¬Configures o → exec (.setBin o) s = .next (turnedAway s o rq .noRight)) ∧
      (Configures o → s.ps.state ≠ .setup → exec (.setBin o) s = .next (turnedAway s o rq .wrongState)) ∧
      (Configures o → s.ps.state = .setup →
        (15 < byteAt rq.data 2 → exec (.setBin o) s = .next (turnedAway s o rq .badValue)) ∧
        ∀ b : BinNo, byteAt rq.data 2 = b.val →
          exec (.setBin o) s = .next (served
            { s with co := { s.co with bins := setAt s.co.bins b ⟨rgbAt rq.data 3, rgbAt rq.data 9⟩ } }
            o rq .done false false []))) ∧
    (Takes s o .setLampBin rq →
      let first := leAt rq.data 2 2
      let count := leAt rq.data 4 2
      (¬Configures o → exec (.setLampBin o) s = .next (turnedAway s o rq .noRight)) ∧
      (Configures o → s.ps.state ≠ .setup → exec (.setLampBin o) s = .next (turnedAway s o rq .wrongState)) ∧
      (Configures o → s.ps.state = .setup →
        (15 < byteAt rq.data 6 ∨ count = 0 ∨ 384 < count ∨ 383 < first ∨ 384 < first + count →
          exec (.setLampBin o) s = .next (turnedAway s o rq .badValue)) ∧
        ∀ b : BinNo, byteAt rq.data 6 = b.val → 1 ≤ count → first + count ≤ 384 →
          ∃ map : Vector BinNo 384,
            exec (.setLampBin o) s =
              .next (served { s with co := { s.co with lampBin := map } } o rq .done false false []) ∧
            ∀ lam : LampNo,
              map[lam] = if first ≤ lam.val ∧ lam.val < first + count then b else s.co.lampBin[lam]))

/-- R12, R13, R14: a zone definition over sound spans that cover no lamp twice, and no lamp of another defined zone,
replaces the record whole; one that shares a lamp is refused OVERLAP. CLEAR_ZONE undefines a defined zone. -/
def Obligations.ZoneRequestsKeepLampsApart : Prop :=
  ∀ (o : Origin) (s : State) (rq : Intake) (z : ZoneNo), ZonesSound s → byteAt rq.data 2 = z.val →
    (TakesConfig s o .setZone rq → ∀ (kind : ZoneKind) (glare : Bool) (sps : List Span),
      zoneKind? (byteAt rq.data 3) = some kind → yesNo? (byteAt rq.data 4) = some glare →
      1 ≤ byteAt rq.data 11 → byteAt rq.data 11 ≤ 4 →
      (setZoneArgs rq.data).spans.map span? = sps.map some → (∀ sp ∈ sps, SpanSound sp) →
      let free := ∀ (y : ZoneNo) (x : Zone), y ≠ z → s.co.zones[y] = some x → ∀ sp ∈ sps, ∀ lam : LampNo,
        covers sp lam.val → zoneHas x lam = false
      (SpansApart sps → free → exec (.setZone o) s =
        .next (served (s.setZoneRec z (some ⟨kind, glare, rgbAt rq.data 5, sps⟩)) o rq .done false false [])) ∧
      (¬(SpansApart sps ∧ free) → exec (.setZone o) s = .next (turnedAway s o rq .overlap))) ∧
    (TakesConfig s o .clearZone rq →
      (s.co.zones[z].isSome = true →
        exec (.clearZone o) s = .next (served (s.setZoneRec z none) o rq .done false false [])) ∧
      (s.co.zones[z] = none → exec (.clearZone o) s = .next (turnedAway s o rq .notFound)))

/-- R136, R137: SET_ORIGIN replaces one origin's record and gives it the time-source role when marked, provided the
reserves stay within 16 and no range is shared. -/
def Obligations.SetOriginReplacesTheRecord : Prop :=
  ∀ (o q : Origin) (s : State) (rq : Intake) (tier : Tier) (mark : Bool) (ws : List Window),
    TakesConfig s o .setOrigin rq →
    let a := setOriginArgs rq.data
    a.origin = q.idx.val → a.maxTier = tier.val → yesNo? a.timeSource = some mark → a.reserve ≤ a.limit →
    a.limit ≤ 16 → a.windows.map window? = ws.map some → a.keyFirst ≤ a.keyLast → a.keyLast ≤ 1023 →
    a.patFirst ≤ a.patLast → a.patLast ≤ 4095 →
    let record : OriginRec :=
      ⟨tier, a.reserve, a.limit, fourWindows ws, a.keyFirst, a.keyLast, a.patFirst, a.patLast⟩
    let apart := ∀ p, p ≠ q →
      (a.keyLast < (s.originRec p).keyFirst ∨ (s.originRec p).keyLast < a.keyFirst) ∧
      (a.patLast < (s.originRec p).patFirst ∨ (s.originRec p).patLast < a.patFirst)
    (a.reserve + otherReserves s q > 16 → exec (.setOrigin o) s = .next (turnedAway s o rq .badValue)) ∧
    (a.reserve + otherReserves s q ≤ 16 → ¬apart → exec (.setOrigin o) s = .next (turnedAway s o rq .overlap)) ∧
    (a.reserve + otherReserves s q ≤ 16 → apart → exec (.setOrigin o) s = .next (served
      { s with ot := { s.ot with recs := setAt s.ot.recs q.idx record
                                 timeSource := if mark then q else s.ot.timeSource } }
      o rq .done false false []))

/-- R68, R89: SET_GLARE replaces the glare setting whole, or is refused BAD_VALUE for a reference with a flag above 31 or an
unknown sense (flag FFh is an absent reference whatever its sense byte, log entry 8); SET_FRAME stores the period brought into 5
to 20 ms, 0 selecting 10, and moves no frame time. -/
def Obligations.GlareAndFramePeriodAreStored : Prop :=
  ∀ (o : Origin) (s : State) (rq : Intake),
    (TakesConfig s o .setGlare rq →
      let bad := fun flag sense : Nat => flag ≠ 0xFF ∧ (31 < flag ∨ 1 < sense)
      (bad (byteAt rq.data 2) (byteAt rq.data 3) ∨ bad (byteAt rq.data 4) (byteAt rq.data 5) →
        exec (.setGlare o) s = .next (turnedAway s o rq .badValue)) ∧
      ∀ refA refB : Option FlagRef,
        flagRef? (byteAt rq.data 2) (byteAt rq.data 3) = some refA →
        flagRef? (byteAt rq.data 4) (byteAt rq.data 5) = some refB →
        exec (.setGlare o) s = .next (served
          { s with co := { s.co with glare := ⟨refA, refB, leAt rq.data 6 2⟩ } } o rq .done false false [])) ∧
    (TakesConfig s o .setFrame rq →
      let p := byteAt rq.data 2
      exec (.setFrame o) s = .next (served
        { s with sc := { s.sc with periodSet := if p = 0 then 10 else max 5 (min 20 p) } }
        o rq .done (decide (p ≠ 0 ∧ (p < 5 ∨ 20 < p))) false []))

/-- R73, R160: SET_CHAIN stores budget, knee and enable in range; a loop then switched off goes OFF with QUIET and CHAIN_STATE
DISABLED, and one no longer switched off leaves OFF for DISCOVERING, its marks cleared, with CHAIN_STATE ENABLED. -/
def Obligations.SetChainSwitchesTheLoop : Prop :=
  ∀ (o : Origin) (s : State) (rq : Intake) (l : LoopNo) (enable : Bool), TakesConfig s o .setChain rq →
    byteAt rq.data 2 = l.val → yesNo? (byteAt rq.data 6) = some enable →
    let budget := leAt rq.data 3 2
    let knee := byteAt rq.data 5
    let chain : Chain := ⟨min 5000 budget, max 60 (min 120 knee)⟩
    let off := enable = false ∨ budget = 0
    let x := s.lc.loops[l]
    let s1 := served
      { s with co := { s.co with chains := setAt s.co.chains l chain }
               lc := { s.lc with loops := setAt s.lc.loops l { x with enable := enable } } }
      o rq .done (decide (5000 < budget ∨ knee < 60 ∨ 120 < knee)) false []
    ((off ↔ x.state = .off) → exec (.setChain o) s = .next s1) ∧
    (off → x.state ≠ .off → exec (.setChain o) s = .next ((s1.setLoop l
      { x with enable := enable, state := .off, errors := 0, quietCount := 0, showPending := false, claimed := false,
               sleepHold := false, await := none, out := [.quiet] }).notifyAll
        (.chainState l .disabled .off x.state x.nodes x.nodes))) ∧
    (¬off → x.state = .off → exec (.setChain o) s = .next
      (State.notifyAll { s1 with lc :=
          { loops := setAt s.lc.loops l { x with enable := enable, state := .discovering, holdLen := 8 }
            health := unqueried (· == l) s.lc.health } }
        (.chainState l .enabled .discovering .off x.nodes x.nodes)))

/-- R117: SET_LINE replaces the record with its durations in range, takes the level afresh from the pin, empties the capture
slot, clears the former mirror flag and gives the new one the level. -/
def Obligations.SetLineReplacesTheLine : Prop :=
  ∀ (o : Origin) (s : State) (rq : Intake) (t : LineNo) (mode : LineMode) (policy : CapturePolicy) (wake : Bool)
    (mirror : Option FlagNo), TakesConfig s o .setLine rq → byteAt rq.data 2 = t.val →
    lineMode? (byteAt rq.data 3) = some mode → yesNo? (byteAt rq.data 5) = some wake →
    capturePolicy? (byteAt rq.data 6) = some policy →
    let debounce := byteAt rq.data 4
    let window := leAt rq.data 7 2
    let raw := s.tu.lines[t].raw
    (wake = true → mode = .off ∨ mode = .level → exec (.setLine o) s = .next (turnedAway s o rq .badValue)) ∧
    ((wake = true → mode ≠ .off ∧ mode ≠ .level) →
      (mode ≠ .level → mirror = none) →
      (mode = .level → ∃ f, mirror = some f ∧ byteAt rq.data 9 = f.val ∧ s.tu.writers[f] = .line t) →
      let f1 := match s.tu.lines[t].mode, s.tu.lines[t].mirror with
        | .level, some f => writeFlag s.tu.flags f false
        | _, _ => s.tu.flags
      let f2 := match mirror with
        | some f => writeFlag f1 f raw
        | none => f1
      exec (.setLine o) s = .next (served
        { s with tu := { s.tu with
            lines := setAt s.tu.lines t
              ⟨mode, min 50 debounce, wake, policy, max 1 (min 10000 window), mirror, raw, none, raw⟩
            captures := setAt s.tu.captures t { s.tu.captures[t] with valid := false, missed := false }
            flags := f2 } }
        o rq .done (decide (50 < debounce ∨ window = 0 ∨ 10000 < window)) false []))

/-- R127: SET_FLAG_OWNER gives a flag a new writer and the value 0; the present writer changes nothing; a flag that a LEVEL
line mirrors into, or a line that writes another flag, is refused OVERLAP. -/
def Obligations.SetFlagOwnerMovesTheFlag : Prop :=
  ∀ (o : Origin) (s : State) (rq : Intake) (f : FlagNo) (w : Writer), TakesConfig s o .setFlagOwner rq →
    byteAt rq.data 2 = f.val → writer? (byteAt rq.data 3) (byteAt rq.data 4) = some w →
    let mirrored := ∃ t : LineNo, s.tu.writers[f] = .line t ∧ s.tu.lines[t].mode = .level ∧
      s.tu.lines[t].mirror = some f ∧ w ≠ .line t
    let busy := (∃ t, w = .line t) ∧ ∃ g : FlagNo, g ≠ f ∧ s.tu.writers[g] = w
    (mirrored ∨ busy → exec (.setFlagOwner o) s = .next (turnedAway s o rq .overlap)) ∧
    (¬(mirrored ∨ busy) → s.tu.writers[f] = w →
      exec (.setFlagOwner o) s = .next (served s o rq .done false false [])) ∧
    (¬(mirrored ∨ busy) → s.tu.writers[f] ≠ w → exec (.setFlagOwner o) s = .next (served
      { s with tu := { s.tu with writers := setAt s.tu.writers f w, flags := writeFlag s.tu.flags f false } }
      o rq .done false false []))

/-- R168, R172: SET_WATCH replaces the record with its thresholds in range and hit no, and forms both lines again from the
enabled watches that are hit. -/
def Obligations.SetWatchReplacesTheWatch : Prop :=
  ∀ (o : Origin) (s : State) (rq : Intake) (w : WatchNo) (z : ZoneNo) (enabled notice : Bool) (m : Measure)
    (ka kb : CompareKind) (combine : Combine) (signal : Signal), TakesConfig s o .setWatch rq →
    byteAt rq.data 2 = w.val → yesNo? (byteAt rq.data 3) = some enabled → byteAt rq.data 4 = z.val →
    measure? (byteAt rq.data 5) = some m → compareKind? (byteAt rq.data 6) = some ka →
    compareKind? (byteAt rq.data 9) = some kb → combine? (byteAt rq.data 12) = some combine →
    yesNo? (byteAt rq.data 13) = some notice → signal? (byteAt rq.data 14) = some signal →
    (ka = .off → exec (.setWatch o) s = .next (turnedAway s o rq .badValue)) ∧
    (ka ≠ .off → ∃ ws : Vector Watch 4, ∃ high0 high1 : Bool,
      ws = setAt s.wu.watches w
        ⟨enabled, z, m, ⟨ka, min 4095 (leAt rq.data 7 2)⟩, ⟨kb, min 4095 (leAt rq.data 10 2)⟩, combine, notice, signal, false⟩ ∧
      (high0 = true ↔ ∃ i : WatchNo, ws[i].enabled = true ∧ ws[i].hit = true ∧ ws[i].signal = .sig0) ∧
      (high1 = true ↔ ∃ i : WatchNo, ws[i].enabled = true ∧ ws[i].hit = true ∧ ws[i].signal = .sig1) ∧
      exec (.setWatch o) s = .next (served { s with wu := ⟨ws, high0, high1⟩ } o rq .done
        (decide (4095 < leAt rq.data 7 2 ∨ 4095 < leAt rq.data 10 2)) false []))

/-! ## Content requests -/

/-- R41, R93: WRITE_PATTERN and WRITE_KEYS are checked in the rules' order; one that passes writes its whole run, in the
requester's own range, and no other entry. -/
def Obligations.WriteRequestsFillTheirRuns : Prop :=
  ∀ (o : Origin) (s : State) (rq : Intake), BuffersSound s →
    let first := leAt rq.data 2 2
    let count := byteAt rq.data 4
    let r := s.originRec o
    (Takes s o .writePattern rq →
      (count = 0 ∨ 6 < count ∨ 4095 < first ∨ 4096 < first + count →
        exec (.writePattern o) s = .next (turnedAway s o rq .badValue)) ∧
      (1 ≤ count → count ≤ 6 → first + count ≤ 4096 → first < r.patFirst ∨ r.patLast + 1 < first + count →
        exec (.writePattern o) s = .next (turnedAway s o rq .noRight)) ∧
      (1 ≤ count → count ≤ 6 → first + count ≤ 4096 → r.patFirst ≤ first → first + count ≤ r.patLast + 1 →
        ∃ mem : Store PatEntry,
          exec (.writePattern o) s =
            .next (served { s with ss := { s.ss with pattern := mem } } o rq .done false false []) ∧
          ∀ i, readPattern mem i =
            if first ≤ i ∧ i < first + count then
              ⟨rgbAt rq.data (5 + 7 * (i - first)), byteAt rq.data (11 + 7 * (i - first))⟩
            else readPattern s.ss.pattern i)) ∧
    (Takes s o .writeKeys rq →
      let eases := ∀ k, k < count → (ease? (byteAt rq.data (7 + 9 * k))).isSome = true
      (count = 0 ∨ 6 < count ∨ 1023 < first ∨ 1024 < first + count ∨ ¬eases →
        exec (.writeKeys o) s = .next (turnedAway s o rq .badValue)) ∧
      (1 ≤ count → count ≤ 6 → first + count ≤ 1024 → eases → first < r.keyFirst ∨ r.keyLast + 1 < first + count →
        exec (.writeKeys o) s = .next (turnedAway s o rq .noRight)) ∧
      (1 ≤ count → count ≤ 6 → first + count ≤ 1024 → eases → r.keyFirst ≤ first → first + count ≤ r.keyLast + 1 →
        ∃ pool : Store Keyframe,
          exec (.writeKeys o) s = .next (served { s with ce := { s.ce with pool := pool } } o rq .done false false []) ∧
          ∀ i,
            if first ≤ i ∧ i < first + count then
              (readKey pool i).time = leAt rq.data (5 + 9 * (i - first)) 2 ∧
              some (readKey pool i).ease = ease? (byteAt rq.data (7 + 9 * (i - first))) ∧
              (readKey pool i).value = rgbAt rq.data (8 + 9 * (i - first))
            else readKey pool i = readKey s.ce.pool i))

/-- R43, R45: DEFINE_PATTERN gives the requester the lowest undefined slot; DELETE_PATTERN undefines the requester's own and
marks detached every live source and staged copy that names it, whatever the owner, and pattern memory is not changed. (The bytes
of the repeat modes are the model's choice, log entry 24.) -/
def Obligations.PatternSlotsAreDefinedAndDeleted : Prop :=
  ∀ (o : Origin) (s : State) (rq : Intake),
    (Takes s o .definePattern rq →
      let first := leAt rq.data 2 2
      let length := leAt rq.data 4 2
      let r := s.originRec o
      (length = 0 ∨ 256 < length ∨ repeat? (byteAt rq.data 6) = none ∨ 4095 < first ∨ 4096 < first + length →
        exec (.definePattern o) s = .next (turnedAway s o rq .badValue)) ∧
      ∀ rep, repeat? (byteAt rq.data 6) = some rep → 1 ≤ length → length ≤ 256 → first + length ≤ 4096 →
        (first < r.patFirst ∨ r.patLast + 1 < first + length →
          exec (.definePattern o) s = .next (turnedAway s o rq .noRight)) ∧
        (r.patFirst ≤ first → first + length ≤ r.patLast + 1 →
          ((∀ n : SlotNo, s.ss.slots[n].isSome = true) →
            exec (.definePattern o) s = .next (turnedAway s o rq .noRoom)) ∧
          ∀ n : SlotNo, s.ss.slots[n] = none → (∀ m : SlotNo, m < n → s.ss.slots[m].isSome = true) →
            exec (.definePattern o) s = .next (served
              { s with ss := { s.ss with slots := setAt s.ss.slots n (some ⟨o, first, length, rep⟩) } }
              o rq .done false false [oneByte n.val]))) ∧
    (Takes s o .deletePattern rq →
      (15 < byteAt rq.data 2 → exec (.deletePattern o) s = .next (turnedAway s o rq .badValue)) ∧
      ∀ n : SlotNo, byteAt rq.data 2 = n.val →
        (s.ss.slots[n] = none → exec (.deletePattern o) s = .next (turnedAway s o rq .notFound)) ∧
        ∀ x, s.ss.slots[n] = some x →
          (x.owner ≠ o → exec (.deletePattern o) s = .next (turnedAway s o rq .notOwner)) ∧
          (x.owner = o → ∃ ls : Vector Layer 16,
            exec (.deletePattern o) s = .next (served
              { s with ss := { s.ss with slots := setAt s.ss.slots n none }, lt := { s.lt with layers := ls } }
              o rq .done false false []) ∧
            ∀ i : LayerNo, ls[i] = { s.lt.layers[i] with
              detached := s.lt.layers[i].detached || s.lt.layers[i].ed.source == .pattern n
              copy := s.lt.layers[i].copy.map fun c =>
                { c with detached := c.detached || c.ed.source == .pattern n } }))

/-- R95, R96, R97: a cue whose tracks are in range, of distinct targets and sound takes the lowest EMPTY number as READY, its
release brought to 5000 ms (an AUTO_SHOW byte above 1 means a free value, log entry 7); DELETE_CUE empties the owner's cue,
drops its start entry and its owner's bind entries, and a run that it ends is reported STOPPED. -/
def Obligations.CuesAreDefinedAndDeleted : Prop :=
  ∀ (o : Origin) (s : State) (rq : Intake),
    (Takes s o .defineCue rq → ∀ (l : LayerNo) (ending : EndBehaviour) (trs : List Track),
      byteAt rq.data 2 = l.val → 1 ≤ byteAt rq.data 3 → byteAt rq.data 3 ≤ 4 →
      (defineCueArgs rq.data).tracks.map track? = trs.map some → ending? (byteAt rq.data 7) = some ending →
      let duration := leAt rq.data 4 2
      let release := leAt rq.data 9 2
      let sound := (trs.map (·.target)).Nodup ∧ ∀ tr ∈ trs, TrackSound (s.originRec o) s.ce.pool duration tr
      (duration = 0 → exec (.defineCue o) s = .next (turnedAway s o rq .badValue)) ∧
      (duration ≠ 0 → ¬sound → exec (.defineCue o) s = .next (turnedAway s o rq .badTrack)) ∧
      (duration ≠ 0 → sound → (∀ c : CueNo, s.ce.cues[c].isSome = true) →
        exec (.defineCue o) s = .next (turnedAway s o rq .noRoom)) ∧
      (duration ≠ 0 → sound → ∀ c : CueNo, s.ce.cues[c] = none → (∀ d : CueNo, d < c → s.ce.cues[d].isSome = true) →
        ∃ autoShow : Bool, (byteAt rq.data 8 = 0 → autoShow = false) ∧ (byteAt rq.data 8 = 1 → autoShow = true) ∧
          exec (.defineCue o) s = .next (served
            (s.setCue c (some ⟨o, l, trs, duration, byteAt rq.data 6, ending, autoShow, min 5000 release, .ready⟩))
            o rq .done (decide (5000 < release)) false [oneByte c.val]))) ∧
    (Takes s o .deleteCue rq →
      (23 < byteAt rq.data 2 → exec (.deleteCue o) s = .next (turnedAway s o rq .badValue)) ∧
      ∀ c : CueNo, byteAt rq.data 2 = c.val →
        (s.ce.cues[c] = none → exec (.deleteCue o) s = .next (turnedAway s o rq .notFound)) ∧
        ∀ cue, s.ce.cues[c] = some cue →
          (cue.owner ≠ o → exec (.deleteCue o) s = .next (turnedAway s o rq .notOwner)) ∧
          (cue.owner = o → ∃ binds : Vector (Option BindEntry) 24,
            (∀ i : BindNo, binds[i] = s.tu.binds[i].filter fun e => !(e.owner == o && e.cue == c)) ∧
            let s1 := served
              { s with ce := { s.ce with cues := setAt s.ce.cues c none, queue := s.ce.queue.filter (·.cue != c) }
                       tu := { s.tu with binds := binds } } o rq .done false false []
            exec (.deleteCue o) s =
              .next (if cue.run = .ready then s1 else s1.notify o (.cueEnded c cue.layer .stopped))))

/-- R130, R131: BIND makes an entry for the requester's own cue, in place of its entry of the same match and mask when it has
one, at the lowest invalid number (a qualifier flag FFh is ALWAYS whatever its sense byte, log entry 8); UNBIND makes an entry
invalid for its owner or SERVICE. -/
def Obligations.BindEntriesAreMadeAndUnmade : Prop :=
  ∀ (o : Origin) (s : State) (rq : Intake),
    (Takes s o .bind rq → BindsSound s → ∀ (c : CueNo) (act : BindAction) (qual : Option FlagRef),
      byteAt rq.data 7 = c.val → bindAction? (byteAt rq.data 6) = some act →
      flagRef? (byteAt rq.data 4) (byteAt rq.data 5) = some qual →
      let mask := oneByte (byteAt rq.data 3)
      let code := oneByte (byteAt rq.data 2) &&& mask
      let same := fun e : BindEntry => e.owner == o && e.code == code && e.mask == mask
      (s.ce.cues[c] = none → exec (.bind o) s = .next (turnedAway s o rq .notFound)) ∧
      ∀ cue, s.ce.cues[c] = some cue →
        (cue.owner ≠ o → exec (.bind o) s = .next (turnedAway s o rq .notOwner)) ∧
        (cue.owner = o → ∀ (binds : Vector (Option BindEntry) 24) (replaced : Bool),
          (∀ i : BindNo, binds[i] = s.tu.binds[i].filter fun e => !same e) →
          (replaced = true ↔ ∃ (i : BindNo) (e : BindEntry), s.tu.binds[i] = some e ∧ same e = true) →
          ((∀ i : BindNo, binds[i].isSome = true) → exec (.bind o) s = .next (turnedAway s o rq .noRoom)) ∧
          ∀ i : BindNo, binds[i] = none → (∀ j : BindNo, j < i → binds[j].isSome = true) →
            exec (.bind o) s = .next (served
              { s with tu := { s.tu with binds := setAt binds i (some ⟨o, code, mask, qual, act, c⟩) } }
              o rq .done false replaced [oneByte i.val]))) ∧
    (Takes s o .unbind rq →
      (23 < byteAt rq.data 2 → exec (.unbind o) s = .next (turnedAway s o rq .badValue)) ∧
      ∀ i : BindNo, byteAt rq.data 2 = i.val →
        (s.tu.binds[i] = none → exec (.unbind o) s = .next (turnedAway s o rq .notFound)) ∧
        ∀ e, s.tu.binds[i] = some e →
          (o ≠ e.owner → o ≠ .service → exec (.unbind o) s = .next (turnedAway s o rq .notOwner)) ∧
          (o = e.owner ∨ o = .service →
            exec (.unbind o) s = .next (served (s.setBind i none) o rq .done false false [])))

/-! ## Clocks and reads -/

/-- R122, R185, R186, R86: TIME_QUERY, READ_STATUS and READ_CAPTURE report what the rules list at the places of 11.7, and of
these only READ_CAPTURE changes anything: it empties the slot it reports. SUBSCRIBE replaces the requester's mask whole, or is
refused BAD_VALUE for a mask with a bit above 9. -/
def Obligations.ReadRequestsReport : Prop :=
  ∀ (o : Origin) (s : State) (rq : Intake),
    (Takes s o .timeQuery rq → exec (.timeQuery o) s = .next (served s o rq .done false false
      (timeBytes rq.stamp ++ timeBytes s.sc.scene ++ timeBytes s.sc.local' ++ leBytes 3 s.sc.trim.toNat ++
        [if s.sc.sense = .add then 0 else 1, oneByte s.sc.period, boolByte s.sc.nextFrame.isSome] ++
        timeBytes (s.sc.nextFrame.getD 0) ++ [originByte s.ot.timeSource]))) ∧
    (Takes s o .subscribe rq →
      let mask := leAt rq.data 2 2
      (1024 ≤ mask → exec (.subscribe o) s = .next (turnedAway s o rq .badValue)) ∧
      (mask < 1024 → exec (.subscribe o) s = .next (served
        (s.setPort o { s.port o with mask := BitVec.ofNat 10 mask }) o rq .done false false (leBytes 2 mask)))) ∧
    (Takes s o .readCapture rq →
      (7 < byteAt rq.data 2 → exec (.readCapture o) s = .next (turnedAway s o rq .badValue)) ∧
      ∀ t : LineNo, byteAt rq.data 2 = t.val →
        let c := s.tu.captures[t]
        exec (.readCapture o) s = .next (served (s.setCapture t { c with valid := false, missed := false }) o rq .done
          false false ([boolByte c.valid, if c.edge = .rise then 0 else 1] ++ timeBytes c.stamp ++
            [boolByte c.missed, lineModeByte s.tu.lines[t].mode, boolByte s.tu.lines[t].level]))) ∧
    (Takes s o .readStatus rq → PortsSound s → LoopsSound s → CuesSound s →
      ∃ d : List Byte, d.length = 37 ∧ exec (.readStatus o) s = .next (served s o rq .done false false d) ∧
        d[0]? = some (partStateByte s.ps.state) ∧ byteAt d 1 = s.ot.timeSource.idx.val ∧
        d[2]? = some (channelStateByte (channelState s.mp.ca)) ∧ d[3]? = some (channelStateByte (channelState s.mp.cb)) ∧
        leAt d 4 2 = s.mp.ca.txErrors ∧ byteAt d 6 = s.mp.ca.rxErrors ∧
        leAt d 7 2 = s.mp.cb.txErrors ∧ byteAt d 9 = s.mp.cb.rxErrors ∧
        byteAt d 10 = (if (s.port o).home = .ca then 0 else 1) ∧ leAt d 11 2 = (s.port o).mask.toNat ∧
        byteAt d 13 + 1 = (s.port o).intake.length ∧ byteAt d 14 = (s.port o).tx.length ∧
        byteAt d 15 = s.heldCount o ∧ byteAt d 16 = s.freeCountOfLayers ∧ d[17]? = some (gateByte (s.gate o)) ∧
        (∀ z : ZoneNo, (leAt d 18 4).testBit z.val = (s.holder z == some o)) ∧
        byteAt d 22 = s.ce.queue.length ∧
        (∀ l : LoopNo, d[23 + 2 * l.val]? = some (loopStateByte s.lc.loops[l].state) ∧
          byteAt d (24 + 2 * l.val) = s.lc.loops[l].nodes ∧
          (byteAt d 35).testBit l.val = s.co.limits[l].limiting) ∧
        byteAt d 36 = (if s.wu.sig0 = true then 1 else 0) + (if s.wu.sig1 = true then 2 else 0))

/-- R81, R82, R83, R84, R114: the time source's SET_CLOCK sets or steps the scene clock, moves the next frame time one period
ahead of it and the times of running cues with it; its TRIM_CLOCK replaces the trim and clears the accumulator; another
origin's is refused NOT_OWNER. TRIM_CORRECTION is the microsecond in which the accumulator passes 2^24 (the mode bytes of
SET_CLOCK are the model's reading, log entry 10; that it ends the measuring of frame ages, log entry 3). -/
def Obligations.ClockRequestsSetStepAndTrim : Prop :=
  (∀ (o : Origin) (s : State) (rq : Intake),
    (Takes s o .setClock rq →
      let value := BitVec.ofNat 48 (leAt rq.data 3 6)
      (s.ot.timeSource ≠ o → exec (.setClock o) s = .next (turnedAway s o rq .notOwner)) ∧
      (s.ot.timeSource = o → 1 < byteAt rq.data 2 → exec (.setClock o) s = .next (turnedAway s o rq .badValue)) ∧
      (s.ot.timeSource = o → ∀ c : Time,
        (byteAt rq.data 2 = 0 ∧ c = value ∨ byteAt rq.data 2 = 1 ∧ c = s.sc.scene + value) →
        ∃ cues : Vector (Option Cue) 24,
          exec (.setClock o) s = .next (served
            { s with sc := { s.sc with scene := c
                                       nextFrame := some (c + BitVec.ofNat 48 (s.sc.period * 1000))
                                       lastFrame := none }
                     ce := { s.ce with cues := cues } } o rq .done false false (timeBytes c)) ∧
          ∀ i : CueNo, cues[i] = s.ce.cues[i].map fun cue =>
            { cue with run := match cue.run with
                | .running start latest => .running (start + (c - s.sc.scene)) latest
                | .releasing start rel frozen => .releasing (start + (c - s.sc.scene)) (rel + (c - s.sc.scene)) frozen
                | run => run })) ∧
    (Takes s o .trimClock rq →
      (s.ot.timeSource ≠ o → exec (.trimClock o) s = .next (turnedAway s o rq .notOwner)) ∧
      (s.ot.timeSource = o → trimSense? (byteAt rq.data 5) = none →
        exec (.trimClock o) s = .next (turnedAway s o rq .badValue)) ∧
      (s.ot.timeSource = o → ∀ sense, trimSense? (byteAt rq.data 5) = some sense →
        exec (.trimClock o) s = .next (served
          { s with sc := { s.sc with trim := BitVec.ofNat 24 (leAt rq.data 2 3), sense := sense, acc := 0 } }
          o rq .done false false [])))) ∧
  ∀ s : State, s.ps.resetHeld = false →
    (s.ps.state = .asleep ∨ s.ps.state = .waking ∨ s.sc.acc.toNat + s.sc.trim.toNat < 2 ^ 24 →
      exec .trimCorrection s = .next s) ∧
    (s.ps.state ≠ .asleep → s.ps.state ≠ .waking → 2 ^ 24 ≤ s.sc.acc.toNat + s.sc.trim.toNat →
      exec .trimCorrection s = .next
        { s with sc := { s.sc with scene := s.sc.scene + (if s.sc.sense = .add then 2 else 0)
                                   local' := s.sc.local' + 1
                                   acc := s.sc.acc + s.sc.trim } })

/-! ## Layers, gates, cues and streams -/

/-- R20, R27, R28, R33: OPEN_LAYER grants the lowest FREE layer with the open defaults, or refuses by tier, limit and the
other origins' reserves. SHOW_LAYER and HIDE_LAYER set the own layer's state, live under an OPEN gate and else in its staged
copy. CLOSE_LAYER frees the own layer at once, its stream queue and its cue's run with it (R17, R25, R67, R113). -/
def Obligations.LayersAreOpenedShownAndClosed : Prop :=
  ∀ (o : Origin) (s : State) (rq : Intake), Running s →
    (Takes s o .openLayer rq →
      let others := ((Origin.all.filter (· != o)).map fun q => (s.originRec q).reserve - s.heldCount q).sum
      (5 < byteAt rq.data 2 → exec (.openLayer o) s = .next (turnedAway s o rq .badValue)) ∧
      ∀ tier : Tier, byteAt rq.data 2 = tier.val →
        ((s.originRec o).maxTier < tier → exec (.openLayer o) s = .next (turnedAway s o rq .noRight)) ∧
        (tier ≤ (s.originRec o).maxTier →
          (s.heldCount o = (s.originRec o).limit ∨
              (s.originRec o).reserve ≤ s.heldCount o ∧ s.freeCountOfLayers ≤ others →
            exec (.openLayer o) s = .next (turnedAway s o rq .noRoom)) ∧
          (s.heldCount o ≠ (s.originRec o).limit →
            s.heldCount o < (s.originRec o).reserve ∨ others < s.freeCountOfLayers →
            ∀ i : LayerNo, s.lt.layers[i].state = .free → (∀ j : LayerNo, j < i → s.lt.layers[j].state ≠ .free) →
              exec (.openLayer o) s = .next (served
                (s.setLayer i { Layer.freed with state := .held, owner := some o, tier := tier })
                o rq .done false false [oneByte i.val])))) ∧
    ∀ i : LayerNo, byteAt rq.data 2 = i.val →
      let l := s.lt.layers[i]
      let own := l.state ≠ .free ∧ l.owner = some o
      let copied := l.copy.getD ⟨l.ed, l.detached, l.state == .shown⟩
      (Takes s o .showLayer rq →
        (¬own → exec (.showLayer o) s = .next (turnedAway s o rq .notOwner)) ∧
        (own → exec (.showLayer o) s = .next (served
          (s.setLayer i (if s.gate o = .opened then { l with state := .shown }
            else { l with copy := some { copied with shown := true } })) o rq .done false false []))) ∧
      (Takes s o .hideLayer rq →
        (¬own → exec (.hideLayer o) s = .next (turnedAway s o rq .notOwner)) ∧
        (own → exec (.hideLayer o) s = .next (served
          (s.setLayer i (if s.gate o = .opened then { l with state := .held }
            else { l with copy := some { copied with shown := false } })) o rq .done false false []))) ∧
      (Takes s o .closeLayer rq → StreamsSound s → CuesSound s →
        (¬own → exec (.closeLayer o) s = .next (turnedAway s o rq .notOwner)) ∧
        (own → ∀ queues : Vector StreamQueue 2,
          (∀ q : QueueNo, queues[q] =
            if s.ss.queues[q].bound = some i then ⟨none, none, [], none, false⟩ else s.ss.queues[q]) →
          let s1 := served
            { s with lt := { s.lt with layers := setAt s.lt.layers i Layer.freed }
                     ss := { s.ss with queues := queues }
                     co := { s.co with inFlight := s.co.inFlight.map fun c =>
                       { c with gone := c.gone ||| BitVec.twoPow 16 i.val } } } o rq .done false false []
          ((∀ (c : CueNo) (cue : Cue), s.ce.cues[c] = some cue → cue.run.active = true → cue.layer ≠ i) →
            exec (.closeLayer o) s = .next s1) ∧
          ∀ (c : CueNo) (cue : Cue), s.ce.cues[c] = some cue → cue.run.active = true → cue.layer = i →
            exec (.closeLayer o) s = .next
              ((s1.setCue c (some { cue with run := .ready })).notify cue.owner (.cueEnded c i .layerGone))))

/-- R21, R22, R25, R33, R45: the checks of EDIT_LAYER in their order: a layer above 15 or a mask bit above 10 BAD_VALUE, a layer
that is not the requester's NOT_OWNER, a marked field outside its kind BAD_VALUE (flag FFh takes any sense byte, log entry 8),
an undefined zone BAD_VALUE, a zone it cannot target NO_RIGHT, an undefined slot BAD_VALUE, no queue left NO_ROOM. An edit that
passes writes every marked field, brought into range, to the live record under an OPEN gate and else to the staged copy, and
leaves every other field; an edit of the source clears the detached mark; the stream queue follows the layer's sources; CLAMPED
says that a fade was above 10000 ms or a maximum age other than 0 outside 10 to 1000 ms. -/
def Obligations.EditsWriteTheMarkedFields : Prop :=
  (∀ a : EditLayerArgs,
    let badHole := fun h : Nat × Nat => h.1 ≠ 0xFFFF ∧ (h.2 = 0 ∨ 384 < h.2 ∨ 383 < h.1 ∨ 384 < h.1 + h.2)
    let hole := fun h : Nat × Nat => if h.1 = 0xFFFF then none else some (⟨h.1, h.2⟩ : LampRange)
    (edit? a = none ↔
      (∃ n, a.span = some n ∧ 1 < n) ∨ (∃ h, a.holes = some h ∧ (badHole h.1 ∨ badHole h.2)) ∨
      (∃ n, a.blend = some n ∧ 3 < n) ∨ (∃ r, a.qual = some r ∧ r.1 ≠ 0xFF ∧ (31 < r.1 ∨ 1 < r.2)) ∨
      (∃ n, a.source = some (.pattern n) ∧ 15 < n) ∨ ∃ k, a.source = some (.unknown k)) ∧
    ∀ e : Edit, edit? a = some e →
      e.zones = a.zones.map (BitVec.ofNat 32) ∧ e.opacity = a.opacity ∧ e.level = a.level ∧
      e.offset = a.offset.map (fun n => (BitVec.ofNat 16 n).toInt) ∧
      e.fadeIn = a.fadeIn.map (min 10000) ∧ e.fadeOut = a.fadeOut.map (min 10000) ∧
      (∀ n, a.span = some n → e.span = spanMode? n) ∧ (∀ n, a.blend = some n → e.blend = blend? n) ∧
      (∀ r, a.qual = some r → e.qual = flagRef? r.1 r.2) ∧
      e.holes = a.holes.map (fun h => (hole h.1, hole h.2)) ∧ e.source = a.source ∧
      (e.span.isSome = a.span.isSome ∧ e.blend.isSome = a.blend.isSome ∧ e.qual.isSome = a.qual.isSome) ∧
      (e.clamped = true ↔ (∃ n, a.fadeIn = some n ∧ 10000 < n) ∨ (∃ n, a.fadeOut = some n ∧ 10000 < n) ∨
        ∃ n, a.source = some (.stream n) ∧ n ≠ 0 ∧ (n < 10 ∨ 1000 < n))) ∧
  (∀ (o : Origin) (s : State) (rq : Intake), Takes s o .editLayer rq → Running s →
    (15 < byteAt rq.data 2 ∨ 2048 ≤ leAt rq.data 3 2 → exec (.editLayer o) s = .next (turnedAway s o rq .badValue)) ∧
    ∀ i : LayerNo, byteAt rq.data 2 = i.val → leAt rq.data 3 2 < 2048 →
      (s.lt.layers[i].state = .free ∨ s.lt.layers[i].owner ≠ some o →
        exec (.editLayer o) s = .next (turnedAway s o rq .notOwner)) ∧
      (s.lt.layers[i].state ≠ .free → s.lt.layers[i].owner = some o → edit? (editLayerArgs rq.data) = none →
        exec (.editLayer o) s = .next (turnedAway s o rq .badValue))) ∧
  ∀ (o : Origin) (s : State) (rq : Intake) (i : LayerNo) (e : Edit), Takes s o .editLayer rq → Running s →
    StreamsSound s → byteAt rq.data 2 = i.val → leAt rq.data 3 2 < 2048 →
    let l := s.lt.layers[i]
    let copied := l.copy.getD ⟨l.ed, l.detached, l.state == .shown⟩
    l.state ≠ .free → l.owner = some o → edit? (editLayerArgs rq.data) = some e →
    ((∃ (set : BitVec 32) (z : ZoneNo), e.zones = some set ∧ set.getLsbD z.val = true ∧ s.co.zones[z] = none) →
      exec (.editLayer o) s = .next (turnedAway s o rq .badValue)) ∧
    ((∀ (set : BitVec 32) (z : ZoneNo), e.zones = some set → set.getLsbD z.val = true → s.co.zones[z].isSome = true) →
      ((∃ (set : BitVec 32) (z : ZoneNo), e.zones = some set ∧ set.getLsbD z.val = true ∧ s.targetable o z = false) →
        exec (.editLayer o) s = .next (turnedAway s o rq .noRight)) ∧
      ((∀ (set : BitVec 32) (z : ZoneNo), e.zones = some set → set.getLsbD z.val = true → s.targetable o z = true) →
        ((∃ n : SlotNo, e.source = some (.pattern n.val) ∧ s.ss.slots[n] = none) →
          exec (.editLayer o) s = .next (turnedAway s o rq .badValue)) ∧
        (setsStream e = true → (∀ q : QueueNo, ∃ j, s.ss.queues[q].bound = some j ∧ j ≠ i) →
          exec (.editLayer o) s = .next (turnedAway s o rq .noRoom)) ∧
        ((∀ n : SlotNo, e.source = some (.pattern n.val) → s.ss.slots[n].isSome = true) → ∀ q : QueueNo,
          (setsStream e = true →
            s.ss.queues[q].bound = some i ∨ (∀ p : QueueNo, s.ss.queues[p].bound ≠ some i) ∧
              s.ss.queues[q].bound = none ∧ ∀ p : QueueNo, p < q → s.ss.queues[p].bound ≠ none) →
          let sourceFrom := fun old : Source => match e.source with
            | some (.solid col) => .solid col
            | some (.pattern n) => .pattern (Fin.ofNat 16 n)
            | some (.stream age) => .stream q (if age = 0 then 200 else max 10 (min 1000 age))
            | _ => old
          let written := fun ed : Editable =>
            ({ zones := e.zones.getD ed.zones
               span := e.span.getD ed.span
               hole1 := (e.holes.map (·.1)).getD ed.hole1
               hole2 := (e.holes.map (·.2)).getD ed.hole2
               blend := e.blend.getD ed.blend
               opacity := e.opacity.getD ed.opacity
               qual := e.qual.getD ed.qual
               source := sourceFrom ed.source
               level := e.level.getD ed.level
               offset := e.offset.getD ed.offset
               fadeIn := e.fadeIn.getD ed.fadeIn
               fadeOut := e.fadeOut.getD ed.fadeOut } : Editable)
          ∃ (l' : Layer) (queues : Vector StreamQueue 2) (held : Byte),
            exec (.editLayer o) s = .next (served
              { s with lt := { s.lt with layers := setAt s.lt.layers i l' }, ss := { s.ss with queues := queues } }
              o rq .done e.clamped false [held]) ∧
            (s.gate o = .opened →
              l' = { l with ed := written l.ed, detached := l.detached && e.source.isNone }) ∧
            (let c : Staged := { copied with ed := written copied.ed, detached := copied.detached && e.source.isNone }
             s.gate o ≠ .opened → l' = { l with copy := some c }) ∧
            (∀ p : QueueNo, queues[p] =
              if s.ss.queues[p].bound = some i then
                (if usesStream l' = true then s.ss.queues[p] else ⟨none, none, [], none, false⟩)
              else if p = q ∧ setsStream e = true then
                (if ∃ p : QueueNo, s.ss.queues[p].bound = some i then s.ss.queues[p] else ⟨some i, none, [], none, false⟩)
              else s.ss.queues[p]) ∧
            (∀ p : QueueNo, queues[p].bound = some i → held = oneByte p.val) ∧
            ((∀ p : QueueNo, queues[p].bound ≠ some i) → held = 0xFF))))

/-- R32, R34, R36: GATE_CLOSE shuts the requester's gate for a timeout brought into 20 to 2000 ms, 0 selecting 250, and leaves
a CLOSED gate as it is (its reply there without CLAMPED whatever the timeout, the model's choice, log entry 21); GATE_OPEN makes a CLOSED gate OPENING and changes no other. At the deadline of a CLOSED gate the
origin's staged copies are discarded, queues that no source holds any more are freed, the gate is OPEN and GATE_EXPIRED is
queued; before it nothing happens. -/
def Obligations.GatesCloseOpenAndExpire : Prop :=
  (∀ (o : Origin) (s : State) (rq : Intake), Running s →
    (Takes s o .gateClose rq →
      let timeout := leAt rq.data 2 2
      let ms := if timeout = 0 then 250 else max 20 (min 2000 timeout)
      ((∃ d, s.gate o = .closed d) → exec (.gateClose o) s = .next (served s o rq .done false false [])) ∧
      ((∀ d, s.gate o ≠ .closed d) → exec (.gateClose o) s = .next (served
        (s.setGate o (.closed (s.sc.local' + BitVec.ofNat 48 (ms * 1000)))) o rq .done
        (decide (timeout ≠ 0 ∧ (timeout < 20 ∨ 2000 < timeout))) false []))) ∧
    (Takes s o .gateOpen rq →
      ((∃ d, s.gate o = .closed d) →
        exec (.gateOpen o) s = .next (served (s.setGate o .opening) o rq .done false false [])) ∧
      ((∀ d, s.gate o ≠ .closed d) → exec (.gateOpen o) s = .next (served s o rq .done false false [])))) ∧
  ∀ (o : Origin) (s : State), s.ps.resetHeld = false →
    ((∀ d, s.gate o ≠ .closed d) → exec (.gateExpiry o) s = .next s) ∧
    ∀ d, s.gate o = .closed d →
      ((s.sc.local' - d).toInt < 0 → exec (.gateExpiry o) s = .next s) ∧
      (0 ≤ (s.sc.local' - d).toInt → ∀ (ls : Vector Layer 16) (queues : Vector StreamQueue 2),
        (∀ i : LayerNo, ls[i] =
          if s.lt.layers[i].owner = some o then { s.lt.layers[i] with copy := none } else s.lt.layers[i]) →
        (∀ q : QueueNo, queues[q] = match s.ss.queues[q].bound with
          | none => s.ss.queues[q]
          | some l => if usesStream ls[l] = true then s.ss.queues[q] else ⟨none, none, [], none, false⟩) →
        exec (.gateExpiry o) s = .next
          ((State.setGate { s with lt := { s.lt with layers := ls }, ss := { s.ss with queues := queues } } o
            .opened).notify o .gateExpired))

/-- R99, R100: a START_CUE of the owner or SERVICE for a start time within the window schedules the cue, its queue entry
standing right after the last entry that starts no later (the model's choice where queued start times span more than 2^47 us and
have no order by start time, log entry 20), and reports a run that it ends; a 17th entry is refused NO_ROOM. R110:
STOP_CUE drops a scheduled start, begins a release or ends the run, by the cue's state. R111, R112: at the latest frame start
a release that has run out, and a run whose loop count is satisfied, end, the layer following the end behaviour. (The start
forms' bytes are the model's reading, log entry 10; the rows of the two ends, log entry 6; a run's elapsed time below 0 is taken
as 0, the model's choice, log entry 23.) -/
def Obligations.CuesStartStopAndEnd : Prop :=
  (∀ (e : StartEntry) (q : List StartEntry), ∃ before after, q = before ++ after ∧
    insertEntry e q = before ++ e :: after ∧ (∀ x ∈ after, 0 < (x.start - e.start).toInt) ∧
    ∀ x, before.getLast? = some x → (x.start - e.start).toInt ≤ 0) ∧
  (∀ (o : Origin) (s : State) (rq : Intake) (c : CueNo) (cue : Cue), Running s → byteAt rq.data 2 = c.val →
    s.ce.cues[c] = some cue →
    (Takes s o .startCue rq → ∀ (start : Time) (clamped : Bool),
      (byteAt rq.data 3 = 0 ∧ start = BitVec.ofNat 48 (leAt rq.data 4 6) ∧ clamped = false ∨
        byteAt rq.data 3 = 1 ∧ start = rq.stamp + BitVec.ofNat 48 (min 60000 (leAt rq.data 4 4) * 1000) ∧
          clamped = decide (60000 < leAt rq.data 4 4) ∨
        byteAt rq.data 3 = 2 ∧ start = rq.stamp ∧ clamped = false) →
      let ahead := (start - s.sc.scene).toInt
      let inWindow := byteAt rq.data 3 = 0 → -1000000 ≤ ahead ∧ ahead ≤ 60000000
      (o ≠ cue.owner → o ≠ .service → exec (.startCue o) s = .next (turnedAway s o rq .notOwner)) ∧
      (o = cue.owner ∨ o = .service →
        (¬inWindow → exec (.startCue o) s = .next (turnedAway s o rq .badValue)) ∧
        (inWindow → 16 ≤ s.ce.queue.length → cue.run ≠ .scheduled →
          exec (.startCue o) s = .next (turnedAway s o rq .noRoom)) ∧
        (inWindow → s.ce.queue.length < 16 ∨ cue.run = .scheduled →
          let s1 := served
            { s with ce := { s.ce with cues := setAt s.ce.cues c (some { cue with run := .scheduled })
                                       queue := insertEntry ⟨c, start, o⟩ (s.ce.queue.filter (·.cue != c)) } }
            o rq .done clamped (decide (cue.run = .scheduled)) (timeBytes start)
          exec (.startCue o) s =
            .next (if cue.run.active = true then s1.notify cue.owner (.cueEnded c cue.layer .stopped) else s1)))) ∧
    (Takes s o .stopCue rq →
      (o ≠ cue.owner → o ≠ .service → exec (.stopCue o) s = .next (turnedAway s o rq .notOwner)) ∧
      (o = cue.owner ∨ o = .service →
        let ended := fun s1 : State =>
          (s1.setCue c (some { cue with run := .ready })).notify cue.owner (.cueEnded c cue.layer .stopped)
        (cue.run = .ready → exec (.stopCue o) s = .next (served s o rq .done false false [1])) ∧
        (cue.run = .scheduled → exec (.stopCue o) s = .next (ended (served
          { s with ce := { s.ce with queue := s.ce.queue.filter (·.cue != c) } } o rq .done false false [1]))) ∧
        (∀ start latest, cue.run = .running start latest →
          (cue.release = 0 → exec (.stopCue o) s = .next (ended (served s o rq .done false false [1]))) ∧
          (0 < cue.release → exec (.stopCue o) s = .next (served
            (s.setCue c (some { cue with run := .releasing start s.sc.scene latest })) o rq .done false false [4]))) ∧
        ∀ start rel frozen, cue.run = .releasing start rel frozen →
          exec (.stopCue o) s = .next (ended (served s o rq .done false false [1]))))) ∧
  ∀ (s : State) (c : CueNo) (cue : Cue) (m : FrameMark), s.ps.resetHeld = false → s.sc.lastFrame = some m →
    s.ce.cues[c] = some cue →
    let l := s.lt.layers[cue.layer]
    (∀ start latest, cue.run = .running start latest →
      let e := ((m.frameTime - start).toInt / 1000).toNat
      let l' : Layer :=
        if l.state = .free then l
        else match cue.ending with
          | .hold => { l with ed := s.heldFields cue l.ed }
          | .restore => l
          | .hide => { l with state := .held }
      exec (.cueReleaseEnd c) s = .next s ∧
      (cue.loops = 0 ∨ e / cue.duration < cue.loops → exec (.cueNaturalEnd c) s = .next s) ∧
      (cue.loops ≠ 0 → cue.loops ≤ e / cue.duration → exec (.cueNaturalEnd c) s = .next
        (((s.setLayer cue.layer l').setCue c (some { cue with run := .ready })).notify cue.owner
          (.cueEnded c cue.layer .finished)))) ∧
    ∀ start rel frozen, cue.run = .releasing start rel frozen →
      let e := (m.frameTime - rel).toInt / 1000
      exec (.cueNaturalEnd c) s = .next s ∧
      (e < cue.release → exec (.cueReleaseEnd c) s = .next s) ∧
      (cue.release ≤ e → exec (.cueReleaseEnd c) s = .next
        ((s.setCue c (some { cue with run := .ready })).notify cue.owner (.cueEnded c cue.layer .stopped)))

/-- R49, R50: a STREAM_FRAME of the layer's owner, of 1 to 16 entries, shown at most 2 s after its stamp and later than every
frame of the layer's queue, joins the queue last, the earliest dropped when 4 are pending, and refreshes the last acceptance;
any other is discarded; neither has a reply. R52: at the frame start that is due, a bound queue left with no current frame, or
whose last acceptance lies more than its layer's maximum age back, is stale: STREAM_STALE marks it so, and at any other time
nothing happens (the row, log entry 6). -/
def Obligations.StreamFramesAreJudged : Prop :=
  (∀ (o : Origin) (s : State) (rq : Intake) (i : LayerNo) (q : QueueNo), Takes s o .streamFrame rq → Running s →
    StreamsSound s → byteAt rq.data 2 = i.val → s.ss.queues[q].bound = some i →
    let x := s.ss.queues[q]
    let shows := BitVec.ofNat 48 (leAt rq.data 3 6)
    let count := byteAt rq.data 9
    let popped := s.setPort o { s.port o with intake := (s.port o).intake.tail }
    let good := s.lt.layers[i].state ≠ .free ∧ s.lt.layers[i].owner = some o ∧ 1 ≤ count ∧ count ≤ 16 ∧
      (shows - rq.stamp).toInt ≤ 2000000 ∧ (∀ f, x.current = some f → 0 < (shows - f.show').toInt) ∧
      ∀ f ∈ x.pending, 0 < (shows - f.show').toInt
    (¬good → exec (.streamFrame o) s = .next popped) ∧
    (good → ∃ f : StreamFrame, f.show' = shows ∧ f.entries.length = count ∧
      (∀ k, k < count → f.entries[k]? =
        some ⟨byteAt rq.data (10 + 3 * k), byteAt rq.data (11 + 3 * k), byteAt rq.data (12 + 3 * k)⟩) ∧
      exec (.streamFrame o) s = .next (popped.setQueue q
        { x with pending := (if x.pending.length < 4 then x.pending else x.pending.tail) ++ [f]
                 last := some s.sc.local' }))) ∧
  (∀ (o : Origin) (s : State) (rq : Intake), Takes s o .streamFrame rq →
    (∀ (i : LayerNo) (q : QueueNo), byteAt rq.data 2 = i.val → s.ss.queues[q].bound ≠ some i) →
    exec (.streamFrame o) s = .next (s.setPort o { s.port o with intake := (s.port o).intake.tail })) ∧
  ∀ (s : State) (q : QueueNo), s.ps.resetHeld = false →
    ((∀ tf, ¬FrameDue s tf) → exec (.streamStale q) s = .next s) ∧
    ∀ tf, FrameDue s tf →
      let t := s.frameStart tf
      let x := t.ss.queues[q]
      let stale := ∃ i, x.bound = some i ∧ (x.current = none ∨ ∃ last p age, x.last = some last ∧
        t.lt.layers[i].ed.source = .stream p age ∧ age * 1000 < (s.sc.local' - last).toNat)
      (stale → exec (.streamStale q) s = .next (s.setQueue q { s.ss.queues[q] with stale := true })) ∧
      (¬stale → exec (.streamStale q) s = .next s)

/-! ## Holds, flags, events and lines -/

/-- R139, R142, R143: a HOLD_ZONE for a zone that the requester can target, at a tier it may use, takes a free zone, changes
its own hold, or takes over a hold of a lower tier with HOLD_LOST to its former holder; a hold of another at an equal or
higher tier is ZONE_HELD. R144: RELEASE_ZONE leaves a zone of the requester's with no holder. -/
def Obligations.ZonesAreHeldAndReleased : Prop :=
  (∀ (o : Origin) (s : State) (z : ZoneNo), s.targetable o z = true ↔
    s.co.zones[z].isSome = true ∧ ∀ lam : LampNo, inZone s.co.zones z lam = true →
      ∃ k : Fin 4, (s.originRec o).windows[k].enabled = true ∧ (s.originRec o).windows[k].first ≤ lam.val ∧
        lam.val ≤ (s.originRec o).windows[k].last) ∧
  ∀ (o : Origin) (s : State) (rq : Intake),
    (Takes s o .holdZone rq →
      (s.ps.state = .setup → exec (.holdZone o) s = .next (turnedAway s o rq .wrongState)) ∧
      (s.ps.state ≠ .setup → 31 < byteAt rq.data 2 ∨ 5 < byteAt rq.data 3 →
        exec (.holdZone o) s = .next (turnedAway s o rq .badValue)) ∧
      (s.ps.state ≠ .setup → ∀ (z : ZoneNo) (tier : Tier), byteAt rq.data 2 = z.val → byteAt rq.data 3 = tier.val →
        (s.targetable o z = false ∨ (s.originRec o).maxTier < tier →
          exec (.holdZone o) s = .next (turnedAway s o rq .noRight)) ∧
        (s.targetable o z = true → tier ≤ (s.originRec o).maxTier →
          (s.ot.holds[z] = none → exec (.holdZone o) s = .next
            (served (s.setHold z (some ⟨o, tier⟩)) o rq .done false false [originByte o, oneByte tier.val, 0xFF])) ∧
          ∀ h, s.ot.holds[z] = some h →
            (h.holder = o → exec (.holdZone o) s = .next
              (served (s.setHold z (some ⟨o, tier⟩)) o rq .done false false [originByte o, oneByte tier.val, 0xFF])) ∧
            (h.holder ≠ o → h.tier < tier → exec (.holdZone o) s = .next
              ((served (s.setHold z (some ⟨o, tier⟩)) o rq .done false false
                [originByte o, oneByte tier.val, originByte h.holder]).notify h.holder (.holdLost z o tier))) ∧
            (h.holder ≠ o → tier ≤ h.tier → exec (.holdZone o) s = .next
              (served s o rq .zoneHeld false false [originByte h.holder, oneByte h.tier.val, 0xFF]))))) ∧
    (Takes s o .releaseZone rq →
      (s.ps.state = .setup → exec (.releaseZone o) s = .next (turnedAway s o rq .wrongState)) ∧
      (s.ps.state ≠ .setup → 31 < byteAt rq.data 2 →
        exec (.releaseZone o) s = .next (turnedAway s o rq .badValue)) ∧
      (s.ps.state ≠ .setup → ∀ z : ZoneNo, byteAt rq.data 2 = z.val →
        ((∀ tier, s.ot.holds[z] ≠ some ⟨o, tier⟩) → exec (.releaseZone o) s = .next (turnedAway s o rq .notOwner)) ∧
        ∀ tier, s.ot.holds[z] = some ⟨o, tier⟩ →
          exec (.releaseZone o) s = .next (served (s.setHold z none) o rq .done false false [])))

/-- R126: SET_FLAGS writes the marked flags together, all of which must be the requester's, and reports all 32; with no marks
it only reports, in SETUP too. R123, R132, R133: a TRIGGER code below F0h fires the entries whose pattern and qualifier hold,
settled before any acts, in ascending number, and is then reported TRIGGER_SEEN to every subscriber; so is every code that is
matched. R101: in RUN and SETTLING an action START schedules its cue for the stamp, for the entry's owner, unless the start queue
is full; STOP stops it as STOP_CUE does; TOGGLE starts a READY cue and stops any other; an EMPTY cue, and any cue in another part
state, is left alone. -/
def Obligations.FlagsAreWrittenAndCodesMatched : Prop :=
  (∀ (s : State) (src : CodeSource) (code : Byte) (stamp : Time),
    let fires := fun e : BindEntry => decide (code &&& e.mask = e.code) &&
      e.qual.all fun r => flagValue s.tu.flags r.flag == (r.sense == .set)
    let fired := s.tu.binds.toList.filterMap fun e => e.filter fires
    s.matchCode src code stamp = (fired.foldl (fun t e => t.act e stamp) s).notifyAll
      (.triggerSeen src code stamp true fired.length)) ∧
  (∀ (s : State) (e : BindEntry) (stamp : Time),
    (¬Running s ∨ s.ce.cues[e.cue] = none → s.act e stamp = s) ∧
    ∀ cue, Running s → s.ce.cues[e.cue] = some cue →
      let ready := fun u : State => u.setCue e.cue (some { cue with run := .ready })
      let rest := s.ce.queue.filter (·.cue != e.cue)
      let tell := fun u : State => u.notify cue.owner (.cueEnded e.cue cue.layer .stopped)
      let starts := fun u : State =>
        (16 ≤ s.ce.queue.length → cue.run ≠ .scheduled → u = s) ∧
        (s.ce.queue.length < 16 ∨ cue.run = .scheduled →
          let s1 := { s with ce := { s.ce with cues := setAt s.ce.cues e.cue (some { cue with run := .scheduled })
                                               queue := insertEntry ⟨e.cue, stamp, e.owner⟩ rest } }
          u = if cue.run.active = true then tell s1 else s1)
      let stops := fun u : State =>
        (cue.run = .ready → u = s) ∧ (cue.run = .scheduled → u = tell (ready (s.setStartQueue rest))) ∧
        (∀ start latest, cue.run = .running start latest →
          (cue.release = 0 → u = tell (ready s)) ∧
          (0 < cue.release → u = s.setCue e.cue (some { cue with run := .releasing start s.sc.scene latest }))) ∧
        ∀ start rel frozen, cue.run = .releasing start rel frozen → u = tell (ready s)
      (e.action = .start → starts (s.act e stamp)) ∧ (e.action = .stop → stops (s.act e stamp)) ∧
      (e.action = .toggle → cue.run = .ready → starts (s.act e stamp)) ∧
      (e.action = .toggle → cue.run ≠ .ready → stops (s.act e stamp))) ∧
  ∀ (o : Origin) (s : State) (rq : Intake),
    (Takes s o .setFlags rq →
      let mask := BitVec.ofNat 32 (leAt rq.data 2 4)
      let values := BitVec.ofNat 32 (leAt rq.data 6 4)
      let own := ∀ f : FlagNo, mask.getLsbD f.val = true → s.tu.writers[f] = .origin o
      (s.ps.state ≠ .setup ∨ mask = 0 → ¬own → exec (.setFlags o) s = .next (turnedAway s o rq .notOwner)) ∧
      (s.ps.state ≠ .setup ∨ mask = 0 → own → ∃ flags : BitVec 32,
        exec (.setFlags o) s = .next (served { s with tu := { s.tu with flags := flags } } o rq .done false false
          (leBytes 4 flags.toNat)) ∧
        ∀ f : FlagNo, flags.getLsbD f.val =
          if mask.getLsbD f.val = true then values.getLsbD f.val else s.tu.flags.getLsbD f.val)) ∧
    (Takes s o .trigger rq → Running s →
      (0xF0 ≤ byteAt rq.data 2 → exec (.trigger o) s = .next (turnedAway s o rq .badValue)) ∧
      (byteAt rq.data 2 < 0xF0 →
        let code := oneByte (byteAt rq.data 2)
        ∃ fired : List BindEntry,
          (∀ e, e ∈ fired ↔ ∃ i : BindNo, s.tu.binds[i] = some e ∧ code &&& e.mask = e.code ∧
            ∀ r, e.qual = some r → flagValue s.tu.flags r.flag = (r.sense == .set)) ∧
          (fired.Sublist (s.tu.binds.toList.filterMap id)) ∧
          exec (.trigger o) s = .next
            ((fired.foldl (fun t e => t.act e rq.stamp) (served s o rq .done false false [oneByte fired.length])).notifyAll
              (.triggerSeen (.origin o) code rq.stamp true fired.length))))

/-- R118 to R121, R124, R192: a raw change starts or abandons a pending change; one that has stood for its debounce is
accepted: a LEVEL line mirrors it, an edge of the line's mode is stamped with the scene clock and offered to the capture slot
under its policy, and its code is matched in RUN and SETTLING, reported unmatched in SETUP, and in ASLEEP, on a wake line, and
in WAKING joins the wake list, which wakes the part from ASLEEP (for an edge in WAKING on any line, log entry 14). (A level that the pin already has is no change, log entry 19; a pending change
that has not stood its debounce is not accepted, log entry 6.) -/
def Obligations.LineChangesAreDebouncedAndCaptured : Prop :=
  ∀ (t : LineNo) (s : State), s.ps.resetHeld = false →
    let x := s.tu.lines[t]
    (∀ level, level = x.raw → exec (.lineRawChange t level) s = .next s) ∧
    (∀ level, level ≠ x.raw → exec (.lineRawChange t level) s = .next (s.setLineRec t
      { x with raw := level, pendingChange := if level = x.level then none else some ⟨level, s.sc.local'⟩ })) ∧
    (x.pendingChange = none → exec (.lineChangeAccepted t) s = .next s) ∧
    ∀ p, x.pendingChange = some p →
      ((s.sc.local' - p.since).toNat < x.debounce * 1000 → exec (.lineChangeAccepted t) s = .next s) ∧
      (x.debounce * 1000 ≤ (s.sc.local' - p.since).toNat →
        let s1 := s.setLineRec t { x with level := p.level, pendingChange := none }
        let c := s.tu.captures[t]
        let edge : EdgeKind := if p.level = true then .rise else .fall
        let code := oneByte ((if p.level = true then 0xF0 else 0xF8) + t.val)
        let isOne := x.mode = .both ∨ x.mode = .rise ∧ p.level = true ∨ x.mode = .fall ∧ p.level = false
        let takes := c.valid = false ∨ x.policy = .overwrite ∨
          x.policy = .holdTimed ∧ x.window * 1000 < (s.sc.local' - c.fill).toNat
        (x.mode = .level → ∀ f, x.mirror = some f → exec (.lineChangeAccepted t) s = .next
          { s1 with tu := { s1.tu with flags := writeFlag s.tu.flags f p.level } }) ∧
        (x.mode ≠ .level → ¬isOne → exec (.lineChangeAccepted t) s = .next s1) ∧
        (isOne → ∃ s2 : State,
          (takes → s2 = s1.setCapture t
            { c with valid := true, edge := edge, stamp := s.sc.scene, fill := s.sc.local' }) ∧
          (¬takes → s2 = s1.setCapture t { c with missed := true }) ∧
          (Running s → exec (.lineChangeAccepted t) s = .next (s2.matchCode (.line t edge) code s.sc.scene)) ∧
          (s.ps.state = .setup ∨ s.ps.state = .asleep ∧ x.wake = false ∨
              (s.ps.state = .waking ∨ s.ps.state = .asleep ∧ x.wake = true) ∧ 8 ≤ s.tu.wakeList.length →
            ∃ u, exec (.lineChangeAccepted t) s = .next u ∧ { u with ps := s.ps } =
              s2.notifyAll (.triggerSeen (.line t edge) code s.sc.scene false 0)) ∧
          ((s.ps.state = .waking ∨ s.ps.state = .asleep ∧ x.wake = true) → s.tu.wakeList.length < 8 →
            ∃ u, exec (.lineChangeAccepted t) s = .next u ∧ { u with ps := s.ps } =
              { s2 with tu := { s2.tu with wakeList := s.tu.wakeList ++ [⟨code, s.sc.scene, t⟩] } }) ∧
          (∀ u, exec (.lineChangeAccepted t) s = .next u →
            u.ps = if s.ps.state = .asleep ∧ x.wake = true
              then ⟨.waking, s.ps.resetHeld, some s.sc.local'⟩ else s.ps)))

/-! ## Loops and lamp health -/

/-- R149, R151, R153, R155, R156, R157, R163, R165: the end of a burst starts its return's time; a return that comes at most
200 µs later with a good check word discovers 1 to 64 nodes, or, on a RUNNING loop with the right hop count and a status word,
clears the error count and updates the lamp queried; hop count 0 is no nodes, and any other return, or none, fails: at once
for a COUNT, at the third in a row for a REFRESH. A failed loop sends QUIET and holds off. LOOP_FAILED is the judgement that
fails the loop (log entry 6). A return that nothing awaits is ignored. (That a return at exactly 200 us counts, that the timeout
may come in that microsecond too, and that a return before the burst's recorded end is in time, log entry 18.) -/
def Obligations.LoopReturnsAreJudged : Prop :=
  ∀ (l : LoopNo) (s : State), s.ps.resetHeld = false →
    let x := s.lc.loops[l]
    let now := s.sc.local'
    let failed := fun cause : LoopCause => (s.setLoop l
      { x with state := .failed, holdCount := x.holdLen, holdLen := min 64 (2 * x.holdLen), errors := 0,
               showPending := false, claimed := false, await := none, out := [.quiet] }).notifyAll
        (.chainState l cause .failed x.state x.nodes x.nodes)
    let struck := if x.errors < 2 then s.setLoop l { x with errors := x.errors + 1, await := none } else failed .errors
    (x.await = none → exec (.loopBurstEnd l) s = .next s ∧ exec (.loopReturnTimeout l) s = .next s ∧
      ∀ ret, exec (.loopReturnReceived l ret) s = .next s ∧ ∀ ret, exec (.loopFailed l ret) s = .next s) ∧
    ∀ a, x.await = some a →
      (a.ended = none → exec (.loopBurstEnd l) s = .next (s.setLoop l { x with await := some { a with ended := some now } })) ∧
      (a.ended ≠ none → exec (.loopBurstEnd l) s = .next s) ∧
      (a.ended = none ∨ (∃ t, a.ended = some t ∧ (now - t).toNat < 200) →
        exec (.loopReturnTimeout l) s = .next s ∧ exec (.loopFailed l none) s = .next s) ∧
      ((∃ t, a.ended = some t ∧ 200 ≤ (now - t).toNat) →
        (a.kind = .count →
          exec (.loopReturnTimeout l) s = .next (failed .noReturn) ∧ exec (.loopFailed l none) s = .next (failed .noReturn)) ∧
        ∀ q, a.kind = .refresh q → exec (.loopReturnTimeout l) s = .next struck ∧
          exec (.loopFailed l none) s = .next (if x.errors < 2 then s else failed .errors)) ∧
      ∀ ret : LoopReturn,
        let good := ret.checkGood = true ∧ ∀ t, a.ended = some t → (now - t).toNat ≤ 200
        (a.kind = .count → good → 1 ≤ ret.hops → ret.hops ≤ 64 →
          exec (.loopFailed l (some ret)) s = .next s ∧
          exec (.loopReturnReceived l ret) s = .next ((s.setLoop l
            { x with state := .running, nodes := ret.hops, query := 0, errors := 0, quietCount := 0, showPending := false,
                     holdLen := 8, await := none }).notifyAll
              (.chainState l .discovered .running x.state ret.hops x.nodes))) ∧
        (a.kind = .count → good → ret.hops = 0 →
          exec (.loopReturnReceived l ret) s = .next (failed .noNodes) ∧
          exec (.loopFailed l (some ret)) s = .next (failed .noNodes)) ∧
        (a.kind = .count → ¬good ∨ 64 < ret.hops →
          exec (.loopReturnReceived l ret) s = .next (failed .noReturn) ∧
          exec (.loopFailed l (some ret)) s = .next (failed .noReturn)) ∧
        ∀ q, a.kind = .refresh q →
          (¬good ∨ ret.hops ≠ x.nodes ∨ ret.status = none →
            exec (.loopReturnReceived l ret) s = .next struck ∧
            exec (.loopFailed l (some ret)) s = .next (if x.errors < 2 then s else failed .errors)) ∧
          ∀ (st : StatusWord) (k : Fin 64), good → ret.hops = x.nodes → ret.status = some st → q = k.val →
            let lam := lampAt l k
            let h := s.lc.health[lam]
            let short : ColourMask := ⟨h.shortMask.r || st.shortMarks.r, h.shortMask.g || st.shortMarks.g,
              h.shortMask.b || st.shortMarks.b⟩
            let temp := max (-40) (min 150 st.temp)
            let s1 := (s.setLoop l { x with errors := 0, await := none }).setHealth lam ⟨st.openMarks, short, temp, true⟩
            exec (.loopFailed l (some ret)) s = .next s ∧
            exec (.loopReturnReceived l ret) s = .next
              (if st.openMarks = h.openMask ∧ short = h.shortMask then s1
                else s1.notifyAll (.lampFault lam st.openMarks short temp))

/-- R164: CLEAR_HEALTH, from SERVICE alone, removes the SHORT marks of a range of lamps and nothing else, and reports how many
of them held one. -/
def Obligations.HealthIsClearedByService : Prop :=
  ∀ (o : Origin) (s : State) (rq : Intake), Takes s o .clearHealth rq →
    let first := leAt rq.data 2 2
    let count := leAt rq.data 4 2
    (o ≠ .service → exec (.clearHealth o) s = .next (turnedAway s o rq .noRight)) ∧
    (o = .service → count = 0 ∨ 384 < count ∨ 383 < first ∨ 384 < first + count →
      exec (.clearHealth o) s = .next (turnedAway s o rq .badValue)) ∧
    (o = .service → 1 ≤ count → first + count ≤ 384 → ∃ health : Vector Health 384,
      exec (.clearHealth o) s = .next (served { s with lc := { s.lc with health := health } } o rq .done false false
        (leBytes 2 ((List.finRange 384).countP fun lam =>
          decide (first ≤ lam.val ∧ lam.val < first + count) && s.lc.health[lam].shortMask != ⟨false, false, false⟩))) ∧
      ∀ lam : LampNo, health[lam] =
        if first ≤ lam.val ∧ lam.val < first + count then { s.lc.health[lam] with shortMask := ⟨false, false, false⟩ }
        else s.lc.health[lam])

/-! ## Teardown, sleep, wake and the resets -/

/-- R146, R147, R148: FORGET, from the origin itself or SERVICE, frees the origin's layers with their stream queues, empties its
cues and takes the starts it scheduled for others from the queue, each end reported FORGOTTEN to the cue's owner, deletes its
slots, unmakes its bind entries, releases its zones, clears its flags and its mask, opens its gate, and reports the five counts
as they stood; a compose in flight will settle no void flag for the freed layers. Another origin's layer changes in the detached
marks of what names a deleted slot alone; everything else stands. -/
def Obligations.ForgetTearsDownAnOrigin : Prop :=
  (∀ (o : Origin) (s : State) (rq : Intake), Takes s o .forget rq → 3 < byteAt rq.data 2 →
    exec (.forget o) s = .next (turnedAway s o rq .badValue)) ∧
  ∀ (o q : Origin) (s : State) (rq : Intake), Takes s o .forget rq → byteAt rq.data 2 = q.idx.val →
    (o ≠ q → o ≠ .service → exec (.forget o) s = .next (turnedAway s o rq .notOwner)) ∧
    (o = q ∨ o = .service → LayersSound s → StreamsSound s → CuesSound s → ∃ t, exec (.forget o) s = .next t ∧
      t = { s with mp := { s.mp with ports := t.mp.ports }
                   ot := { s.ot with holds := t.ot.holds }
                   tu := { s.tu with flags := t.tu.flags, binds := t.tu.binds }
                   ce := { s.ce with cues := t.ce.cues, queue := t.ce.queue }
                   lt := t.lt
                   ss := { s.ss with slots := t.ss.slots, queues := t.ss.queues }
                   co := { s.co with inFlight := t.co.inFlight } } ∧
      (let lost := fun src : Source => match src with
        | .pattern n => s.ss.slots[n].any fun x => x.owner == q
        | _ => false
      ∀ i : LayerNo, let l := s.lt.layers[i]
        t.lt.layers[i] = if l.owner = some q then Layer.freed
          else { l with detached := l.detached || lost l.ed.source
                        copy := l.copy.map fun c => { c with detached := c.detached || lost c.ed.source } }) ∧
      (∀ p, t.gate p = if p = q then .opened else s.gate p) ∧
      (∀ k : QueueNo, t.ss.queues[k] =
        if ∃ i, s.ss.queues[k].bound = some i ∧ s.lt.layers[i].owner = some q then ⟨none, none, [], none, false⟩
        else s.ss.queues[k]) ∧
      (∃ m : BitVec 16, (∀ i : LayerNo, m.getLsbD i.val = true ↔ s.lt.layers[i].owner = some q) ∧
        t.co.inFlight = s.co.inFlight.map fun c => { c with gone := c.gone ||| m }) ∧
      (∀ c : CueNo, (∀ cue, s.ce.cues[c] = some cue → cue.owner = q → t.ce.cues[c] = none) ∧
        (∀ cue, s.ce.cues[c] = some cue → cue.owner ≠ q → t.ce.cues[c] = some
          { cue with run := if ∃ e ∈ s.ce.queue, e.cue = c ∧ e.scheduler = q then .ready else cue.run }) ∧
        (s.ce.cues[c] = none → t.ce.cues[c] = none)) ∧
      t.ce.queue = s.ce.queue.filter (fun e => e.scheduler != q && !s.ce.cues[e.cue].any fun cue => cue.owner == q) ∧
      (∀ n : SlotNo, t.ss.slots[n] = s.ss.slots[n].filter fun x => x.owner != q) ∧
      (∀ i : BindNo, t.tu.binds[i] = s.tu.binds[i].filter fun e => e.owner != q) ∧
      (∀ z : ZoneNo, t.ot.holds[z] = s.ot.holds[z].filter fun h => h.holder != q) ∧
      (∀ f : FlagNo, t.tu.flags.getLsbD f.val = (s.tu.flags.getLsbD f.val && s.tu.writers[f] != .origin q)) ∧
      let counts : List Byte :=
        [oneByte (s.heldCount q), oneByte (s.ce.cues.toList.countP fun c => c.any fun c => c.owner == q),
         oneByte (s.ss.slots.toList.countP fun x => x.any fun x => x.owner == q),
         oneByte (s.tu.binds.toList.countP fun e => e.any fun e => e.owner == q),
         oneByte (s.ot.holds.toList.countP fun h => h.any fun h => h.holder == q)]
      let told := endsTold s.ce.cues
        (fun c cue => if cue.owner = q then cue.run != .ready else s.ce.queue.any fun e => e.cue == c && e.scheduler == q)
        .forgotten (served s o rq .done false false counts)
      ∀ p, t.port p = if p = q then { told.port p with mask := 0 } else told.port p)

/-- R188, R189, R190: BODY and SERVICE take the part from SETUP to RUN, and from RUN back to SETUP with every cue ended STOPPED,
every gate OPEN, every layer FREE, its stream queue with it, and every hold released; a compose in flight will settle no void
flag for the freed layers; neither is taken in SETTLING, and in the state it asks for it changes nothing. BODY's SLEEP takes RUN
to SETTLING unless an ALERT layer has presence. -/
def Obligations.PartStateRequestsMoveThePart : Prop :=
  ∀ (o : Origin) (s : State) (rq : Intake),
    (Takes s o .enterRun rq →
      (¬Configures o → exec (.enterRun o) s = .next (turnedAway s o rq .noRight)) ∧
      (Configures o → s.ps.state = .settling → exec (.enterRun o) s = .next (turnedAway s o rq .wrongState)) ∧
      (Configures o → s.ps.state = .run → exec (.enterRun o) s = .next (served s o rq .done false false [])) ∧
      (Configures o → s.ps.state = .setup → exec (.enterRun o) s = .next
        (served { s with ps := { s.ps with state := .run } } o rq .done false false []))) ∧
    (Takes s o .enterSetup rq →
      (¬Configures o → exec (.enterSetup o) s = .next (turnedAway s o rq .noRight)) ∧
      (Configures o → s.ps.state = .settling → exec (.enterSetup o) s = .next (turnedAway s o rq .wrongState)) ∧
      (Configures o → s.ps.state = .setup → exec (.enterSetup o) s = .next (served s o rq .done false false [])) ∧
      (Configures o → s.ps.state = .run → LayersSound s →
        ∀ (cues : Vector (Option Cue) 24) (queues : Vector StreamQueue 2) (m : BitVec 16),
        (∀ c : CueNo, cues[c] = s.ce.cues[c].map fun cue => { cue with run := .ready }) →
        (∀ q : QueueNo, queues[q] =
          if s.ss.queues[q].bound = none then s.ss.queues[q] else ⟨none, none, [], none, false⟩) →
        (∀ i : LayerNo, m.getLsbD i.val = true ↔ s.lt.layers[i].state ≠ .free) →
        exec (.enterSetup o) s = .next
          { s with ps := { s.ps with state := .setup }
                   mp := (endsTold s.ce.cues (fun _ cue => cue.run != .ready) .stopped
                     (served s o rq .done false false [])).mp
                   ot := { s.ot with holds := Vector.replicate 32 none }
                   ce := { s.ce with cues := cues, queue := [] }
                   lt := ⟨Vector.replicate 16 Layer.freed, Vector.replicate 4 .opened⟩
                   ss := { s.ss with queues := queues }
                   co := { s.co with inFlight := s.co.inFlight.map fun c => { c with gone := c.gone ||| m } } })) ∧
    (Takes s o .sleep rq →
      let alert := ∃ i : LayerNo, s.lt.layers[i].tier = 4 ∧ 0 < s.lt.layers[i].presence
      (o ≠ .body → exec (.sleep o) s = .next (turnedAway s o rq .noRight)) ∧
      (o = .body → s.ps.state ≠ .run → exec (.sleep o) s = .next (turnedAway s o rq .wrongState)) ∧
      (o = .body → s.ps.state = .run → alert → exec (.sleep o) s = .next (turnedAway s o rq .alertActive)) ∧
      (o = .body → s.ps.state = .run → ¬alert → exec (.sleep o) s = .next
        (served { s with ps := { s.ps with state := .settling } } o rq .done false false [])))

/-- R90, R113, R161, R173, R190, R191: once the last compose of SETTLING has completed and no REFRESH return is awaited, the part
falls ASLEEP: cues ended SLEEP, presences 0, stream queues emptied, frame timer stopped, every loop but an OFF one QUIET for
sleep, enabled watches on measure 0. R192: a wake completes in RUN: a loop put to sleep rediscovers, its queried marks cleared,
the pairs of the wake list are matched in order and the list is emptied, and what that leaves takes a frame start with the scene
clock as its frame time. -/
def Obligations.ThePartSettlesSleepsAndWakes : Prop :=
  ∀ s : State, s.ps.resetHeld = false →
    let awaited := ∃ (l : LoopNo) (a : Await) (q : Nat), s.lc.loops[l].await = some a ∧ a.kind = .refresh q
    (s.ps.state ≠ .settling ∨ s.co.inFlight ≠ none ∨ awaited → exec .settle s = .next s) ∧
    (s.ps.state = .settling → s.co.inFlight = none → ¬awaited → ∃ t, exec .settle s = .next t ∧
      t = { s with ps := { s.ps with state := .asleep }
                   sc := { s.sc with nextFrame := none, lastFrame := none }
                   mp := (endsTold s.ce.cues (fun _ cue => cue.run != .ready) .sleep s).mp
                   ce := { s.ce with cues := t.ce.cues, queue := [] }
                   lt := { s.lt with layers := t.lt.layers }
                   ss := { s.ss with queues := t.ss.queues }
                   lc := { s.lc with loops := t.lc.loops }
                   wu := t.wu } ∧
      (∀ c : CueNo, t.ce.cues[c] = s.ce.cues[c].map fun cue => { cue with run := .ready }) ∧
      (∀ i : LayerNo, t.lt.layers[i] = { s.lt.layers[i] with presence := 0 }) ∧
      (∀ q : QueueNo, t.ss.queues[q] = { s.ss.queues[q] with current := none, pending := [], last := none }) ∧
      (∀ l : LoopNo, let x := s.lc.loops[l]
        (x.state = .off → t.lc.loops[l] = x) ∧
        (x.state ≠ .off → t.lc.loops[l] =
          { x with state := .quiet, sleepHold := true, errors := 0, quietCount := 0, showPending := false, claimed := false,
                   await := none, holdCount := if x.state = .failed then 0 else x.holdCount,
                   out := if x.state = .running ∧ x.showPending = true then [.show', .quiet] else [.quiet] })) ∧
      (∀ w : WatchNo, let x := s.wu.watches[w]
        t.wu.watches[w] = { x with hit := if x.enabled = true then watchMatches x 0 else x.hit }) ∧
      (t.wu.sig0 = true ↔ ∃ w : WatchNo, t.wu.watches[w].enabled = true ∧ t.wu.watches[w].hit = true ∧
        t.wu.watches[w].signal = .sig0) ∧
      (t.wu.sig1 = true ↔ ∃ w : WatchNo, t.wu.watches[w].enabled = true ∧ t.wu.watches[w].hit = true ∧
        t.wu.watches[w].signal = .sig1)) ∧
    (s.ps.state ≠ .waking → exec .wakeCompletion s = .next s) ∧
    (s.ps.state = .waking → ∀ (loops : Vector Loop 6) (health : Vector Health 384),
      (∀ l : LoopNo, let x := s.lc.loops[l]
        loops[l] = if x.sleepHold = true then { x with state := .discovering, sleepHold := false, holdLen := 8 } else x) →
      (∀ lam : LampNo, health[lam] = if s.lc.loops[lampLoop lam].sleepHold = true
        then { s.lc.health[lam] with queried := false } else s.lc.health[lam]) →
      let woken : State :=
        { s with ps := ⟨.run, false, none⟩, tu := { s.tu with wakeList := [] }, lc := ⟨loops, health⟩ }
      let matched := s.tu.wakeList.foldl (fun (v : State) w =>
        v.matchCode (.line w.line (if w.code.getLsbD 3 = true then .fall else .rise)) w.code w.stamp) woken
      let t := matched.frameStart s.sc.scene
      exec .wakeCompletion s = .next t ∧
      matched = { woken with mp := { s.mp with ports := matched.mp.ports }
                             ce := { s.ce with cues := matched.ce.cues, queue := matched.ce.queue } } ∧
      t.ps = ⟨.run, false, none⟩ ∧ t.tu = { s.tu with wakeList := [] } ∧
      t.sc = { s.sc with period := s.sc.periodSet
                         nextFrame := some (s.sc.scene + BitVec.ofNat 48 (s.sc.periodSet * 1000))
                         lastFrame := some ⟨s.sc.scene, s.sc.local'⟩ } ∧
      (∃ c, t.co.inFlight = some c ∧ c.frameTime = s.sc.scene ∧ c.began = s.sc.local') ∧
      (∀ l : LoopNo, s.lc.loops[l].sleepHold = true → t.lc.loops[l] =
        { s.lc.loops[l] with state := .discovering, sleepHold := false, holdLen := 8, claimed := false,
                             await := some ⟨.count, s.sc.local', none⟩, out := [.count] }) ∧
      ∀ lam : LampNo, s.lc.loops[lampLoop lam].sleepHold = true →
        t.lc.health[lam] = { s.lc.health[lam] with queried := false })

/-- R162, R163, R187, R193: power-on and the release of the RESET pin put every block at its reset values, in SETUP, the strap
sampled and each line's level taken from its pin; asserting the pin ends the work in progress and holds both clocks at 0 (that
the rest of the state stands until the release is the model's choice, log entry 12). SERVICE's RESTART does the same but keeps
both clocks, the trim, the strap and the health map without its queried marks; its reply enters the emptied queue. (That POWER_ON
leaves the RESET pin not asserted is the model's choice, log entry 13.) -/
def Obligations.ResetsStartThePartAfresh : Prop :=
  (∀ (strap : Fin 8) (raw : BitVec 8) (s : State), ∃ t, exec (.powerOn strap raw) s = .next t ∧
    t = State.fresh strap (fun k => raw.getLsbD k.val) s.pending s.freeCount ∧ t.ps = ⟨.setup, false, none⟩ ∧
    t.mp.strap = strap ∧ (∀ k : LineNo, t.tu.lines[k].level = raw.getLsbD k.val ∧ t.tu.lines[k].raw = raw.getLsbD k.val)) ∧
  (∀ (strap : Fin 8) (s : State), exec (.resetPinRelease strap) s =
    .next (if s.ps.resetHeld = true then State.fresh strap (fun k => s.tu.lines[k].raw) s.pending s.freeCount else s)) ∧
  (∀ (strap : Fin 8) (raw : LineNo → Bool) (pending : List Instr) (n : Nat),
    let t := State.fresh strap raw pending n
    t.pending = pending ∧ t.freeCount = n ∧ t.sc = ⟨0, 0, 0, .add, 0, 10, 10, some 10000, none⟩ ∧
    (∀ o, t.port o = ⟨[], [], .ca, false, false, 0⟩ ∧ t.gate o = .opened) ∧ t.mp.ca = ⟨0, 0⟩ ∧ t.mp.cb = ⟨0, 0⟩ ∧
    t.ot.timeSource = .body ∧ (∀ z : ZoneNo, t.ot.holds[z] = none ∧ t.co.zones[z] = none) ∧
    (∀ o, (t.originRec o).maxTier = (match o with | .body => 3 | .media => 2 | .assist => 4 | .service => 5) ∧
      (t.originRec o).reserve = (match o with | .body => 2 | .media => 0 | .assist => 2 | .service => 0) ∧
      (t.originRec o).limit = 16 ∧
      (t.originRec o).windows[(0 : Fin 4)] = ⟨true, 0, 383⟩ ∧
      (∀ k : Fin 4, k ≠ 0 → (t.originRec o).windows[k] = ⟨false, 0, 0⟩) ∧
      (t.originRec o).keyFirst = 256 * o.idx.val ∧ (t.originRec o).keyLast = 256 * o.idx.val + 255 ∧
      (t.originRec o).patFirst = 1024 * o.idx.val ∧ (t.originRec o).patLast = 1024 * o.idx.val + 1023) ∧
    (∀ f : FlagNo, t.tu.writers[f] =
      if f.val ≤ 15 then .origin .body else if f.val ≤ 23 then .origin .assist else .origin .media) ∧
    (∀ k : LineNo, t.tu.captures[k] = ⟨false, .rise, 0, 0, false⟩) ∧ t.tu.wakeList = [] ∧
    (∀ b : BinNo, t.co.bins[b] = ⟨⟨32768, 32768, 32768⟩, ⟨4884, 4884, 4884⟩⟩) ∧ t.co.glare = ⟨none, none, 65535⟩ ∧
    (∀ q : QueueNo, t.ss.queues[q] = ⟨none, none, [], none, false⟩) ∧
    (∀ w : WatchNo, t.wu.watches[w] = ⟨false, 0, .peak, ⟨.atLeast, 0⟩, ⟨.off, 0⟩, .all, false, .none, false⟩) ∧
    (∀ k : LineNo, t.tu.lines[k] = ⟨.off, 0, false, .overwrite, 1000, none, raw k, none, raw k⟩) ∧ t.tu.flags = 0 ∧
    (∀ i : LayerNo, t.lt.layers[i] = Layer.freed) ∧ t.ss.pattern = [] ∧ t.ce.pool = [] ∧ t.ce.queue = [] ∧
    (∀ n : SlotNo, t.ss.slots[n] = none) ∧ (∀ c : CueNo, t.ce.cues[c] = none) ∧ (∀ i : BindNo, t.tu.binds[i] = none) ∧
    (∀ l : LoopNo, t.lc.loops[l] = ⟨.discovering, true, 0, 0, 8, 0, 0, 0, false, false, false, none, []⟩ ∧
      t.co.chains[l] = ⟨1000, 85⟩ ∧ t.co.limits[l] = ⟨false, 65536⟩) ∧
    (∀ lam : LampNo, t.lc.health[lam] = ⟨⟨false, false, false⟩, ⟨false, false, false⟩, 0, false⟩ ∧ t.co.lampBin[lam] = 0) ∧
    t.wu.sig0 = false ∧ t.wu.sig1 = false ∧ t.co.inFlight = none) ∧
  (∀ s : State, s.ps.resetHeld = false → ∃ t, exec .resetPinAssert s = .next t ∧
    t = { s with ps := { s.ps with resetHeld := true }
                 sc := { s.sc with scene := 0, local' := 0, lastFrame := none }
                 mp := { s.mp with ports := t.mp.ports }
                 co := { s.co with inFlight := none }
                 lc := { s.lc with loops := t.lc.loops } } ∧
    (∀ l : LoopNo, t.lc.loops[l] = { s.lc.loops[l] with await := none, out := [] }) ∧
    ∀ o, t.port o = { s.port o with tx := (s.port o).tx.map fun f => { f with sendingOn := none } }) ∧
  ∀ (o : Origin) (s : State) (rq : Intake), Takes s o .restart rq →
    (o ≠ .service → exec (.restart o) s = .next (turnedAway s o rq .noRight)) ∧
    (o = .service → ∀ health : Vector Health 384,
      (∀ lam : LampNo, health[lam] = { s.lc.health[lam] with queried := false }) →
      let f := State.fresh s.mp.strap (fun k => s.tu.lines[k].raw) s.pending s.freeCount
      exec (.restart o) s = .next (State.setPort
        { f with sc := { f.sc with scene := s.sc.scene, local' := s.sc.local', trim := s.sc.trim, sense := s.sc.sense
                                   acc := s.sc.acc, nextFrame := some (s.sc.scene + 10000) }
                 lc := { f.lc with health := health } }
        .service { f.port .service with
          tx := [⟨[oneByte (byteAt rq.data 0), oneByte (byteAt rq.data 1), 0, 0], some rq.chan, none⟩] }))

/-! ## The frame start, the completion of a compose, and the channels -/

/-- R87, R88: FRAME_START does the work of a frame start when it is due, else nothing (not under a compose in flight, log entry
11). That work: R35 the copies under OPENING gates go live; R102 to R105 every due start leaves the queue, one behind an entry
that is not due too (log entry 20), and each is resolved in queue order, reported LAYER_GONE, or preempting the cue on its layer
and started, kept in phase or rewritten to the frame time with CUE_LATE, with AUTO_SHOW shown; R111, R112 the ends, in ascending
cue number; R106, R107 each RUNNING cue evaluated (an elapsed time below 0 taken as 0, the model's choice, log entry 23); R29, R30
every presence stepped; R51, R52 every stream queue promoted and judged; R152 each loop by its state; R56 a compose begun on
what these leave, with R19's frame values and R54's void sources. (Cue notices before loop notices, log entry 9.) HOLDOFF_END is
the end of one loop's holdoff at the frame start that is due (log entry 6). -/
def Obligations.FrameStartsDoTheirWork : Prop :=
  (∀ s : State, s.ps.resetHeld = false →
    (∀ tf, FrameDue s tf → exec .frameStart s = .next (s.frameStart tf)) ∧
    ((∀ tf, ¬FrameDue s tf) → exec .frameStart s = .next s)) ∧
  (∀ (s : State) (tf : Time) (ls : Vector Layer 16) (gs : Vector Gate 4) (qs : Vector StreamQueue 2),
    (∀ i : LayerNo, let l := s.lt.layers[i]
      ((∃ o, l.owner = some o ∧ s.gate o = .opening) → ∀ c, l.copy = some c → ls[i] =
        { l with ed := c.ed, detached := c.detached, state := if c.shown = true then .shown else .held, copy := none }) ∧
      ((∀ o, l.owner = some o → s.gate o ≠ .opening) ∨ l.copy = none → ls[i] = l)) →
    (∀ o : Origin, gs[o.idx] = if s.gate o = .opening then .opened else s.gate o) →
    (∀ q : QueueNo, qs[q] = match s.ss.queues[q].bound with
      | none => s.ss.queues[q]
      | some i => if usesStream ls[i] = true then s.ss.queues[q] else ⟨none, none, [], none, false⟩) →
    let clock := { s.sc with period := s.sc.periodSet
                             nextFrame := some (tf + BitVec.ofNat 48 (s.sc.periodSet * 1000))
                             lastFrame := some ⟨tf, s.sc.local'⟩ }
    let due := fun e : StartEntry => decide ((e.start - tf).toInt ≤ 0)
    let waits := fun e : StartEntry => decide (0 < (e.start - tf).toInt)
    let opened : State := { s with sc := clock, lt := ⟨ls, gs⟩, ss := { s.ss with queues := qs }
                                   ce := { s.ce with queue := s.ce.queue.filter waits } }
    let started := (s.ce.queue.filter due).foldl (fun u e => u.resolve tf e) opened
    let ended := (List.finRange 24).foldl (fun u c => u.endIfDue tf c) started
    let lapsed := fun x : Loop => x.state == .failed && decide (x.holdCount ≤ 1)
    let told := (List.finRange 6).foldl (fun (u : State) (l : LoopNo) =>
      if lapsed s.lc.loops[l] = true then u.notifyAll (.chainState l .holdoffEnd .discovering .failed s.lc.loops[l].nodes
        s.lc.loops[l].nodes) else u) ended
    let t := s.frameStart tf
    ∃ c : Compose,
      ended = { opened with mp := { s.mp with ports := ended.mp.ports }
                            ce := { opened.ce with cues := ended.ce.cues }
                            lt := { opened.lt with layers := ended.lt.layers } } ∧
      t = { ended with mp := told.mp
                       ce := { ended.ce with cues := t.ce.cues }
                       lt := { ended.lt with layers := t.lt.layers }
                       ss := { ended.ss with queues := t.ss.queues }
                       co := { s.co with inFlight := some c }
                       lc := t.lc
                       freeCount := s.freeCount + 1 } ∧
      (∀ k : CueNo,
        (ended.ce.cues[k] = none → t.ce.cues[k] = none) ∧
        ∀ cue, ended.ce.cues[k] = some cue →
          ((∀ start latest, cue.run ≠ .running start latest) → t.ce.cues[k] = some cue) ∧
          ∀ start latest, cue.run = .running start latest →
            let start' := rebased tf start cue
            let values := cue.tracks.map (ended.trackNow cue (elapsed tf start' % cue.duration))
            t.ce.cues[k] = some { cue with run := .running start' values }) ∧
      (∀ i : LayerNo, let l := ended.lt.layers[i]
        let full := l.state == .shown && qualHolds s.tu.flags l.ed.qual
        let presence := stepPresence s.sc.periodSet full l.ed.fadeIn l.ed.fadeOut l.presence
        t.lt.layers[i] = if l.state = .free then l else { l with presence := presence }) ∧
      (∀ q : QueueNo,
        let shown := qs[q].pending.filter fun f => decide ((f.show' - tf).toInt ≤ 0)
        let stale := ∃ i, qs[q].bound = some i ∧ (t.ss.queues[q].current = none ∨ ∃ last k age, qs[q].last = some last ∧
          t.lt.layers[i].ed.source = .stream k age ∧ age * 1000 < (s.sc.local' - last).toNat)
        t.ss.queues[q] = { qs[q] with
          current := if qs[q].bound = none then qs[q].current else shown.getLast?.or qs[q].current
          pending := if qs[q].bound = none then qs[q].pending
            else qs[q].pending.filter fun f => decide (0 < (f.show' - tf).toInt)
          stale := t.ss.queues[q].stale } ∧
        (t.ss.queues[q].stale = true ↔ stale)) ∧
      (∀ l : LoopNo, let x := s.lc.loops[l]
        (x.state = .running → t.lc.loops[l] =
          { x with claimed := true, showPending := false, out := if x.showPending = true then [.show'] else x.out }) ∧
        (x.state = .discovering → t.lc.loops[l] =
          { x with claimed := false, await := some ⟨.count, s.sc.local', none⟩, out := [.count] }) ∧
        (x.state = .failed → 2 ≤ x.holdCount →
          t.lc.loops[l] = { x with holdCount := x.holdCount - 1, claimed := false }) ∧
        (x.state = .failed → x.holdCount ≤ 1 → t.lc.loops[l] =
          { x with state := .discovering, holdCount := 0, claimed := false, await := some ⟨.count, s.sc.local', none⟩
                   out := [.count] }) ∧
        (x.state = .quiet ∨ x.state = .off → t.lc.loops[l] = { x with claimed := false })) ∧
      (∀ lam : LampNo, t.lc.health[lam] = if lapsed s.lc.loops[lampLoop lam] = true
        then { s.lc.health[lam] with queried := false } else s.lc.health[lam]) ∧
      c.frameTime = tf ∧ c.began = s.sc.local' ∧ (c.inSetup = true ↔ s.ps.state = .setup) ∧ c.zones = s.co.zones ∧
      (∀ z : ZoneNo, c.holders[z] = s.ot.holds[z].map (·.holder)) ∧ c.pattern = s.ss.pattern ∧ c.slots = s.ss.slots ∧
      (let holds := fun r : FlagRef => flagValue s.tu.flags r.flag = (r.sense == .set)
       c.glareOn = true ↔ (s.co.glare.refA ≠ none ∨ s.co.glare.refB ≠ none) ∧
        (∀ r, s.co.glare.refA = some r → holds r) ∧ ∀ r, s.co.glare.refB = some r → holds r) ∧
      c.glareCap = s.co.glare.cap ∧ c.bins = s.co.bins ∧ c.lampBin = s.co.lampBin ∧ c.chains = s.co.chains ∧
      (∀ l : LoopNo, c.nodes[l] = s.lc.loops[l].nodes) ∧ c.health = t.lc.health ∧ c.gone = 0 ∧
      ∀ i : LayerNo, let l := t.lt.layers[i]
        c.layers[i].owner = l.owner ∧ c.layers[i].tier = l.tier ∧ c.layers[i].presence = l.presence ∧
        ((∀ k cue, ¬RunsOn t.ce.cues i k cue) → c.layers[i].ed = l.ed) ∧
        (∀ k cue, RunsOn t.ce.cues i k cue → c.layers[i].ed = cueFields tf (s.freeCount + 1) cue l.ed) ∧
        (c.layers[i].isVoid = true ↔
          (∃ n, l.ed.source = .pattern n ∧ l.detached = true) ∨
          (∃ k age, l.ed.source = .stream k age ∧ t.ss.queues[k].stale = true) ∨
          ∃ k cue start latest, RunsOn t.ce.cues i k cue ∧ cue.run = .running start latest ∧
            ∃ tr ∈ cue.tracks, trackBroken (s.originRec cue.owner) s.ce.pool cue.duration tr = true) ∧
        ((∀ k age, l.ed.source ≠ .stream k age) → c.layers[i].frame = none) ∧
        ∀ k age, l.ed.source = .stream k age → c.layers[i].frame = t.ss.queues[k].current) ∧
  (∀ (s : State) (tf : Time) (e : StartEntry),
    (s.ce.cues[e.cue] = none → s.resolve tf e = s) ∧
    ∀ cue, s.ce.cues[e.cue] = some cue →
      let l := s.lt.layers[cue.layer]
      (l.state = .free ∨ l.owner ≠ some cue.owner → s.resolve tf e =
        (s.setCue e.cue (some { cue with run := .ready })).notify cue.owner (.cueEnded e.cue cue.layer .layerGone)) ∧
      (l.state ≠ .free → l.owner = some cue.owner → ∀ v : State,
        ((∀ k other, ¬RunsOn s.ce.cues cue.layer k other) → v = s) →
        (∀ k other, RunsOn s.ce.cues cue.layer k other →
          (∀ j y, s.ce.cues[j] = some y → y.run.active = true → y.layer = cue.layer → j = k) ∧
          v = (s.setCue k (some { other with run := .ready })).notify other.owner
            (.cueEnded k cue.layer .preempted)) →
        let lateness := (tf - e.start).toInt
        let late := decide ((s.sc.period : Int) * 1000 ≤ lateness)
        let run := v.setCue e.cue (some { cue with run := .running (if late = true then tf else e.start) [] })
        let told := if late = true then run.notify cue.owner (.cueLate e.cue (min 4294967295 lateness.toNat) tf) else run
        s.resolve tf e =
          if cue.autoShow = true then told.setLayer cue.layer { l with state := .shown } else told)) ∧
  (∀ (s : State) (tf : Time) (c : CueNo),
    (s.ce.cues[c] = none → s.endIfDue tf c = s) ∧
    ∀ cue, s.ce.cues[c] = some cue →
      let l := s.lt.layers[cue.layer]
      let ready := fun u : State => u.setCue c (some { cue with run := .ready })
      let l' : Layer :=
        if l.state = .free then l
        else match cue.ending with
          | .hold => { l with ed := s.heldFields cue l.ed }
          | .restore => l
          | .hide => { l with state := .held }
      (cue.run = .ready ∨ cue.run = .scheduled → s.endIfDue tf c = s) ∧
      (∀ start rel frozen, cue.run = .releasing start rel frozen → let e := (tf - rel).toInt / 1000
        (e < cue.release → s.endIfDue tf c = s) ∧
        (cue.release ≤ e → s.endIfDue tf c = (ready s).notify cue.owner (.cueEnded c cue.layer .stopped))) ∧
      ∀ start latest, cue.run = .running start latest → let e := ((tf - start).toInt / 1000).toNat
        (cue.loops = 0 ∨ e / cue.duration < cue.loops → s.endIfDue tf c = s) ∧
        (cue.loops ≠ 0 → cue.loops ≤ e / cue.duration → s.endIfDue tf c =
          (ready (s.setLayer cue.layer l')).notify cue.owner (.cueEnded c cue.layer .finished))) ∧
  ∀ (l : LoopNo) (s : State), s.ps.resetHeld = false →
    let x := s.lc.loops[l]
    ((∀ tf, ¬FrameDue s tf) ∨ x.state ≠ .failed ∨ 2 ≤ x.holdCount → exec (.holdoffEnd l) s = .next s) ∧
    ∀ tf, FrameDue s tf → x.state = .failed → x.holdCount ≤ 1 → exec (.holdoffEnd l) s = .next
      (State.notifyAll { s with lc :=
          { loops := setAt s.lc.loops l
              { x with state := .discovering, holdCount := 0, claimed := false
                       await := some ⟨.count, s.sc.local', none⟩, out := [.count] }
            health := unqueried (· == l) s.lc.health } }
        (.chainState l .holdoffEnd .discovering .failed x.nodes x.nodes))

/-- R31, R56, R57, R67, R77, R154, R158, R159, R169 to R172: a compose that completes settles the void flag of every layer that
did not become FREE since, and every loop's limiting record; each claimed RUNNING loop sends its final codes in REFRESH, or goes
QUIET at the 64th dark frame, a QUIET loop with a code above 0 is woken, and every enabled watch is evaluated on the final codes.
A changed void flag is reported to the layer's frame-start owner, a change of limiting or of full derate, a loop's change of
state, and a changed hit state of a watch with notices, to every origin (blocks in that order, log entry 9). A PEAK is the
greatest code, a MEAN the sum of the codes over three times the lamps, both 0 with no lamp; a watch matches by its comparators.
QUIET_THRESHOLD is that change of one loop at the completion of the compose in flight (log entry 6). -/
def Obligations.ComposeCompletionsHandOutTheLight : Prop :=
  (∀ s : State, s.ps.resetHeld = false → s.co.inFlight = none → exec .composeComplete s = .next s) ∧
  (∀ (s : State) (c : Compose), s.ps.resetHeld = false → s.co.inFlight = some c →
    let lamps := c.lamps
    let drives := finalDrives lamps (c.loopOuts lamps)
    let voided := fun i : LayerNo => !c.inSetup && lamps.toList.any fun y => y.voiders.getLsbD i.val
    let limit := fun l : LoopNo => (⟨(c.loopOuts lamps)[l].limiting, loopDerate c l⟩ : Limit)
    let words := fun l : LoopNo => ((List.finRange 64).map fun k => drives[lampAt l k]).take s.lc.loops[l].nodes
    let dark := fun l : LoopNo => (words l).all fun d => d == ⟨0, 0, 0⟩
    let count := fun l : LoopNo => if dark l = true then s.lc.loops[l].quietCount + 1 else 0
    let level := fun w : WatchNo => measureOf s.wu.watches[w].measure
      (((List.finRange 384).filter fun lam =>
        inZone s.co.zones s.wu.watches[w].zone lam && lampPresent c.nodes lam).map fun lam => drives[lam])
    let told1 := (List.finRange 16).foldl (fun (u : State) (i : LayerNo) =>
      match c.layers[i].owner with
      | none => u
      | some o => if c.gone.getLsbD i.val = true ∨ c.inSetup = true ∨ s.lt.layers[i].void = voided i then u
        else u.notify o (.layerVoid i (voided i))) s
    let told2 := (List.finRange 6).foldl (fun (u : State) (l : LoopNo) =>
      if s.co.limits[l].limiting = (limit l).limiting ∧ (s.co.limits[l].derate = 65536 ↔ (limit l).derate = 65536) then u
      else u.notifyAll (.limiting l (limit l).limiting (limit l).derate)) told1
    let told3 := (List.finRange 6).foldl (fun (u : State) (l : LoopNo) => let x := s.lc.loops[l]
      if x.state = .running ∧ x.claimed = true ∧ 64 ≤ count l then
        u.notifyAll (.chainState l .dark .quiet .running x.nodes x.nodes)
      else if x.state = .quiet ∧ dark l = false then u.notifyAll (.chainState l .lit .running .quiet x.nodes x.nodes)
      else u) told2
    let told4 := (List.finRange 4).foldl (fun (u : State) (w : WatchNo) => let x := s.wu.watches[w]
      if x.enabled = true ∧ x.notice = true ∧ x.hit ≠ watchMatches x (level w) then
        u.notifyAll (.watchHit w (watchMatches x (level w)) (level w) c.frameTime)
      else u) told3
    ∃ t, exec .composeComplete s = .next t ∧
      t = { s with mp := told4.mp
                   lt := { s.lt with layers := t.lt.layers }
                   co := { s.co with inFlight := none, limits := t.co.limits }
                   lc := { s.lc with loops := t.lc.loops }
                   wu := t.wu } ∧
      (∀ i : LayerNo, t.lt.layers[i] = { s.lt.layers[i] with
        void := if c.gone.getLsbD i.val = true then s.lt.layers[i].void else voided i }) ∧
      (∀ l : LoopNo, t.co.limits[l] = limit l) ∧
      (∀ l : LoopNo, let x := s.lc.loops[l]
        (x.state = .running → x.claimed = true → count l < 64 → t.lc.loops[l] =
          { x with quietCount := count l, query := (x.query + 1) % x.nodes, showPending := true
                   await := some ⟨.refresh x.query, s.sc.local', none⟩, out := [.refresh (words l) x.query] }) ∧
        (x.state = .running → x.claimed = true → 64 ≤ count l → t.lc.loops[l] =
          { x with state := .quiet, quietCount := 0, showPending := false, await := none, out := [.quiet] }) ∧
        (x.state = .running → x.claimed = false → t.lc.loops[l] = x) ∧
        (x.state = .quiet → t.lc.loops[l] =
          if dark l = true then x else { x with state := .running, quietCount := 0, errors := 0, out := [.wake] }) ∧
        (x.state = .discovering ∨ x.state = .failed ∨ x.state = .off → t.lc.loops[l] = x)) ∧
      (∀ w : WatchNo, let x := s.wu.watches[w]
        t.wu.watches[w] = { x with hit := if x.enabled = true then watchMatches x (level w) else x.hit }) ∧
      (t.wu.sig0 = true ↔ ∃ w : WatchNo, t.wu.watches[w].enabled = true ∧ t.wu.watches[w].hit = true ∧
        t.wu.watches[w].signal = .sig0) ∧
      (t.wu.sig1 = true ↔ ∃ w : WatchNo, t.wu.watches[w].enabled = true ∧ t.wu.watches[w].hit = true ∧
        t.wu.watches[w].signal = .sig1)) ∧
  (∀ drives : List Rgb,
    let m := measureOf .peak drives
    (∀ d ∈ drives, d.r ≤ m ∧ d.g ≤ m ∧ d.b ≤ m) ∧ (m = 0 ∨ ∃ d ∈ drives, m = d.r ∨ m = d.g ∨ m = d.b) ∧
    measureOf .mean drives = (drives.map fun d => d.r + d.g + d.b).sum / (3 * drives.length)) ∧
  (∀ (x : Watch) (m : Nat),
    let holds := fun k : Comparator => (k.kind = .below ∧ m < k.threshold) ∨ (k.kind = .atLeast ∧ k.threshold ≤ m) ∨
      (k.kind = .equal ∧ m = k.threshold)
    (x.b.kind = .off → (watchMatches x m = true ↔ holds x.a)) ∧
    (x.b.kind ≠ .off → x.combine = .all → (watchMatches x m = true ↔ holds x.a ∧ holds x.b)) ∧
    (x.b.kind ≠ .off → x.combine = .any → (watchMatches x m = true ↔ holds x.a ∨ holds x.b))) ∧
  ∀ (l : LoopNo) (s : State), s.ps.resetHeld = false →
    (s.co.inFlight = none → exec (.quietThreshold l) s = .next s) ∧
    ∀ c, s.co.inFlight = some c →
      let x := s.lc.loops[l]
      let drives := finalDrives c.lamps (c.loopOuts c.lamps)
      let dark := ∀ k : Fin 64, k.val < x.nodes → drives[lampAt l k] = ⟨0, 0, 0⟩
      let reaches := x.state = .running ∧ x.claimed = true ∧ dark ∧ 63 ≤ x.quietCount
      (¬reaches → exec (.quietThreshold l) s = .next s) ∧
      (reaches → exec (.quietThreshold l) s = .next ((s.setLoop l
        { x with state := .quiet, quietCount := 0, showPending := false, await := none, out := [.quiet] }).notifyAll
          (.chainState l .dark .quiet .running x.nodes x.nodes)))

/-- R174, R175, R176, R177, R182, R183, R192: a frame with an own request identifier on a channel that is not OFFLINE lowers the
receive count, moves its origin's home channel, wakes the part from ASLEEP and, of 2 bytes or more, joins the intake queue or is
dropped with the lost flag set; any other frame is not received. A channel that is neither OFFLINE nor sending begins the earliest
eligible frame of the lowest origin that has one, and a frame sent leaves its queue. Errors raise the counts; past 255 the channel
is OFFLINE, its transmission abandoned, until it recovers to 0. (A row whose condition does not stand changes nothing, log entry
6; an error event and the end of a transmission on an OFFLINE channel change nothing, log entry 15.) -/
def Obligations.ChannelsReceiveSendAndRecover : Prop :=
  ∀ (ch : Chan) (s : State), s.ps.resetHeld = false →
    let x := s.chan ch
    let offline := 255 < x.txErrors
    (∀ fmt ident data,
      (fmt ≠ .data11 ∨ offline ∨ (∀ o : Origin, ident ≠ 0x600 + 0x10 * s.mp.strap.val + o.idx.val) →
        exec (.frameReceived ch fmt ident data) s = .next s) ∧
      ∀ o : Origin, fmt = .data11 → ¬offline → ident = 0x600 + 0x10 * s.mp.strap.val + o.idx.val →
        let p := s.port o
        let p' : Port :=
          if data.length < 2 then { p with home := ch }
          else if p.intake.length < 8 then { p with home := ch, intake := p.intake ++ [⟨data, s.sc.scene, ch⟩] }
          else { p with home := ch, lost := true }
        let s1 := (s.setChan ch { x with rxErrors := x.rxErrors - 1 }).setPort o p'
        exec (.frameReceived ch fmt ident data) s = .next
          { s1 with ps := if s.ps.state = .asleep then { s.ps with state := .waking, wakeSince := some s.sc.local' }
                          else s.ps }) ∧
    (let may := ¬offline ∧ ∀ o, ∀ f ∈ (s.port o).tx, f.sendingOn ≠ some ch
     let fits := fun (o : Origin) (f : TxFrame) => f.sendingOn = none ∧
       (f.bound = some ch ∨ f.bound = none ∧ (s.port o).home = ch)
     (¬may ∨ (∀ o, ∀ f ∈ (s.port o).tx, ¬fits o f) → exec (.frameTransmitStart ch) s = .next s) ∧
     ∀ (o : Origin) (before after : List TxFrame) (f : TxFrame), may → (s.port o).tx = before ++ f :: after → fits o f →
       (∀ g ∈ before, ¬fits o g) → (∀ p : Origin, p.idx < o.idx → ∀ g ∈ (s.port p).tx, ¬fits p g) →
       exec (.frameTransmitStart ch) s = .next
         (s.setPort o { s.port o with tx := before ++ { f with sendingOn := some ch } :: after })) ∧
    ((∀ o, ∀ f ∈ (s.port o).tx, f.sendingOn ≠ some ch) → exec (.frameTransmitted ch) s = .next s) ∧
    (∀ (o : Origin) (before after : List TxFrame) (f : TxFrame), (s.port o).tx = before ++ f :: after →
      f.sendingOn = some ch → (∀ g ∈ before, g.sendingOn ≠ some ch) →
      (∀ p : Origin, p ≠ o → ∀ g ∈ (s.port p).tx, g.sendingOn ≠ some ch) →
      exec (.frameTransmitted ch) s = .next (if offline then s else
        ((s.setPort o { s.port o with tx := before ++ after }).setChan ch { x with txErrors := x.txErrors - 1 }))) ∧
    (offline → (∀ kind, exec (.channelError ch kind) s = .next s) ∧
      exec (.channelRecovery ch) s = .next (s.setChan ch ⟨0, 0⟩)) ∧
    (¬offline → exec (.channelRecovery ch) s = .next s ∧
      exec (.channelError ch .receive) s = .next (s.setChan ch { x with rxErrors := min 255 (x.rxErrors + 1) }) ∧
      (x.txErrors + 8 ≤ 255 →
        exec (.channelError ch .transmit) s = .next (s.setChan ch { x with txErrors := x.txErrors + 8 })) ∧
      (255 < x.txErrors + 8 → ∃ t, exec (.channelError ch .transmit) s = .next t ∧
        t = { s.setChan ch { x with txErrors := 256 } with mp :=
          { (s.setChan ch { x with txErrors := 256 }).mp with ports := t.mp.ports } } ∧
        ∀ o, t.port o = { s.port o with
          tx := (s.port o).tx.map fun f => if f.sendingOn = some ch then { f with sendingOn := none } else f }))
end

