-- ==== Sys2Proof/Laws/Word.lean ====
section
/-! SUPPORT. Laws of the fixed tables: what a record reads as after each way of changing it. The simp lemmas are about
a number as index, since simp turns `v[i]` for `i : Fin n` into that form. -/

namespace Sys2Proof

theorem vec_ext {α : Type} {n : Nat} {v w : Vector α n} (h : ∀ i : Fin n, v[i] = w[i]) : v = w :=
  Vector.ext fun i hi => h ⟨i, hi⟩

@[simp] theorem setAt_same {α : Type} {n : Nat} (v : Vector α n) (i : Fin n) (x : α) (h : i.val < n) :
    (setAt v i x)[i.val]'h = x := by
  simp [setAt]

theorem setAt_read {α : Type} {n : Nat} (v : Vector α n) (i : Fin n) (x : α) (j : Nat) (h : j < n) :
    (setAt v i x)[j]'h = if j = i.val then x else v[j] := by
  simp only [setAt, Vector.getElem_set, eq_comm]

@[simp] theorem setAt_other {α : Type} {n : Nat} (v : Vector α n) (i : Fin n) (x : α) (j : Nat) (h : j < n)
    (ne : j ≠ i.val) : (setAt v i x)[j]'h = v[j] := by
  rw [setAt_read, if_neg ne]

@[simp] theorem tabulate_read {α : Type} {n : Nat} (f : Fin n → α) (j : Nat) (h : j < n) :
    (tabulate f)[j]'h = f ⟨j, h⟩ := by
  simp [tabulate, Vector.getElem_mk]

@[simp] theorem mapAt_read {α β : Type} {n : Nat} (v : Vector α n) (f : Fin n → α → β) (j : Nat) (h : j < n) :
    (mapAt v f)[j]'h = f ⟨j, h⟩ v[j] := by
  simp [mapAt]

/-- The table after one record is set, at any index. -/
theorem setAt_get {α : Type} {n : Nat} (v : Vector α n) (i j : Fin n) (x : α) :
    (setAt v i x)[j] = if j = i then x else v[j] := by
  simp [Fin.getElem_fin, setAt_read, Fin.ext_iff]

/-- The table after every record is changed, at any index. -/
theorem mapAt_get {α β : Type} {n : Nat} (v : Vector α n) (f : Fin n → α → β) (i : Fin n) :
    (mapAt v f)[i] = f i v[i] := by
  simp [Fin.getElem_fin]

theorem tabulate_get {α : Type} {n : Nat} (f : Fin n → α) (i : Fin n) : (tabulate f)[i] = f i := by
  simp [Fin.getElem_fin]

@[simp] theorem setAt_self {α : Type} {n : Nat} (v : Vector α n) (i : Fin n) : setAt v i v[i] = v := by
  apply vec_ext
  intro j
  rw [setAt_get]
  split
  · rename_i h; subst h; rfl
  · rfl

@[simp] theorem setAt_setAt {α : Type} {n : Nat} (v : Vector α n) (i : Fin n) (x y : α) :
    setAt (setAt v i x) i y = setAt v i y := by
  apply vec_ext
  intro j
  simp only [setAt_get]
  split <;> rfl

end Sys2Proof
end

