-- ==== Sys2Proof/Laws/State.lean ====
section
/-! SUPPORT. The laws of the record updates: one lemma for each field and each update, so that no proof unfolds one. -/

namespace Sys2Proof.Machine

variable (s : State)

/-! ## setPort -/

@[simp] theorem setPort_pending (o : Origin) (p : Port) : (s.setPort o p).pending = s.pending := rfl
@[simp] theorem setPort_ps (o : Origin) (p : Port) : (s.setPort o p).ps = s.ps := rfl
@[simp] theorem setPort_sc (o : Origin) (p : Port) : (s.setPort o p).sc = s.sc := rfl
@[simp] theorem setPort_ot (o : Origin) (p : Port) : (s.setPort o p).ot = s.ot := rfl
@[simp] theorem setPort_tu (o : Origin) (p : Port) : (s.setPort o p).tu = s.tu := rfl
@[simp] theorem setPort_ce (o : Origin) (p : Port) : (s.setPort o p).ce = s.ce := rfl
@[simp] theorem setPort_lt (o : Origin) (p : Port) : (s.setPort o p).lt = s.lt := rfl
@[simp] theorem setPort_ss (o : Origin) (p : Port) : (s.setPort o p).ss = s.ss := rfl
@[simp] theorem setPort_co (o : Origin) (p : Port) : (s.setPort o p).co = s.co := rfl
@[simp] theorem setPort_lc (o : Origin) (p : Port) : (s.setPort o p).lc = s.lc := rfl
@[simp] theorem setPort_wu (o : Origin) (p : Port) : (s.setPort o p).wu = s.wu := rfl
@[simp] theorem setPort_freeCount (o : Origin) (p : Port) : (s.setPort o p).freeCount = s.freeCount := rfl
@[simp] theorem setPort_strap_kept (o : Origin) (p : Port) : (s.setPort o p).mp.strap = s.mp.strap := rfl
@[simp] theorem setPort_ca_kept (o : Origin) (p : Port) : (s.setPort o p).mp.ca = s.mp.ca := rfl
@[simp] theorem setPort_cb_kept (o : Origin) (p : Port) : (s.setPort o p).mp.cb = s.mp.cb := rfl
@[simp] theorem setPort_ports (o : Origin) (p : Port) : (s.setPort o p).mp.ports = setAt s.mp.ports o.idx p := rfl

/-! ## setZoneRec -/

@[simp] theorem setZoneRec_pending (z : ZoneNo) (x : Option Zone) : (s.setZoneRec z x).pending = s.pending := rfl
@[simp] theorem setZoneRec_ps (z : ZoneNo) (x : Option Zone) : (s.setZoneRec z x).ps = s.ps := rfl
@[simp] theorem setZoneRec_sc (z : ZoneNo) (x : Option Zone) : (s.setZoneRec z x).sc = s.sc := rfl
@[simp] theorem setZoneRec_mp (z : ZoneNo) (x : Option Zone) : (s.setZoneRec z x).mp = s.mp := rfl
@[simp] theorem setZoneRec_ot (z : ZoneNo) (x : Option Zone) : (s.setZoneRec z x).ot = s.ot := rfl
@[simp] theorem setZoneRec_tu (z : ZoneNo) (x : Option Zone) : (s.setZoneRec z x).tu = s.tu := rfl
@[simp] theorem setZoneRec_ce (z : ZoneNo) (x : Option Zone) : (s.setZoneRec z x).ce = s.ce := rfl
@[simp] theorem setZoneRec_lt (z : ZoneNo) (x : Option Zone) : (s.setZoneRec z x).lt = s.lt := rfl
@[simp] theorem setZoneRec_ss (z : ZoneNo) (x : Option Zone) : (s.setZoneRec z x).ss = s.ss := rfl
@[simp] theorem setZoneRec_lc (z : ZoneNo) (x : Option Zone) : (s.setZoneRec z x).lc = s.lc := rfl
@[simp] theorem setZoneRec_wu (z : ZoneNo) (x : Option Zone) : (s.setZoneRec z x).wu = s.wu := rfl
@[simp] theorem setZoneRec_freeCount (z : ZoneNo) (x : Option Zone) : (s.setZoneRec z x).freeCount = s.freeCount := rfl
@[simp] theorem setZoneRec_zones (z : ZoneNo) (x : Option Zone) : (s.setZoneRec z x).co.zones = setAt s.co.zones z x := rfl
@[simp] theorem setZoneRec_glare_kept (z : ZoneNo) (x : Option Zone) : (s.setZoneRec z x).co.glare = s.co.glare := rfl
@[simp] theorem setZoneRec_bins_kept (z : ZoneNo) (x : Option Zone) : (s.setZoneRec z x).co.bins = s.co.bins := rfl
@[simp] theorem setZoneRec_lampBin_kept (z : ZoneNo) (x : Option Zone) : (s.setZoneRec z x).co.lampBin = s.co.lampBin := rfl
@[simp] theorem setZoneRec_chains_kept (z : ZoneNo) (x : Option Zone) : (s.setZoneRec z x).co.chains = s.co.chains := rfl
@[simp] theorem setZoneRec_limits_kept (z : ZoneNo) (x : Option Zone) : (s.setZoneRec z x).co.limits = s.co.limits := rfl
@[simp] theorem setZoneRec_inFlight_kept (z : ZoneNo) (x : Option Zone) : (s.setZoneRec z x).co.inFlight = s.co.inFlight := rfl

/-! ## setHold -/

@[simp] theorem setHold_pending (z : ZoneNo) (h : Option Hold) : (s.setHold z h).pending = s.pending := rfl
@[simp] theorem setHold_ps (z : ZoneNo) (h : Option Hold) : (s.setHold z h).ps = s.ps := rfl
@[simp] theorem setHold_sc (z : ZoneNo) (h : Option Hold) : (s.setHold z h).sc = s.sc := rfl
@[simp] theorem setHold_mp (z : ZoneNo) (h : Option Hold) : (s.setHold z h).mp = s.mp := rfl
@[simp] theorem setHold_tu (z : ZoneNo) (h : Option Hold) : (s.setHold z h).tu = s.tu := rfl
@[simp] theorem setHold_ce (z : ZoneNo) (h : Option Hold) : (s.setHold z h).ce = s.ce := rfl
@[simp] theorem setHold_lt (z : ZoneNo) (h : Option Hold) : (s.setHold z h).lt = s.lt := rfl
@[simp] theorem setHold_ss (z : ZoneNo) (h : Option Hold) : (s.setHold z h).ss = s.ss := rfl
@[simp] theorem setHold_co (z : ZoneNo) (h : Option Hold) : (s.setHold z h).co = s.co := rfl
@[simp] theorem setHold_lc (z : ZoneNo) (h : Option Hold) : (s.setHold z h).lc = s.lc := rfl
@[simp] theorem setHold_wu (z : ZoneNo) (h : Option Hold) : (s.setHold z h).wu = s.wu := rfl
@[simp] theorem setHold_freeCount (z : ZoneNo) (h : Option Hold) : (s.setHold z h).freeCount = s.freeCount := rfl
@[simp] theorem setHold_recs_kept (z : ZoneNo) (h : Option Hold) : (s.setHold z h).ot.recs = s.ot.recs := rfl
@[simp] theorem setHold_timeSource_kept (z : ZoneNo) (h : Option Hold) : (s.setHold z h).ot.timeSource = s.ot.timeSource := rfl
@[simp] theorem setHold_holds (z : ZoneNo) (h : Option Hold) : (s.setHold z h).ot.holds = setAt s.ot.holds z h := rfl

/-! ## setSlot -/

@[simp] theorem setSlot_pending (n : SlotNo) (x : Option Slot) : (s.setSlot n x).pending = s.pending := rfl
@[simp] theorem setSlot_ps (n : SlotNo) (x : Option Slot) : (s.setSlot n x).ps = s.ps := rfl
@[simp] theorem setSlot_sc (n : SlotNo) (x : Option Slot) : (s.setSlot n x).sc = s.sc := rfl
@[simp] theorem setSlot_mp (n : SlotNo) (x : Option Slot) : (s.setSlot n x).mp = s.mp := rfl
@[simp] theorem setSlot_ot (n : SlotNo) (x : Option Slot) : (s.setSlot n x).ot = s.ot := rfl
@[simp] theorem setSlot_tu (n : SlotNo) (x : Option Slot) : (s.setSlot n x).tu = s.tu := rfl
@[simp] theorem setSlot_ce (n : SlotNo) (x : Option Slot) : (s.setSlot n x).ce = s.ce := rfl
@[simp] theorem setSlot_lt (n : SlotNo) (x : Option Slot) : (s.setSlot n x).lt = s.lt := rfl
@[simp] theorem setSlot_co (n : SlotNo) (x : Option Slot) : (s.setSlot n x).co = s.co := rfl
@[simp] theorem setSlot_lc (n : SlotNo) (x : Option Slot) : (s.setSlot n x).lc = s.lc := rfl
@[simp] theorem setSlot_wu (n : SlotNo) (x : Option Slot) : (s.setSlot n x).wu = s.wu := rfl
@[simp] theorem setSlot_freeCount (n : SlotNo) (x : Option Slot) : (s.setSlot n x).freeCount = s.freeCount := rfl
@[simp] theorem setSlot_pattern_kept (n : SlotNo) (x : Option Slot) : (s.setSlot n x).ss.pattern = s.ss.pattern := rfl
@[simp] theorem setSlot_slots (n : SlotNo) (x : Option Slot) : (s.setSlot n x).ss.slots = setAt s.ss.slots n x := rfl
@[simp] theorem setSlot_queues_kept (n : SlotNo) (x : Option Slot) : (s.setSlot n x).ss.queues = s.ss.queues := rfl

/-! ## setQueue -/

@[simp] theorem setQueue_pending (q : QueueNo) (x : StreamQueue) : (s.setQueue q x).pending = s.pending := rfl
@[simp] theorem setQueue_ps (q : QueueNo) (x : StreamQueue) : (s.setQueue q x).ps = s.ps := rfl
@[simp] theorem setQueue_sc (q : QueueNo) (x : StreamQueue) : (s.setQueue q x).sc = s.sc := rfl
@[simp] theorem setQueue_mp (q : QueueNo) (x : StreamQueue) : (s.setQueue q x).mp = s.mp := rfl
@[simp] theorem setQueue_ot (q : QueueNo) (x : StreamQueue) : (s.setQueue q x).ot = s.ot := rfl
@[simp] theorem setQueue_tu (q : QueueNo) (x : StreamQueue) : (s.setQueue q x).tu = s.tu := rfl
@[simp] theorem setQueue_ce (q : QueueNo) (x : StreamQueue) : (s.setQueue q x).ce = s.ce := rfl
@[simp] theorem setQueue_lt (q : QueueNo) (x : StreamQueue) : (s.setQueue q x).lt = s.lt := rfl
@[simp] theorem setQueue_co (q : QueueNo) (x : StreamQueue) : (s.setQueue q x).co = s.co := rfl
@[simp] theorem setQueue_lc (q : QueueNo) (x : StreamQueue) : (s.setQueue q x).lc = s.lc := rfl
@[simp] theorem setQueue_wu (q : QueueNo) (x : StreamQueue) : (s.setQueue q x).wu = s.wu := rfl
@[simp] theorem setQueue_freeCount (q : QueueNo) (x : StreamQueue) : (s.setQueue q x).freeCount = s.freeCount := rfl
@[simp] theorem setQueue_pattern_kept (q : QueueNo) (x : StreamQueue) : (s.setQueue q x).ss.pattern = s.ss.pattern := rfl
@[simp] theorem setQueue_slots_kept (q : QueueNo) (x : StreamQueue) : (s.setQueue q x).ss.slots = s.ss.slots := rfl
@[simp] theorem setQueue_queues (q : QueueNo) (x : StreamQueue) : (s.setQueue q x).ss.queues = setAt s.ss.queues q x := rfl

/-! ## setCue -/

@[simp] theorem setCue_pending (c : CueNo) (x : Option Cue) : (s.setCue c x).pending = s.pending := rfl
@[simp] theorem setCue_ps (c : CueNo) (x : Option Cue) : (s.setCue c x).ps = s.ps := rfl
@[simp] theorem setCue_sc (c : CueNo) (x : Option Cue) : (s.setCue c x).sc = s.sc := rfl
@[simp] theorem setCue_mp (c : CueNo) (x : Option Cue) : (s.setCue c x).mp = s.mp := rfl
@[simp] theorem setCue_ot (c : CueNo) (x : Option Cue) : (s.setCue c x).ot = s.ot := rfl
@[simp] theorem setCue_tu (c : CueNo) (x : Option Cue) : (s.setCue c x).tu = s.tu := rfl
@[simp] theorem setCue_lt (c : CueNo) (x : Option Cue) : (s.setCue c x).lt = s.lt := rfl
@[simp] theorem setCue_ss (c : CueNo) (x : Option Cue) : (s.setCue c x).ss = s.ss := rfl
@[simp] theorem setCue_co (c : CueNo) (x : Option Cue) : (s.setCue c x).co = s.co := rfl
@[simp] theorem setCue_lc (c : CueNo) (x : Option Cue) : (s.setCue c x).lc = s.lc := rfl
@[simp] theorem setCue_wu (c : CueNo) (x : Option Cue) : (s.setCue c x).wu = s.wu := rfl
@[simp] theorem setCue_freeCount (c : CueNo) (x : Option Cue) : (s.setCue c x).freeCount = s.freeCount := rfl
@[simp] theorem setCue_pool_kept (c : CueNo) (x : Option Cue) : (s.setCue c x).ce.pool = s.ce.pool := rfl
@[simp] theorem setCue_cues (c : CueNo) (x : Option Cue) : (s.setCue c x).ce.cues = setAt s.ce.cues c x := rfl
@[simp] theorem setCue_queue_kept (c : CueNo) (x : Option Cue) : (s.setCue c x).ce.queue = s.ce.queue := rfl

/-! ## setStartQueue -/

@[simp] theorem setStartQueue_pending (q : List StartEntry) : (s.setStartQueue q).pending = s.pending := rfl
@[simp] theorem setStartQueue_ps (q : List StartEntry) : (s.setStartQueue q).ps = s.ps := rfl
@[simp] theorem setStartQueue_sc (q : List StartEntry) : (s.setStartQueue q).sc = s.sc := rfl
@[simp] theorem setStartQueue_mp (q : List StartEntry) : (s.setStartQueue q).mp = s.mp := rfl
@[simp] theorem setStartQueue_ot (q : List StartEntry) : (s.setStartQueue q).ot = s.ot := rfl
@[simp] theorem setStartQueue_tu (q : List StartEntry) : (s.setStartQueue q).tu = s.tu := rfl
@[simp] theorem setStartQueue_lt (q : List StartEntry) : (s.setStartQueue q).lt = s.lt := rfl
@[simp] theorem setStartQueue_ss (q : List StartEntry) : (s.setStartQueue q).ss = s.ss := rfl
@[simp] theorem setStartQueue_co (q : List StartEntry) : (s.setStartQueue q).co = s.co := rfl
@[simp] theorem setStartQueue_lc (q : List StartEntry) : (s.setStartQueue q).lc = s.lc := rfl
@[simp] theorem setStartQueue_wu (q : List StartEntry) : (s.setStartQueue q).wu = s.wu := rfl
@[simp] theorem setStartQueue_freeCount (q : List StartEntry) : (s.setStartQueue q).freeCount = s.freeCount := rfl
@[simp] theorem setStartQueue_pool_kept (q : List StartEntry) : (s.setStartQueue q).ce.pool = s.ce.pool := rfl
@[simp] theorem setStartQueue_cues_kept (q : List StartEntry) : (s.setStartQueue q).ce.cues = s.ce.cues := rfl
@[simp] theorem setStartQueue_queue (q : List StartEntry) : (s.setStartQueue q).ce.queue = q := rfl

/-! ## setLayer -/

@[simp] theorem setLayer_pending (i : LayerNo) (l : Layer) : (s.setLayer i l).pending = s.pending := rfl
@[simp] theorem setLayer_ps (i : LayerNo) (l : Layer) : (s.setLayer i l).ps = s.ps := rfl
@[simp] theorem setLayer_sc (i : LayerNo) (l : Layer) : (s.setLayer i l).sc = s.sc := rfl
@[simp] theorem setLayer_mp (i : LayerNo) (l : Layer) : (s.setLayer i l).mp = s.mp := rfl
@[simp] theorem setLayer_ot (i : LayerNo) (l : Layer) : (s.setLayer i l).ot = s.ot := rfl
@[simp] theorem setLayer_tu (i : LayerNo) (l : Layer) : (s.setLayer i l).tu = s.tu := rfl
@[simp] theorem setLayer_ce (i : LayerNo) (l : Layer) : (s.setLayer i l).ce = s.ce := rfl
@[simp] theorem setLayer_ss (i : LayerNo) (l : Layer) : (s.setLayer i l).ss = s.ss := rfl
@[simp] theorem setLayer_co (i : LayerNo) (l : Layer) : (s.setLayer i l).co = s.co := rfl
@[simp] theorem setLayer_lc (i : LayerNo) (l : Layer) : (s.setLayer i l).lc = s.lc := rfl
@[simp] theorem setLayer_wu (i : LayerNo) (l : Layer) : (s.setLayer i l).wu = s.wu := rfl
@[simp] theorem setLayer_freeCount (i : LayerNo) (l : Layer) : (s.setLayer i l).freeCount = s.freeCount := rfl
@[simp] theorem setLayer_layers (i : LayerNo) (l : Layer) : (s.setLayer i l).lt.layers = setAt s.lt.layers i l := rfl
@[simp] theorem setLayer_gates_kept (i : LayerNo) (l : Layer) : (s.setLayer i l).lt.gates = s.lt.gates := rfl

/-! ## mapLayers -/

@[simp] theorem mapLayers_pending (f : LayerNo → Layer → Layer) : (s.mapLayers f).pending = s.pending := rfl
@[simp] theorem mapLayers_ps (f : LayerNo → Layer → Layer) : (s.mapLayers f).ps = s.ps := rfl
@[simp] theorem mapLayers_sc (f : LayerNo → Layer → Layer) : (s.mapLayers f).sc = s.sc := rfl
@[simp] theorem mapLayers_mp (f : LayerNo → Layer → Layer) : (s.mapLayers f).mp = s.mp := rfl
@[simp] theorem mapLayers_ot (f : LayerNo → Layer → Layer) : (s.mapLayers f).ot = s.ot := rfl
@[simp] theorem mapLayers_tu (f : LayerNo → Layer → Layer) : (s.mapLayers f).tu = s.tu := rfl
@[simp] theorem mapLayers_ce (f : LayerNo → Layer → Layer) : (s.mapLayers f).ce = s.ce := rfl
@[simp] theorem mapLayers_ss (f : LayerNo → Layer → Layer) : (s.mapLayers f).ss = s.ss := rfl
@[simp] theorem mapLayers_co (f : LayerNo → Layer → Layer) : (s.mapLayers f).co = s.co := rfl
@[simp] theorem mapLayers_lc (f : LayerNo → Layer → Layer) : (s.mapLayers f).lc = s.lc := rfl
@[simp] theorem mapLayers_wu (f : LayerNo → Layer → Layer) : (s.mapLayers f).wu = s.wu := rfl
@[simp] theorem mapLayers_freeCount (f : LayerNo → Layer → Layer) : (s.mapLayers f).freeCount = s.freeCount := rfl
@[simp] theorem mapLayers_layers (f : LayerNo → Layer → Layer) : (s.mapLayers f).lt.layers = mapAt s.lt.layers f := rfl
@[simp] theorem mapLayers_gates_kept (f : LayerNo → Layer → Layer) : (s.mapLayers f).lt.gates = s.lt.gates := rfl

/-! ## setGate -/

@[simp] theorem setGate_pending (o : Origin) (g : Gate) : (s.setGate o g).pending = s.pending := rfl
@[simp] theorem setGate_ps (o : Origin) (g : Gate) : (s.setGate o g).ps = s.ps := rfl
@[simp] theorem setGate_sc (o : Origin) (g : Gate) : (s.setGate o g).sc = s.sc := rfl
@[simp] theorem setGate_mp (o : Origin) (g : Gate) : (s.setGate o g).mp = s.mp := rfl
@[simp] theorem setGate_ot (o : Origin) (g : Gate) : (s.setGate o g).ot = s.ot := rfl
@[simp] theorem setGate_tu (o : Origin) (g : Gate) : (s.setGate o g).tu = s.tu := rfl
@[simp] theorem setGate_ce (o : Origin) (g : Gate) : (s.setGate o g).ce = s.ce := rfl
@[simp] theorem setGate_ss (o : Origin) (g : Gate) : (s.setGate o g).ss = s.ss := rfl
@[simp] theorem setGate_co (o : Origin) (g : Gate) : (s.setGate o g).co = s.co := rfl
@[simp] theorem setGate_lc (o : Origin) (g : Gate) : (s.setGate o g).lc = s.lc := rfl
@[simp] theorem setGate_wu (o : Origin) (g : Gate) : (s.setGate o g).wu = s.wu := rfl
@[simp] theorem setGate_freeCount (o : Origin) (g : Gate) : (s.setGate o g).freeCount = s.freeCount := rfl
@[simp] theorem setGate_layers_kept (o : Origin) (g : Gate) : (s.setGate o g).lt.layers = s.lt.layers := rfl
@[simp] theorem setGate_gates (o : Origin) (g : Gate) : (s.setGate o g).lt.gates = setAt s.lt.gates o.idx g := rfl

/-! ## setFlagBits -/

@[simp] theorem setFlagBits_pending (f : BitVec 32) : (s.setFlagBits f).pending = s.pending := rfl
@[simp] theorem setFlagBits_ps (f : BitVec 32) : (s.setFlagBits f).ps = s.ps := rfl
@[simp] theorem setFlagBits_sc (f : BitVec 32) : (s.setFlagBits f).sc = s.sc := rfl
@[simp] theorem setFlagBits_mp (f : BitVec 32) : (s.setFlagBits f).mp = s.mp := rfl
@[simp] theorem setFlagBits_ot (f : BitVec 32) : (s.setFlagBits f).ot = s.ot := rfl
@[simp] theorem setFlagBits_ce (f : BitVec 32) : (s.setFlagBits f).ce = s.ce := rfl
@[simp] theorem setFlagBits_lt (f : BitVec 32) : (s.setFlagBits f).lt = s.lt := rfl
@[simp] theorem setFlagBits_ss (f : BitVec 32) : (s.setFlagBits f).ss = s.ss := rfl
@[simp] theorem setFlagBits_co (f : BitVec 32) : (s.setFlagBits f).co = s.co := rfl
@[simp] theorem setFlagBits_lc (f : BitVec 32) : (s.setFlagBits f).lc = s.lc := rfl
@[simp] theorem setFlagBits_wu (f : BitVec 32) : (s.setFlagBits f).wu = s.wu := rfl
@[simp] theorem setFlagBits_freeCount (f : BitVec 32) : (s.setFlagBits f).freeCount = s.freeCount := rfl
@[simp] theorem setFlagBits_lines_kept (f : BitVec 32) : (s.setFlagBits f).tu.lines = s.tu.lines := rfl
@[simp] theorem setFlagBits_captures_kept (f : BitVec 32) : (s.setFlagBits f).tu.captures = s.tu.captures := rfl
@[simp] theorem setFlagBits_flags (f : BitVec 32) : (s.setFlagBits f).tu.flags = f := rfl
@[simp] theorem setFlagBits_writers_kept (f : BitVec 32) : (s.setFlagBits f).tu.writers = s.tu.writers := rfl
@[simp] theorem setFlagBits_binds_kept (f : BitVec 32) : (s.setFlagBits f).tu.binds = s.tu.binds := rfl
@[simp] theorem setFlagBits_wakeList_kept (f : BitVec 32) : (s.setFlagBits f).tu.wakeList = s.tu.wakeList := rfl

/-! ## setLineRec -/

@[simp] theorem setLineRec_pending (t : LineNo) (x : Line) : (s.setLineRec t x).pending = s.pending := rfl
@[simp] theorem setLineRec_ps (t : LineNo) (x : Line) : (s.setLineRec t x).ps = s.ps := rfl
@[simp] theorem setLineRec_sc (t : LineNo) (x : Line) : (s.setLineRec t x).sc = s.sc := rfl
@[simp] theorem setLineRec_mp (t : LineNo) (x : Line) : (s.setLineRec t x).mp = s.mp := rfl
@[simp] theorem setLineRec_ot (t : LineNo) (x : Line) : (s.setLineRec t x).ot = s.ot := rfl
@[simp] theorem setLineRec_ce (t : LineNo) (x : Line) : (s.setLineRec t x).ce = s.ce := rfl
@[simp] theorem setLineRec_lt (t : LineNo) (x : Line) : (s.setLineRec t x).lt = s.lt := rfl
@[simp] theorem setLineRec_ss (t : LineNo) (x : Line) : (s.setLineRec t x).ss = s.ss := rfl
@[simp] theorem setLineRec_co (t : LineNo) (x : Line) : (s.setLineRec t x).co = s.co := rfl
@[simp] theorem setLineRec_lc (t : LineNo) (x : Line) : (s.setLineRec t x).lc = s.lc := rfl
@[simp] theorem setLineRec_wu (t : LineNo) (x : Line) : (s.setLineRec t x).wu = s.wu := rfl
@[simp] theorem setLineRec_freeCount (t : LineNo) (x : Line) : (s.setLineRec t x).freeCount = s.freeCount := rfl
@[simp] theorem setLineRec_lines (t : LineNo) (x : Line) : (s.setLineRec t x).tu.lines = setAt s.tu.lines t x := rfl
@[simp] theorem setLineRec_captures_kept (t : LineNo) (x : Line) : (s.setLineRec t x).tu.captures = s.tu.captures := rfl
@[simp] theorem setLineRec_flags_kept (t : LineNo) (x : Line) : (s.setLineRec t x).tu.flags = s.tu.flags := rfl
@[simp] theorem setLineRec_writers_kept (t : LineNo) (x : Line) : (s.setLineRec t x).tu.writers = s.tu.writers := rfl
@[simp] theorem setLineRec_binds_kept (t : LineNo) (x : Line) : (s.setLineRec t x).tu.binds = s.tu.binds := rfl
@[simp] theorem setLineRec_wakeList_kept (t : LineNo) (x : Line) : (s.setLineRec t x).tu.wakeList = s.tu.wakeList := rfl

/-! ## setCapture -/

@[simp] theorem setCapture_pending (t : LineNo) (x : Capture) : (s.setCapture t x).pending = s.pending := rfl
@[simp] theorem setCapture_ps (t : LineNo) (x : Capture) : (s.setCapture t x).ps = s.ps := rfl
@[simp] theorem setCapture_sc (t : LineNo) (x : Capture) : (s.setCapture t x).sc = s.sc := rfl
@[simp] theorem setCapture_mp (t : LineNo) (x : Capture) : (s.setCapture t x).mp = s.mp := rfl
@[simp] theorem setCapture_ot (t : LineNo) (x : Capture) : (s.setCapture t x).ot = s.ot := rfl
@[simp] theorem setCapture_ce (t : LineNo) (x : Capture) : (s.setCapture t x).ce = s.ce := rfl
@[simp] theorem setCapture_lt (t : LineNo) (x : Capture) : (s.setCapture t x).lt = s.lt := rfl
@[simp] theorem setCapture_ss (t : LineNo) (x : Capture) : (s.setCapture t x).ss = s.ss := rfl
@[simp] theorem setCapture_co (t : LineNo) (x : Capture) : (s.setCapture t x).co = s.co := rfl
@[simp] theorem setCapture_lc (t : LineNo) (x : Capture) : (s.setCapture t x).lc = s.lc := rfl
@[simp] theorem setCapture_wu (t : LineNo) (x : Capture) : (s.setCapture t x).wu = s.wu := rfl
@[simp] theorem setCapture_freeCount (t : LineNo) (x : Capture) : (s.setCapture t x).freeCount = s.freeCount := rfl
@[simp] theorem setCapture_lines_kept (t : LineNo) (x : Capture) : (s.setCapture t x).tu.lines = s.tu.lines := rfl
@[simp] theorem setCapture_captures (t : LineNo) (x : Capture) : (s.setCapture t x).tu.captures = setAt s.tu.captures t x := rfl
@[simp] theorem setCapture_flags_kept (t : LineNo) (x : Capture) : (s.setCapture t x).tu.flags = s.tu.flags := rfl
@[simp] theorem setCapture_writers_kept (t : LineNo) (x : Capture) : (s.setCapture t x).tu.writers = s.tu.writers := rfl
@[simp] theorem setCapture_binds_kept (t : LineNo) (x : Capture) : (s.setCapture t x).tu.binds = s.tu.binds := rfl
@[simp] theorem setCapture_wakeList_kept (t : LineNo) (x : Capture) : (s.setCapture t x).tu.wakeList = s.tu.wakeList := rfl

/-! ## setWriter -/

@[simp] theorem setWriter_pending (f : FlagNo) (w : Writer) : (s.setWriter f w).pending = s.pending := rfl
@[simp] theorem setWriter_ps (f : FlagNo) (w : Writer) : (s.setWriter f w).ps = s.ps := rfl
@[simp] theorem setWriter_sc (f : FlagNo) (w : Writer) : (s.setWriter f w).sc = s.sc := rfl
@[simp] theorem setWriter_mp (f : FlagNo) (w : Writer) : (s.setWriter f w).mp = s.mp := rfl
@[simp] theorem setWriter_ot (f : FlagNo) (w : Writer) : (s.setWriter f w).ot = s.ot := rfl
@[simp] theorem setWriter_ce (f : FlagNo) (w : Writer) : (s.setWriter f w).ce = s.ce := rfl
@[simp] theorem setWriter_lt (f : FlagNo) (w : Writer) : (s.setWriter f w).lt = s.lt := rfl
@[simp] theorem setWriter_ss (f : FlagNo) (w : Writer) : (s.setWriter f w).ss = s.ss := rfl
@[simp] theorem setWriter_co (f : FlagNo) (w : Writer) : (s.setWriter f w).co = s.co := rfl
@[simp] theorem setWriter_lc (f : FlagNo) (w : Writer) : (s.setWriter f w).lc = s.lc := rfl
@[simp] theorem setWriter_wu (f : FlagNo) (w : Writer) : (s.setWriter f w).wu = s.wu := rfl
@[simp] theorem setWriter_freeCount (f : FlagNo) (w : Writer) : (s.setWriter f w).freeCount = s.freeCount := rfl
@[simp] theorem setWriter_lines_kept (f : FlagNo) (w : Writer) : (s.setWriter f w).tu.lines = s.tu.lines := rfl
@[simp] theorem setWriter_captures_kept (f : FlagNo) (w : Writer) : (s.setWriter f w).tu.captures = s.tu.captures := rfl
@[simp] theorem setWriter_flags_kept (f : FlagNo) (w : Writer) : (s.setWriter f w).tu.flags = s.tu.flags := rfl
@[simp] theorem setWriter_writers (f : FlagNo) (w : Writer) : (s.setWriter f w).tu.writers = setAt s.tu.writers f w := rfl
@[simp] theorem setWriter_binds_kept (f : FlagNo) (w : Writer) : (s.setWriter f w).tu.binds = s.tu.binds := rfl
@[simp] theorem setWriter_wakeList_kept (f : FlagNo) (w : Writer) : (s.setWriter f w).tu.wakeList = s.tu.wakeList := rfl

/-! ## setBind -/

@[simp] theorem setBind_pending (i : BindNo) (e : Option BindEntry) : (s.setBind i e).pending = s.pending := rfl
@[simp] theorem setBind_ps (i : BindNo) (e : Option BindEntry) : (s.setBind i e).ps = s.ps := rfl
@[simp] theorem setBind_sc (i : BindNo) (e : Option BindEntry) : (s.setBind i e).sc = s.sc := rfl
@[simp] theorem setBind_mp (i : BindNo) (e : Option BindEntry) : (s.setBind i e).mp = s.mp := rfl
@[simp] theorem setBind_ot (i : BindNo) (e : Option BindEntry) : (s.setBind i e).ot = s.ot := rfl
@[simp] theorem setBind_ce (i : BindNo) (e : Option BindEntry) : (s.setBind i e).ce = s.ce := rfl
@[simp] theorem setBind_lt (i : BindNo) (e : Option BindEntry) : (s.setBind i e).lt = s.lt := rfl
@[simp] theorem setBind_ss (i : BindNo) (e : Option BindEntry) : (s.setBind i e).ss = s.ss := rfl
@[simp] theorem setBind_co (i : BindNo) (e : Option BindEntry) : (s.setBind i e).co = s.co := rfl
@[simp] theorem setBind_lc (i : BindNo) (e : Option BindEntry) : (s.setBind i e).lc = s.lc := rfl
@[simp] theorem setBind_wu (i : BindNo) (e : Option BindEntry) : (s.setBind i e).wu = s.wu := rfl
@[simp] theorem setBind_freeCount (i : BindNo) (e : Option BindEntry) : (s.setBind i e).freeCount = s.freeCount := rfl
@[simp] theorem setBind_lines_kept (i : BindNo) (e : Option BindEntry) : (s.setBind i e).tu.lines = s.tu.lines := rfl
@[simp] theorem setBind_captures_kept (i : BindNo) (e : Option BindEntry) : (s.setBind i e).tu.captures = s.tu.captures := rfl
@[simp] theorem setBind_flags_kept (i : BindNo) (e : Option BindEntry) : (s.setBind i e).tu.flags = s.tu.flags := rfl
@[simp] theorem setBind_writers_kept (i : BindNo) (e : Option BindEntry) : (s.setBind i e).tu.writers = s.tu.writers := rfl
@[simp] theorem setBind_binds (i : BindNo) (e : Option BindEntry) : (s.setBind i e).tu.binds = setAt s.tu.binds i e := rfl
@[simp] theorem setBind_wakeList_kept (i : BindNo) (e : Option BindEntry) : (s.setBind i e).tu.wakeList = s.tu.wakeList := rfl

/-! ## setWakeList -/

@[simp] theorem setWakeList_pending (l : List WakeEntry) : (s.setWakeList l).pending = s.pending := rfl
@[simp] theorem setWakeList_ps (l : List WakeEntry) : (s.setWakeList l).ps = s.ps := rfl
@[simp] theorem setWakeList_sc (l : List WakeEntry) : (s.setWakeList l).sc = s.sc := rfl
@[simp] theorem setWakeList_mp (l : List WakeEntry) : (s.setWakeList l).mp = s.mp := rfl
@[simp] theorem setWakeList_ot (l : List WakeEntry) : (s.setWakeList l).ot = s.ot := rfl
@[simp] theorem setWakeList_ce (l : List WakeEntry) : (s.setWakeList l).ce = s.ce := rfl
@[simp] theorem setWakeList_lt (l : List WakeEntry) : (s.setWakeList l).lt = s.lt := rfl
@[simp] theorem setWakeList_ss (l : List WakeEntry) : (s.setWakeList l).ss = s.ss := rfl
@[simp] theorem setWakeList_co (l : List WakeEntry) : (s.setWakeList l).co = s.co := rfl
@[simp] theorem setWakeList_lc (l : List WakeEntry) : (s.setWakeList l).lc = s.lc := rfl
@[simp] theorem setWakeList_wu (l : List WakeEntry) : (s.setWakeList l).wu = s.wu := rfl
@[simp] theorem setWakeList_freeCount (l : List WakeEntry) : (s.setWakeList l).freeCount = s.freeCount := rfl
@[simp] theorem setWakeList_lines_kept (l : List WakeEntry) : (s.setWakeList l).tu.lines = s.tu.lines := rfl
@[simp] theorem setWakeList_captures_kept (l : List WakeEntry) : (s.setWakeList l).tu.captures = s.tu.captures := rfl
@[simp] theorem setWakeList_flags_kept (l : List WakeEntry) : (s.setWakeList l).tu.flags = s.tu.flags := rfl
@[simp] theorem setWakeList_writers_kept (l : List WakeEntry) : (s.setWakeList l).tu.writers = s.tu.writers := rfl
@[simp] theorem setWakeList_binds_kept (l : List WakeEntry) : (s.setWakeList l).tu.binds = s.tu.binds := rfl
@[simp] theorem setWakeList_wakeList (l : List WakeEntry) : (s.setWakeList l).tu.wakeList = l := rfl

/-! ## setLoop -/

@[simp] theorem setLoop_pending (l : LoopNo) (x : Loop) : (s.setLoop l x).pending = s.pending := rfl
@[simp] theorem setLoop_ps (l : LoopNo) (x : Loop) : (s.setLoop l x).ps = s.ps := rfl
@[simp] theorem setLoop_sc (l : LoopNo) (x : Loop) : (s.setLoop l x).sc = s.sc := rfl
@[simp] theorem setLoop_mp (l : LoopNo) (x : Loop) : (s.setLoop l x).mp = s.mp := rfl
@[simp] theorem setLoop_ot (l : LoopNo) (x : Loop) : (s.setLoop l x).ot = s.ot := rfl
@[simp] theorem setLoop_tu (l : LoopNo) (x : Loop) : (s.setLoop l x).tu = s.tu := rfl
@[simp] theorem setLoop_ce (l : LoopNo) (x : Loop) : (s.setLoop l x).ce = s.ce := rfl
@[simp] theorem setLoop_lt (l : LoopNo) (x : Loop) : (s.setLoop l x).lt = s.lt := rfl
@[simp] theorem setLoop_ss (l : LoopNo) (x : Loop) : (s.setLoop l x).ss = s.ss := rfl
@[simp] theorem setLoop_co (l : LoopNo) (x : Loop) : (s.setLoop l x).co = s.co := rfl
@[simp] theorem setLoop_wu (l : LoopNo) (x : Loop) : (s.setLoop l x).wu = s.wu := rfl
@[simp] theorem setLoop_freeCount (l : LoopNo) (x : Loop) : (s.setLoop l x).freeCount = s.freeCount := rfl
@[simp] theorem setLoop_loops (l : LoopNo) (x : Loop) : (s.setLoop l x).lc.loops = setAt s.lc.loops l x := rfl
@[simp] theorem setLoop_health_kept (l : LoopNo) (x : Loop) : (s.setLoop l x).lc.health = s.lc.health := rfl

/-! ## setHealth -/

@[simp] theorem setHealth_pending (lam : LampNo) (h : Health) : (s.setHealth lam h).pending = s.pending := rfl
@[simp] theorem setHealth_ps (lam : LampNo) (h : Health) : (s.setHealth lam h).ps = s.ps := rfl
@[simp] theorem setHealth_sc (lam : LampNo) (h : Health) : (s.setHealth lam h).sc = s.sc := rfl
@[simp] theorem setHealth_mp (lam : LampNo) (h : Health) : (s.setHealth lam h).mp = s.mp := rfl
@[simp] theorem setHealth_ot (lam : LampNo) (h : Health) : (s.setHealth lam h).ot = s.ot := rfl
@[simp] theorem setHealth_tu (lam : LampNo) (h : Health) : (s.setHealth lam h).tu = s.tu := rfl
@[simp] theorem setHealth_ce (lam : LampNo) (h : Health) : (s.setHealth lam h).ce = s.ce := rfl
@[simp] theorem setHealth_lt (lam : LampNo) (h : Health) : (s.setHealth lam h).lt = s.lt := rfl
@[simp] theorem setHealth_ss (lam : LampNo) (h : Health) : (s.setHealth lam h).ss = s.ss := rfl
@[simp] theorem setHealth_co (lam : LampNo) (h : Health) : (s.setHealth lam h).co = s.co := rfl
@[simp] theorem setHealth_wu (lam : LampNo) (h : Health) : (s.setHealth lam h).wu = s.wu := rfl
@[simp] theorem setHealth_freeCount (lam : LampNo) (h : Health) : (s.setHealth lam h).freeCount = s.freeCount := rfl
@[simp] theorem setHealth_loops_kept (lam : LampNo) (h : Health) : (s.setHealth lam h).lc.loops = s.lc.loops := rfl
@[simp] theorem setHealth_health (lam : LampNo) (h : Health) : (s.setHealth lam h).lc.health = setAt s.lc.health lam h := rfl

/-! ## setLimit -/

@[simp] theorem setLimit_pending (l : LoopNo) (x : Limit) : (s.setLimit l x).pending = s.pending := rfl
@[simp] theorem setLimit_ps (l : LoopNo) (x : Limit) : (s.setLimit l x).ps = s.ps := rfl
@[simp] theorem setLimit_sc (l : LoopNo) (x : Limit) : (s.setLimit l x).sc = s.sc := rfl
@[simp] theorem setLimit_mp (l : LoopNo) (x : Limit) : (s.setLimit l x).mp = s.mp := rfl
@[simp] theorem setLimit_ot (l : LoopNo) (x : Limit) : (s.setLimit l x).ot = s.ot := rfl
@[simp] theorem setLimit_tu (l : LoopNo) (x : Limit) : (s.setLimit l x).tu = s.tu := rfl
@[simp] theorem setLimit_ce (l : LoopNo) (x : Limit) : (s.setLimit l x).ce = s.ce := rfl
@[simp] theorem setLimit_lt (l : LoopNo) (x : Limit) : (s.setLimit l x).lt = s.lt := rfl
@[simp] theorem setLimit_ss (l : LoopNo) (x : Limit) : (s.setLimit l x).ss = s.ss := rfl
@[simp] theorem setLimit_lc (l : LoopNo) (x : Limit) : (s.setLimit l x).lc = s.lc := rfl
@[simp] theorem setLimit_wu (l : LoopNo) (x : Limit) : (s.setLimit l x).wu = s.wu := rfl
@[simp] theorem setLimit_freeCount (l : LoopNo) (x : Limit) : (s.setLimit l x).freeCount = s.freeCount := rfl
@[simp] theorem setLimit_zones_kept (l : LoopNo) (x : Limit) : (s.setLimit l x).co.zones = s.co.zones := rfl
@[simp] theorem setLimit_glare_kept (l : LoopNo) (x : Limit) : (s.setLimit l x).co.glare = s.co.glare := rfl
@[simp] theorem setLimit_bins_kept (l : LoopNo) (x : Limit) : (s.setLimit l x).co.bins = s.co.bins := rfl
@[simp] theorem setLimit_lampBin_kept (l : LoopNo) (x : Limit) : (s.setLimit l x).co.lampBin = s.co.lampBin := rfl
@[simp] theorem setLimit_chains_kept (l : LoopNo) (x : Limit) : (s.setLimit l x).co.chains = s.co.chains := rfl
@[simp] theorem setLimit_limits (l : LoopNo) (x : Limit) : (s.setLimit l x).co.limits = setAt s.co.limits l x := rfl
@[simp] theorem setLimit_inFlight_kept (l : LoopNo) (x : Limit) : (s.setLimit l x).co.inFlight = s.co.inFlight := rfl

/-! ## setWatchRec -/

@[simp] theorem setWatchRec_pending (w : WatchNo) (x : Watch) : (s.setWatchRec w x).pending = s.pending := rfl
@[simp] theorem setWatchRec_ps (w : WatchNo) (x : Watch) : (s.setWatchRec w x).ps = s.ps := rfl
@[simp] theorem setWatchRec_sc (w : WatchNo) (x : Watch) : (s.setWatchRec w x).sc = s.sc := rfl
@[simp] theorem setWatchRec_mp (w : WatchNo) (x : Watch) : (s.setWatchRec w x).mp = s.mp := rfl
@[simp] theorem setWatchRec_ot (w : WatchNo) (x : Watch) : (s.setWatchRec w x).ot = s.ot := rfl
@[simp] theorem setWatchRec_tu (w : WatchNo) (x : Watch) : (s.setWatchRec w x).tu = s.tu := rfl
@[simp] theorem setWatchRec_ce (w : WatchNo) (x : Watch) : (s.setWatchRec w x).ce = s.ce := rfl
@[simp] theorem setWatchRec_lt (w : WatchNo) (x : Watch) : (s.setWatchRec w x).lt = s.lt := rfl
@[simp] theorem setWatchRec_ss (w : WatchNo) (x : Watch) : (s.setWatchRec w x).ss = s.ss := rfl
@[simp] theorem setWatchRec_co (w : WatchNo) (x : Watch) : (s.setWatchRec w x).co = s.co := rfl
@[simp] theorem setWatchRec_lc (w : WatchNo) (x : Watch) : (s.setWatchRec w x).lc = s.lc := rfl
@[simp] theorem setWatchRec_freeCount (w : WatchNo) (x : Watch) : (s.setWatchRec w x).freeCount = s.freeCount := rfl
@[simp] theorem setWatchRec_watches (w : WatchNo) (x : Watch) : (s.setWatchRec w x).wu.watches = setAt s.wu.watches w x := rfl
@[simp] theorem setWatchRec_sig0_kept (w : WatchNo) (x : Watch) : (s.setWatchRec w x).wu.sig0 = s.wu.sig0 := rfl
@[simp] theorem setWatchRec_sig1_kept (w : WatchNo) (x : Watch) : (s.setWatchRec w x).wu.sig1 = s.wu.sig1 := rfl

/-! ## setPartState -/

@[simp] theorem setPartState_pending (p : PartState) : (s.setPartState p).pending = s.pending := rfl
@[simp] theorem setPartState_sc (p : PartState) : (s.setPartState p).sc = s.sc := rfl
@[simp] theorem setPartState_mp (p : PartState) : (s.setPartState p).mp = s.mp := rfl
@[simp] theorem setPartState_ot (p : PartState) : (s.setPartState p).ot = s.ot := rfl
@[simp] theorem setPartState_tu (p : PartState) : (s.setPartState p).tu = s.tu := rfl
@[simp] theorem setPartState_ce (p : PartState) : (s.setPartState p).ce = s.ce := rfl
@[simp] theorem setPartState_lt (p : PartState) : (s.setPartState p).lt = s.lt := rfl
@[simp] theorem setPartState_ss (p : PartState) : (s.setPartState p).ss = s.ss := rfl
@[simp] theorem setPartState_co (p : PartState) : (s.setPartState p).co = s.co := rfl
@[simp] theorem setPartState_lc (p : PartState) : (s.setPartState p).lc = s.lc := rfl
@[simp] theorem setPartState_wu (p : PartState) : (s.setPartState p).wu = s.wu := rfl
@[simp] theorem setPartState_freeCount (p : PartState) : (s.setPartState p).freeCount = s.freeCount := rfl
@[simp] theorem setPartState_state (p : PartState) : (s.setPartState p).ps.state = p := rfl
@[simp] theorem setPartState_resetHeld_kept (p : PartState) : (s.setPartState p).ps.resetHeld = s.ps.resetHeld := rfl
@[simp] theorem setPartState_wakeSince_kept (p : PartState) : (s.setPartState p).ps.wakeSince = s.ps.wakeSince := rfl

/-! ## setChan -/

@[simp] theorem setChan_pending (ch : Chan) (c : Channel) : (s.setChan ch c).pending = s.pending := by cases ch <;> rfl
@[simp] theorem setChan_ps (ch : Chan) (c : Channel) : (s.setChan ch c).ps = s.ps := by cases ch <;> rfl
@[simp] theorem setChan_sc (ch : Chan) (c : Channel) : (s.setChan ch c).sc = s.sc := by cases ch <;> rfl
@[simp] theorem setChan_ot (ch : Chan) (c : Channel) : (s.setChan ch c).ot = s.ot := by cases ch <;> rfl
@[simp] theorem setChan_tu (ch : Chan) (c : Channel) : (s.setChan ch c).tu = s.tu := by cases ch <;> rfl
@[simp] theorem setChan_ce (ch : Chan) (c : Channel) : (s.setChan ch c).ce = s.ce := by cases ch <;> rfl
@[simp] theorem setChan_lt (ch : Chan) (c : Channel) : (s.setChan ch c).lt = s.lt := by cases ch <;> rfl
@[simp] theorem setChan_ss (ch : Chan) (c : Channel) : (s.setChan ch c).ss = s.ss := by cases ch <;> rfl
@[simp] theorem setChan_co (ch : Chan) (c : Channel) : (s.setChan ch c).co = s.co := by cases ch <;> rfl
@[simp] theorem setChan_lc (ch : Chan) (c : Channel) : (s.setChan ch c).lc = s.lc := by cases ch <;> rfl
@[simp] theorem setChan_wu (ch : Chan) (c : Channel) : (s.setChan ch c).wu = s.wu := by cases ch <;> rfl
@[simp] theorem setChan_freeCount (ch : Chan) (c : Channel) : (s.setChan ch c).freeCount = s.freeCount := by cases ch <;> rfl
@[simp] theorem setChan_strap_kept (ch : Chan) (c : Channel) : (s.setChan ch c).mp.strap = s.mp.strap := by cases ch <;> rfl
@[simp] theorem setChan_ports_kept (ch : Chan) (c : Channel) : (s.setChan ch c).mp.ports = s.mp.ports := by cases ch <;> rfl
@[simp] theorem setChan_same (ch : Chan) (c : Channel) : (s.setChan ch c).chan ch = c := by cases ch <;> rfl
theorem setChan_other (ch d : Chan) (c : Channel) (h : d ≠ ch) : (s.setChan ch c).chan d = s.chan d := by
  cases ch <;> cases d <;> first | rfl | exact absurd rfl h
@[simp] theorem setChan_port (ch : Chan) (c : Channel) (o : Origin) : (s.setChan ch c).port o = s.port o := by cases ch <;> rfl

/-! ## What a record reads as after its update -/

theorem idx_inj {o q : Origin} (h : o.idx = q.idx) : o = q := by
  cases o <;> cases q <;> first | rfl | simp [Origin.idx] at h

@[simp] theorem setPort_same (o : Origin) (p : Port) : (s.setPort o p).port o = p := by
  simp [State.port]

theorem setPort_port (o q : Origin) (p : Port) : (s.setPort o p).port q = if q = o then p else s.port q := by
  unfold State.port
  rw [setPort_ports, setAt_get]
  by_cases h : q = o
  · simp [h]
  · have : q.idx ≠ o.idx := fun e => h (idx_inj e)
    simp [h, this]

@[simp] theorem setPort_other (o q : Origin) (p : Port) (h : q ≠ o) : (s.setPort o p).port q = s.port q := by
  rw [setPort_port, if_neg h]

theorem setGate_gate (o q : Origin) (g : Gate) : (s.setGate o g).gate q = if q = o then g else s.gate q := by
  unfold State.gate
  rw [setGate_gates, setAt_get]
  by_cases h : q = o
  · simp [h]
  · have : q.idx ≠ o.idx := fun e => h (idx_inj e)
    simp [h, this]

/-- Two replacements of one origin's port: the later stands. -/
@[simp] theorem setPort_setPort (o : Origin) (p q : Port) : (s.setPort o p).setPort o q = s.setPort o q := by
  simp [State.setPort]

end Sys2Proof.Machine
end

