-- ==== Sys2Proof/Laws/Ops.lean ====
section
/-! SUPPORT. For each shared operation, once, everything it can do: guarded steps, taking a request, replies, notices, the
two buffers, release crossfades, the start queue, a compose that read SETUP. -/

namespace Sys2Proof.Machine

/-! ## Guarded steps -/

/-- A live step answers the state it was given or, with the RESET pin not asserted, its effect. -/
theorem live_next {s n t : State} (h : s.live n = .next t) :
    s.ps.resetHeld = true ∧ t = s ∨ s.ps.resetHeld = false ∧ t = n := by
  unfold State.live at h
  cases hr : s.ps.resetHeld <;> simp [hr] at h <;> simp [h]

/-- A conditional step answers the state it was given or, where its condition stands and the pin is not asserted, its
effect. -/
theorem liveWhen_next {s n t : State} {c : Bool} (h : s.liveWhen c n = .next t) :
    t = s ∨ s.ps.resetHeld = false ∧ c = true ∧ t = n := by
  rcases live_next h with ⟨_, rfl⟩ | ⟨hr, rfl⟩
  · exact .inl rfl
  · cases c
    · exact .inl rfl
    · exact .inr ⟨hr, rfl, rfl⟩

@[simp] theorem liveWhen_false (s n : State) : s.liveWhen false n = .next s := by simp [State.liveWhen, State.live]

theorem live_held {s : State} (n : State) (h : s.ps.resetHeld = true) : s.live n = .next s := by simp [State.live, h]

theorem live_free {s : State} (n : State) (h : s.ps.resetHeld = false) : s.live n = .next n := by simp [State.live, h]

theorem liveWhen_true {s : State} (n : State) (h : s.ps.resetHeld = false) : s.liveWhen true n = .next n := by
  simp [State.liveWhen, State.live, h]

/-! ## Checks -/

@[simp] theorem require_false_bind {α : Type} (c : Code) (f : Unit → Except Code α) :
    (require false c >>= f) = f () := rfl

@[simp] theorem require_true_bind {α : Type} (c : Code) (f : Unit → Except Code α) :
    (require true c >>= f) = .error c := rfl

@[simp] theorem found_some_bind {α β : Type} (a : α) (c : Code) (f : α → Except Code β) :
    (found (some a) c >>= f) = f a := rfl

@[simp] theorem found_none_bind {α β : Type} (c : Code) (f : α → Except Code β) :
    (found (none : Option α) c >>= f) = .error c := rfl

@[simp] theorem answer_ok (tk : Taken) (s t : State) : answer tk s (.ok t) = t := rfl

@[simp] theorem answer_error (tk : Taken) (s : State) (c : Code) : answer tk s (.error c) = s.refuse tk c := rfl

@[simp] theorem fin?_lt {n k : Nat} (h : k < n) : fin? n k = some ⟨k, h⟩ := by simp [fin?, h]

@[simp] theorem fin?_val {n : Nat} (i : Fin n) : fin? n i.val = some i := by simp [fin?, i.isLt]

theorem fin?_ge {n k : Nat} (h : n ≤ k) : fin? n k = none := by simp [fin?, Nat.not_lt.mpr h]

/-! ## Taking a request -/

@[simp] theorem popIntake_port (s : State) (o : Origin) :
    (s.popIntake o).port o = { s.port o with intake := (s.port o).intake.tail } := by
  simp [State.popIntake]

theorem setPort_self (s : State) (o : Origin) : s.setPort o (s.port o) = s := by
  simp only [State.setPort, State.port, setAt_self]

/-- Taking a request changes nothing, or it is the front one, of the kind asked for, that the part state and the transmit
queue let be taken; then it is a short frame, or its owning block serves it (R178, R179). -/
theorem takeRequest_next {k : Option Kind} {o : Origin} {s t : State} {serve : Taken → State → State}
    (h : takeRequest k o s serve = .next t) :
    t = s ∨ ∃ rq, s.ps.resetHeld = false ∧ s.ps.state.takes = true ∧ (s.port o).intake.head? = some rq ∧
      kindOf? (byteAt rq.data 0) = k ∧ (k = some .streamFrame ∨ (s.port o).tx.length < 8) ∧
      match k with
      | none => t = serve ⟨o, rq⟩ (s.popIntake o)
      | some k =>
        if rq.data.length < requiredLength k rq.data then
          t = if k = .streamFrame then s.popIntake o else (s.popIntake o).refuse ⟨o, rq⟩ .badValue
        else t = serve ⟨o, rq⟩ (s.popIntake o) := by
  unfold takeRequest at h
  cases hr : s.ready o with
  | none => rw [hr] at h; exact .inl (by simpa using h.symm)
  | some rq =>
    rw [hr] at h
    unfold State.ready at hr
    cases hi : (s.port o).intake with
    | nil => simp [hi] at hr
    | cons a as =>
      simp only [hi] at hr
      split at hr
      · rename_i hc
        obtain rfl : a = rq := by simpa using hr
        rcases liveWhen_next h with rfl | ⟨hp, hk, rfl⟩
        · exact .inl rfl
        · have hk' : kindOf? (byteAt a.data 0) = k := by simpa [Intake.kind?] using hk
          refine .inr ⟨a, hp, ?_, rfl, hk', ?_, ?_⟩
          · simp [State.canTake] at hc; exact hc.1
          · simp [State.canTake, Intake.kind?, hk', queuePlaces] at hc
            exact hc.2.symm.imp_right of_decide_eq_true
          · cases k with
            | none => rfl
            | some k =>
              simp only [shortFrame]
              by_cases hs : a.data.length < requiredLength k a.data <;> simp [hs]
      · simp at hr

/-- A request at the front that can be taken: a short frame is refused, any other is served. -/
theorem takeRequest_fronts {s : State} {o : Origin} {k : Kind} {rq : Intake} (serve : Taken → State → State)
    (h : Fronts s o k rq) :
    takeRequest (some k) o s serve = .next
      (if rq.data.length < requiredLength k rq.data then
        (if k = .streamFrame then s.popIntake o else (s.popIntake o).refuse ⟨o, rq⟩ .badValue)
      else serve ⟨o, rq⟩ (s.popIntake o)) := by
  obtain ⟨hr, ht, hi, hk, htx⟩ := h
  have hready : s.ready o = some rq := by
    unfold State.ready
    cases he : (s.port o).intake with
    | nil => simp [he] at hi
    | cons a as =>
      obtain rfl : a = rq := by simpa [he] using hi
      have : s.canTake o a = true := by
        rcases htx with e | e
        · simp [State.canTake, ht, Intake.kind?, hk, e]
        · simp [State.canTake, ht, queuePlaces, e]
      simp [this]
  simp only [takeRequest, hready, Intake.kind?, hk, beq_self_eq_true, liveWhen_true _ hr, shortFrame, decide_eq_true_eq]

/-- A request that reaches its owning block is served by it. -/
theorem takeRequest_takes {s : State} {o : Origin} {k : Kind} {rq : Intake} (serve : Taken → State → State)
    (h : Takes s o k rq) : takeRequest (some k) o s serve = .next (serve ⟨o, rq⟩ (s.popIntake o)) := by
  rw [takeRequest_fronts serve h.1, if_neg (Nat.not_lt.mpr h.2)]

/-- Requests wait in ASLEEP and WAKING (R178). -/
theorem takeRequest_waits {s : State} {o : Origin} {k : Option Kind} (serve : Taken → State → State)
    (h : s.ps.state.takes = false) : takeRequest k o s serve = .next s := by
  have : s.ready o = none := by
    unfold State.ready
    cases he : (s.port o).intake with
    | nil => rfl
    | cons a as => simp [State.canTake, h]
  simp [takeRequest, this]

/-! ## Replies and notices -/

/-- The reply of the request just taken leaves the state `served` names. -/
theorem reply_popIntake (s : State) (o : Origin) (rq : Intake) (c : Code) (clamped replaced : Bool) (result : List Byte) :
    (s.popIntake o).reply ⟨o, rq⟩ c clamped replaced result = served s o rq c clamped replaced result := by
  simp [State.reply, served, replyFrame, replyBytes, State.popIntake]

theorem refuse_popIntake (s : State) (o : Origin) (rq : Intake) (c : Code) :
    (s.popIntake o).refuse ⟨o, rq⟩ c = turnedAway s o rq c := reply_popIntake ..

theorem done_popIntake (s : State) (o : Origin) (rq : Intake) (result : List Byte) :
    (s.popIntake o).done ⟨o, rq⟩ result = served s o rq .done false false result := reply_popIntake ..

theorem OnlyNotices.refl (p : Port) : OnlyNotices p p :=
  ⟨rfl, rfl, rfl, rfl, id, [], by simp, by simp⟩

theorem OnlyNotices.trans {p q r : Port} (h : OnlyNotices p q) (g : OnlyNotices q r) : OnlyNotices p r := by
  obtain ⟨a1, a2, a3, a4, a5, ns, a6, a7⟩ := h
  obtain ⟨b1, b2, b3, b4, b5, ms, b6, b7⟩ := g
  refine ⟨b1.trans a1, b2.trans a2, b3.trans a3, b4.trans a4, fun x => b5 (a5 x), ns ++ ms, by simp [b6, a6], ?_⟩
  intro f hf
  rcases List.mem_append.mp hf with hf | hf
  · exact a7 f hf
  · exact b7 f hf

theorem NoticesOnly.refl (s : State) : NoticesOnly s s := fun _ => OnlyNotices.refl _

theorem NoticesOnly.trans {s t u : State} (h : NoticesOnly s t) (g : NoticesOnly t u) : NoticesOnly s u :=
  fun o => (h o).trans (g o)

/-- A notice to an origin changes nothing but that origin's port, and there it only queues a notice. -/
theorem notify_port (s : State) (o : Origin) (n : Notice) :
    s.notify o n = s.setPort o ((s.notify o n).port o) ∧ OnlyNotices (s.port o) ((s.notify o n).port o) := by
  unfold State.notify
  dsimp only
  split
  · split
    · exact ⟨by simp, by simp; exact ⟨rfl, rfl, rfl, rfl, id, _, rfl, by simp⟩⟩
    · exact ⟨by simp, by simp; exact ⟨rfl, rfl, rfl, rfl, fun _ => rfl, [], by simp, by simp⟩⟩
  · exact ⟨(setPort_self s o).symm, OnlyNotices.refl _⟩

/-- A notice to an origin touches the ports alone. -/
theorem notify_frame (s : State) (o : Origin) (n : Notice) :
    s.notify o n = { s with mp := { s.mp with ports := (s.notify o n).mp.ports } } := by
  rw [(notify_port s o n).1]; rfl

theorem notify_noticesOnly (s : State) (o : Origin) (n : Notice) : NoticesOnly s (s.notify o n) := by
  intro q
  by_cases h : q = o
  · subst h; exact (notify_port s q n).2
  · rw [(notify_port s o n).1, setPort_port, if_neg h]; exact OnlyNotices.refl _

theorem notifyAll_noticesOnly (s : State) (n : Notice) : NoticesOnly s (s.notifyAll n) := by
  simp only [State.notifyAll, Origin.all, List.foldl]
  exact NoticesOnly.trans (NoticesOnly.trans (NoticesOnly.trans (notify_noticesOnly _ _ _) (notify_noticesOnly _ _ _))
    (notify_noticesOnly _ _ _)) (notify_noticesOnly _ _ _)

/-- An every-origin notice touches the ports alone. -/
theorem notifyAll_frame (s : State) (n : Notice) :
    s.notifyAll n = { s with mp := { s.mp with ports := (s.notifyAll n).mp.ports } } := by
  simp only [State.notifyAll, Origin.all, List.foldl]
  rw [notify_frame _ .service, notify_frame _ .assist, notify_frame _ .media, notify_frame s .body]

/-! ## The two buffers -/

/-- No number listed in the buffer lies below `i`. -/
def Store.above {α : Type} (i : Nat) (m : Store α) : Prop := ∀ e ∈ m, i < e.1

theorem Store.wf_cons {α : Type} [DecidableEq α] (d : α) (i : Nat) (x : α) (m : Store α) :
    Store.wf d ((i, x) :: m) = true ↔ x ≠ d ∧ Store.wf d m = true ∧ Store.above i m := by
  induction m generalizing i x with
  | nil => simp [Store.wf, Store.above]
  | cons e m ih =>
    obtain ⟨j, y⟩ := e
    simp only [Store.wf, Bool.and_eq_true, bne_iff_ne, decide_eq_true_eq]
    constructor
    · rintro ⟨⟨h1, h2⟩, h3⟩
      refine ⟨h1, h3, ?_⟩
      intro e he
      rcases List.mem_cons.mp he with rfl | he
      · exact h2
      · exact Nat.lt_trans h2 (((ih j y).mp h3).2.2 e he)
    · rintro ⟨h1, h2, h3⟩
      exact ⟨⟨h1, h3 (j, y) (by simp)⟩, h2⟩

theorem readStore_above {α : Type} (d : α) {i : Nat} {m : Store α} (h : ∀ e ∈ m, i < e.1) : readStore d m i = d := by
  induction m with
  | nil => rfl
  | cons e m ih =>
    obtain ⟨j, y⟩ := e
    have hj : i < j := h (j, y) (by simp)
    rw [readStore, if_neg (Nat.ne_of_lt hj)]
    exact ih fun e he => h e (by simp [he])

/-- Reading after a write: the number written reads as what was written, every other as before. -/
theorem readStore_writeStore {α : Type} [DecidableEq α] (d : α) (m : Store α) (i : Nat) (x : α)
    (h : Store.wf d m = true) (j : Nat) :
    readStore d (writeStore d m i x) j = if j = i then x else readStore d m j := by
  induction m with
  | nil =>
    unfold writeStore
    split
    · rename_i hx; subst hx; split <;> rfl
    · simp only [readStore]
  | cons e m ih =>
    obtain ⟨k, y⟩ := e
    obtain ⟨hy, hm, ha⟩ := (Store.wf_cons d k y m).mp h
    unfold writeStore
    split
    · rename_i hik
      have hi : readStore d ((k, y) :: m) i = d := readStore_above d (by
        intro e he
        rcases List.mem_cons.mp he with rfl | he
        · exact hik
        · exact Nat.lt_trans hik (ha e he))
      split
      · rename_i hx; subst hx
        split
        · rename_i hj; subst hj; exact hi
        · rfl
      · rw [readStore]
    · split
      · rename_i hik; subst hik
        split
        · rename_i hx; subst hx
          by_cases hj : j = i
          · subst hj; rw [if_pos rfl]; exact readStore_above _ ha
          · rw [if_neg hj, readStore, if_neg hj]
        · by_cases hj : j = i
          · subst hj; simp [readStore]
          · simp [readStore, hj]
      · rw [readStore, ih hm]
        by_cases hj : j = k
        · subst hj
          rename_i h1 h2
          rw [if_pos rfl, if_neg (fun e => h2 e.symm), readStore, if_pos rfl]
        · rw [if_neg hj]
          by_cases hji : j = i
          · rw [if_pos hji, if_pos hji]
          · rw [if_neg hji, if_neg hji, readStore, if_neg hj]

theorem writeStore_above {α : Type} [DecidableEq α] (d : α) {m : Store α} {i k : Nat} (x : α) (hk : k < i)
    (h : Store.above k m) : Store.above k (writeStore d m i x) := by
  induction m with
  | nil =>
    unfold writeStore
    split
    · exact h
    · intro e he; obtain rfl : e = (i, x) := by simpa using he
      exact hk
  | cons e m ih =>
    obtain ⟨j, y⟩ := e
    have hm : Store.above k m := fun e he => h e (by simp [he])
    have hj : k < j := h (j, y) (by simp)
    have cons : ∀ (n : Nat) (z : α) (w : Store α), k < n → Store.above k w → Store.above k ((n, z) :: w) := by
      intro n z w hn hw e he
      rcases List.mem_cons.mp he with rfl | he
      · exact hn
      · exact hw e he
    unfold writeStore
    split
    · split
      · exact h
      · exact cons _ _ _ hk h
    · split
      · split
        · exact hm
        · exact cons _ _ _ hk hm
      · exact cons _ _ _ hj (ih hm)

/-- A write keeps the canonical form. -/
theorem writeStore_wf {α : Type} [DecidableEq α] (d : α) (m : Store α) (i : Nat) (x : α) (h : Store.wf d m = true) :
    Store.wf d (writeStore d m i x) = true := by
  induction m with
  | nil =>
    unfold writeStore
    split
    · rfl
    · simp [Store.wf, *]
  | cons e m ih =>
    obtain ⟨k, y⟩ := e
    obtain ⟨hy, hm, ha⟩ := (Store.wf_cons d k y m).mp h
    unfold writeStore
    split
    · rename_i hik
      split
      · exact h
      · refine (Store.wf_cons ..).mpr ⟨‹_›, h, ?_⟩
        intro e he
        rcases List.mem_cons.mp he with rfl | he
        · exact hik
        · exact Nat.lt_trans hik (ha e he)
    · split
      · rename_i hik; subst hik
        split
        · exact hm
        · exact (Store.wf_cons ..).mpr ⟨‹_›, hm, ha⟩
      · exact (Store.wf_cons ..).mpr ⟨hy, ih hm, writeStore_above d x (by omega) ha⟩

/-- A write adds no number but its own. -/
theorem writeStore_mem {α : Type} [DecidableEq α] (d : α) (m : Store α) (i : Nat) (x : α) (e : Nat × α)
    (h : e ∈ writeStore d m i x) : e ∈ m ∨ e.1 = i := by
  induction m with
  | nil =>
    unfold writeStore at h
    split at h
    · exact .inl h
    · exact .inr (by simp at h; simp [h])
  | cons a m ih =>
    obtain ⟨k, y⟩ := a
    unfold writeStore at h
    split at h
    · split at h
      · exact .inl h
      · rcases List.mem_cons.mp h with rfl | h
        · exact .inr rfl
        · exact .inl h
    · split at h
      · split at h
        · exact .inl (by simp [h])
        · rcases List.mem_cons.mp h with rfl | h
          · exact .inr rfl
          · exact .inl (by simp [h])
      · rcases List.mem_cons.mp h with rfl | h
        · exact .inl (by simp)
        · exact (ih h).imp_left fun h => by simp [h]

/-- A run of writes keeps the canonical form. -/
theorem writeRun_wf {α : Type} [DecidableEq α] (d : α) (xs : List α) (m : Store α) (first : Nat) (h : Store.wf d m = true) :
    Store.wf d (writeRun d m first xs) = true := by
  induction xs generalizing m first with
  | nil => exact h
  | cons x xs ih => exact ih _ _ (writeStore_wf d m first x h)

/-- A run of writes adds no number outside the run. -/
theorem writeRun_mem {α : Type} [DecidableEq α] (d : α) (xs : List α) (m : Store α) (first : Nat) (e : Nat × α)
    (h : e ∈ writeRun d m first xs) : e ∈ m ∨ first ≤ e.1 ∧ e.1 < first + xs.length := by
  induction xs generalizing m first with
  | nil => exact .inl h
  | cons x xs ih =>
    rcases ih _ _ h with h | h
    · rcases writeStore_mem d m first x e h with h | h
      · exact .inl h
      · exact .inr (by simp; omega)
    · exact .inr (by simp; omega)

/-- Reading after a run of writes: the run reads as what was written, every other number as before. -/
theorem readStore_writeRun {α : Type} [DecidableEq α] (d : α) (xs : List α) (m : Store α) (first : Nat)
    (h : Store.wf d m = true) (i : Nat) :
    readStore d (writeRun d m first xs) i =
      if first ≤ i ∧ i < first + xs.length then xs.getD (i - first) d else readStore d m i := by
  induction xs generalizing m first with
  | nil =>
    rw [if_neg (by simp)]; rfl
  | cons x xs ih =>
    rw [writeRun, ih _ _ (writeStore_wf d m first x h), readStore_writeStore d m first x h]
    by_cases h1 : i = first
    · subst h1
      rw [if_neg (by omega), if_pos rfl, if_pos (by simp)]
      simp
    · by_cases h2 : first + 1 ≤ i ∧ i < first + 1 + xs.length
      · rw [if_pos h2, if_pos (by simp; omega)]
        obtain ⟨k, hk⟩ : ∃ k, i - first = k + 1 := ⟨i - first - 1, by omega⟩
        rw [hk, List.getD_cons_succ]
        congr 1; omega
      · rw [if_neg h2, if_neg h1, if_neg (by simp; omega)]

/-! ## Release crossfades and the start queue -/

/-- A channel of a crossfade lies in its target's range, whatever the free value (R111, log entry 22). -/
theorem inTarget_range (n : Nat) (layer : LayerNo) (tgt : Target) (channel : Nat) (v : Int) :
    (targetRange tgt).1 ≤ inTarget n layer tgt channel v ∧ inTarget n layer tgt channel v ≤ (targetRange tgt).2 := by
  by_cases h : (targetRange tgt).1 ≤ v ∧ v ≤ (targetRange tgt).2
  · simpa only [inTarget, if_pos h] using h
  · simp only [inTarget, if_neg h]
    cases tgt <;> simp only [targetRange, Int.reduceNeg, Int.reduceSub, Int.reduceAdd] <;> omega

/-- A channel of a crossfade is R111's number where that lies in the target's range. -/
theorem inTarget_of_range {tgt : Target} {v : Int} (h : (targetRange tgt).1 ≤ v ∧ v ≤ (targetRange tgt).2) (n : Nat)
    (layer : LayerNo) (channel : Nat) : inTarget n layer tgt channel v = v :=
  if_pos h

/-- A new entry parts the queue: after it stands nothing but later entries, and right before it none (R98, R100). -/
theorem insertEntry_parts (e : StartEntry) (q : List StartEntry) :
    ∃ before after, q = before ++ after ∧ insertEntry e q = before ++ e :: after ∧
      (∀ x ∈ after, timeLater x.start e.start = true) ∧
      ∀ x, before.getLast? = some x → timeLater x.start e.start = false := by
  induction q with
  | nil => exact ⟨[], [], rfl, rfl, by simp, by simp⟩
  | cons x xs ih =>
    by_cases h : (x :: xs).all (fun y => timeLater y.start e.start) = true
    · exact ⟨[], x :: xs, rfl, by rw [insertEntry, if_pos h]; rfl, fun y hy => List.all_eq_true.mp h y hy, by simp⟩
    · obtain ⟨b, a, hq, hi, ha, hb⟩ := ih
      refine ⟨x :: b, a, by simp [hq], by rw [insertEntry, if_neg h, hi]; rfl, ha, ?_⟩
      intro y hy
      cases b with
      | nil =>
        obtain rfl : x = y := by simpa using hy
        rw [← Bool.not_eq_true]
        exact fun hx => h (List.all_eq_true.mpr (List.forall_mem_cons.mpr ⟨hx, fun z hz => ha z (by simpa [hq] using hz)⟩))
      | cons b0 b1 => exact hb y (by simpa using hy)

/-! ## A compose that read SETUP -/

/-- A compose that read SETUP gives every lamp code 0 (R56). -/
theorem finalDrives_in_setup {c : Compose} (h : c.inSetup = true) (lam : LampNo) :
    (finalDrives c.lamps (c.loopOuts c.lamps))[lam] = Rgb.zero := by
  have hd : c.lamps[lam] = LampOut.dark := by simp only [Compose.lamps, tabulate_get, lampOut, h, if_true]
  simp only [finalDrives, mapAt_get, hd, LampOut.dark, scaleDrive]
  split <;> simp [Rgb.each, Rgb.zero]

/-- What a compose that read SETUP gives a loop is dark (R158). -/
theorem words_in_setup {c : Compose} (h : c.inSetup = true) (l : LoopNo) (n : Nat) : allDark (c.words l n) = true := by
  simp only [allDark, Compose.words, loopCodes, List.all_eq_true, beq_iff_eq]
  intro d hd
  obtain ⟨lam, -, rfl⟩ := List.mem_map.mp (List.mem_of_mem_take hd)
  exact finalDrives_in_setup h lam

end Sys2Proof.Machine
end

