-- ==== Sys2Proof/Tests/Slice0.lean ====
section
/-! SUPPORT. Tests: the refusals of `Instr.wf`, the worked examples of the chapters (each names its place in spec/, whose
numbers it expects), and for each statement with hypotheses a state and operands that meet them. -/

namespace Sys2Proof.Tests

open Sys2Proof.Machine

set_option Elab.async false

/-! ## A state to test on -/

/-- A request as an intake queue holds it, tag 7, stamped at 600 000 us, received on CB. -/
def asked (r : Request) : Intake := ⟨requestBytes 7 r, 600000, .cb⟩

/-- The state with request `r` at the front of the intake queue of `o`. -/
def ask (o : Origin) (r : Request) (s : State) : State :=
  s.setPort o { s.port o with intake := asked r :: (s.port o).intake }

/-- The state after a command, where it answers one. -/
def after (c : Instr) (s : State) : State :=
  match exec c s with
  | .next t => t
  | _ => s

/-- Asks, and runs the request's command. -/
def run (o : Origin) (r : Request) (s : State) : State := after (requestCommand o (some (requestKind r))) (ask o r s)

/-- The bytes of the frames in the transmit queue of `o`. -/
def sent (o : Origin) (s : State) : List (List Nat) := (s.port o).tx.map fun f => f.bytes.map (·.toNat)

/-- A cue on layer `l`. -/
def aCue (o : Origin) (l : LayerNo) (ending : EndBehaviour) (release : Nat) (r : Run) : Cue :=
  ⟨o, l, [⟨.level, 0, 2⟩], 200, 2, ending, true, release, r⟩

/-- The part in RUN at scene time 600 000 us, with something in every table: two zones, three layers, a bound stream queue,
cues in four states, a bind entry, a mirrored line and a waking one, loops in five states. -/
def stage : State :=
  { State.reset with
    ps := ⟨.run, false, none⟩
    sc := { ClockBlock.fresh with
      scene := 600000, local' := 500000, nextFrame := some 604000, lastFrame := some ⟨594000, 494000⟩ }
    mp := { PortsBlock.fresh 0 with ports := Vector.replicate 4 { Port.fresh with mask := 0x3FF } }
    ot := { OriginBlock.fresh with holds := setAt (Vector.replicate 32 none) 1 (some ⟨.media, 2⟩) }
    tu := { TriggerBlock.fresh fun _ => false with
      lines := setAt (setAt (tabulate fun _ => Line.fresh false) 0 ⟨.level, 5, false, .overwrite, 1000, some 5, true, none, true⟩)
        1 ⟨.both, 5, true, .hold, 1000, none, false, some ⟨true, 495000⟩, true⟩
      writers := setAt (tabulate Writer.fresh) 5 (.line 0)
      flags := 0x20
      binds := setAt (Vector.replicate 24 none) 0 (some ⟨.body, 0x10, 0xF0, some ⟨5, .set⟩, .start, 0⟩) }
    ce := ⟨[(1, ⟨200, .linear, ⟨1000, 0, 0⟩⟩)],
      setAt (setAt (setAt (setAt (Vector.replicate 24 none) 0 (some (aCue .body 0 .hold 100 (.running 590000 [⟨20, 0, 0⟩]))))
        1 (some (aCue .media 1 .restore 0 .ready))) 2 (some (aCue .body 0 .hide 0 .scheduled)))
        3 (some (aCue .media 2 .hide 50 (.releasing 580000 592000 [⟨7, 0, 0⟩]))),
      [⟨2, 700000, .body⟩]⟩
    lt := { LayerBlock.fresh with
      layers := setAt (setAt (setAt (Vector.replicate 16 Layer.freed)
        0 { Layer.freed with state := .held, owner := some .body, tier := 3, presence := 1000,
                             ed := { Editable.opened with source := .stream 0 100 } })
        1 { Layer.freed with state := .shown, owner := some .media, tier := 1, presence := 65535,
                             ed := { Editable.opened with zones := 2, source := .pattern 0 } })
        2 { Layer.freed with state := .shown, owner := some .media, tier := 2, presence := 65535,
                             ed := { Editable.opened with zones := 1, source := .solid ⟨60000, 30000, 1000⟩ } }
      gates := setAt (Vector.replicate 4 .opened) 2 (.closed 510000) }
    ss := { SourceBlock.fresh with
      pattern := [(1024, ⟨⟨65535, 0, 0⟩, 255⟩)]
      slots := setAt (Vector.replicate 16 none) 0 (some ⟨.media, 1024, 8, .clip⟩)
      queues := setAt (Vector.replicate 2 StreamQueue.freed) 0
        ⟨some 0, some ⟨590000, [⟨1, 2, 3⟩]⟩, [⟨610000, [⟨4, 5, 6⟩]⟩], some 490000, false⟩ }
    co := { ComposeBlock.fresh with
      zones := setAt (setAt (Vector.replicate 32 none) 0 (some ⟨.line, true, ⟨9, 9, 9⟩, [⟨0, 4, false⟩]⟩))
        1 (some ⟨.ring, false, Rgb.zero, [⟨100, 12, true⟩, ⟨380, 4, false⟩]⟩) }
    lc := { LoopBlock.fresh with
      loops := #v[{ Loop.fresh with state := .running, nodes := 8, query := 4, errors := 2, claimed := true,
                                    await := some ⟨.refresh 3, 499000, some 499240⟩ },
                  { Loop.fresh with await := some ⟨.count, 499500, none⟩ },
                  { Loop.fresh with state := .quiet, nodes := 4 },
                  { Loop.fresh with state := .failed, holdCount := 1, holdLen := 16 },
                  { Loop.fresh with state := .off, enable := false },
                  { Loop.fresh with state := .running, nodes := 64, claimed := true, quietCount := 63 }] }
    wu := { WatchBlock.fresh with
      watches := setAt (Vector.replicate 4 Watch.fresh) 0 ⟨true, 0, .peak, ⟨.atLeast, 100⟩, ⟨.off, 0⟩, .all, true, .sig0, false⟩ } }

/-- The same in another part state, with no frame timer in ASLEEP and WAKING. -/
def stageIn (p : PartState) : State :=
  { stage with
    ps := ⟨p, false, if p = .waking then some 499000 else none⟩
    sc := if p = .asleep ∨ p = .waking then { stage.sc with nextFrame := none, lastFrame := none } else stage.sc }

/-- The part in SETUP right after reset, subscribed to by nobody. -/
def setup : State := State.reset

theorem ask_takes {o : Origin} {r : Request} {s : State}
    (h : (!s.ps.resetHeld && s.ps.state.takes && kindOf? (byteAt (asked r).data 0) == some (requestKind r) &&
      (requestKind r == .streamFrame || decide ((s.port o).tx.length < 8)) &&
      decide (requiredLength (requestKind r) (asked r).data ≤ (asked r).data.length)) = true) :
    Takes (ask o r s) o (requestKind r) (asked r) := by
  simp only [Bool.and_eq_true, Bool.or_eq_true, Bool.not_eq_true', beq_iff_eq, decide_eq_true_eq] at h
  obtain ⟨⟨⟨⟨h1, h2⟩, h3⟩, h4⟩, h5⟩ := h
  refine ⟨⟨h1, h2, ?_, h3, ?_⟩, h5⟩
  · simp [ask, State.port, State.setPort, setAt]
  · simpa [ask, State.port, State.setPort, setAt] using h4

/-! ## States that meet the laws, with a step that changes what the law speaks of -/

theorem forall_some {α : Type} {o : Option α} {P : α → Prop} : (∀ x, o = some x → P x) ↔ ∀ x ∈ o.toList, P x := by
  simp

theorem exists_some {α : Type} {o : Option α} {P : α → Prop} : (∃ x, o = some x ∧ P x) ↔ ∃ x ∈ o.toList, P x := by
  simp

/-- A law holds of the state, and a step of it answers a next state. -/
def Meets (law : State → Prop) (s : State) : Prop := law s ∧ ∃ t, step s = .next t

/-- With command `c` alone in the queue. -/
def doing (c : Instr) (s : State) : State := { s with pending := [c] }

theorem stage_zones : ZonesSound stage := by
  refine ⟨?_, ?_⟩
  · have h : ∀ (z : ZoneNo) (x : Zone), stage.co.zones[z] = some x → x ∈ (stage.co.zones.toList.take 2).filterMap id := by
      simp only [forall_some]; decide +kernel
    intro z x hx
    have h := h z x hx
    rw [show (stage.co.zones.toList.take 2).filterMap id = [⟨.line, true, ⟨9, 9, 9⟩, [⟨0, 4, false⟩]⟩,
      ⟨.ring, false, Rgb.zero, [⟨100, 12, true⟩, ⟨380, 4, false⟩]⟩] by decide +kernel] at h
    simp only [List.mem_cons, List.not_mem_nil, or_false] at h
    rcases h with rfl | rfl
    · simp [SpanSound, SpansApart, spanInRange]
    · refine ⟨by simp, by unfold SpanSound; decide +kernel, ?_⟩
      simp only [SpansApart, List.pairwise_cons, List.mem_singleton, forall_eq, covers, spanPos]
      simp
      omega
  · have h : ∀ (lam : LampNo) (y : ZoneNo), inZone stage.co.zones y lam = true → y = if lam.val < 4 then 0 else 1 := by
      decide +kernel
    exact fun y z lam a b => (h lam y a).trans (h lam z b).symm

/-- For `StepsKeepLampsInOneZone`. -/
theorem test_zones_law : Meets ZonesSound (doing (.clearZone .body) (ask .body (.clearZone 1) (stageIn .setup))) :=
  ⟨stage_zones, _, rfl⟩

/-- For `StepsKeepTheBuffersCanonical`. -/
theorem test_buffers_law : Meets BuffersSound
    (doing (.writeKeys .body) (ask .body (.writeKeys ⟨254, 2, [(0, 1, ⟨1, 2, 3⟩), (9, 2, ⟨4, 5, 6⟩)]⟩) stage)) := by
  refine ⟨?_, _, rfl⟩
  unfold BuffersSound
  decide +kernel

/-- For `StepsKeepTheQueuesBounded`. -/
theorem test_ports_law : Meets PortsSound (doing (.channelError .ca .transmit) (run .body .timeQuery stage)) := by
  refine ⟨⟨?_, ?_⟩, _, rfl⟩
  · intro o; cases o <;> decide +kernel
  · unfold ChannelSound; decide +kernel

theorem stage_layers : LayersSound stage := by
  unfold LayersSound
  simp only [forall_some]
  decide +kernel

/-- For `StepsKeepFreeLayersBlank`. -/
theorem test_layers_law : Meets LayersSound (doing (.closeLayer .media) (ask .media (.closeLayer 2) stage)) :=
  ⟨stage_layers, _, rfl⟩

/-- For `StepsKeepTheReserves`. -/
theorem test_reserves_law : Meets ReservesSound (doing (.openLayer .assist) (ask .assist (.openLayer 4) stage)) := by
  refine ⟨⟨?_, ?_⟩, _, rfl⟩
  · intro o; cases o <;> decide +kernel
  · decide +kernel

theorem stage_streams : StreamsSound stage := by
  unfold StreamsSound namesQueue
  simp only [exists_some]
  decide +kernel

/-- For `StepsKeepStreamQueuesBound`. -/
theorem test_streams_law : Meets (fun s => LayersSound s ∧ StreamsSound s)
    (doing (.streamFrame .body) (ask .body (.streamFrame ⟨0, 620000, 1, [⟨7, 8, 9⟩]⟩) stage)) :=
  ⟨⟨stage_layers, stage_streams⟩, _, rfl⟩

theorem stage_cues : CuesSound stage := by
  refine ⟨by decide +kernel, by decide +kernel, ?_, ?_, ?_⟩
  · simp only [exists_some]; decide +kernel
  · simp only [forall_some]; decide +kernel
  · have h : ∀ (c : CueNo) (x : Cue), stage.ce.cues[c] = some x → x.run.active = true → c = if x.layer = 0 then 0 else 3 := by
      simp only [forall_some]; decide +kernel
    intro c d x y hx hy ax ay e
    rw [h c x hx ax, h d y hy ay, e]

/-- For `StepsKeepTheStartQueueSound`. -/
theorem test_cues_law : Meets CuesSound (doing (.startCue .media) (ask .media (.startCue ⟨1, .next⟩) stage)) :=
  ⟨stage_cues, _, rfl⟩

theorem stage_binds : BindsSound stage := by
  refine ⟨?_, ?_⟩
  · simp only [exists_some, forall_some]; decide +kernel
  · have h : ∀ (i : BindNo) (e : BindEntry), stage.tu.binds[i] = some e → i = 0 := by
      simp only [forall_some]; decide +kernel
    exact fun i j e f hi hj _ _ _ => (h i e hi).trans (h j f hj).symm

/-- For `StepsKeepBindEntriesSound`. -/
theorem test_binds_law : Meets BindsSound (doing (.bind .body) (ask .body (.bind ⟨0x25, 0xFF, (255, 0), 1, 2⟩) stage)) :=
  ⟨stage_binds, _, rfl⟩

/-- For `StepsKeepMirrorFlagsAtTheirLines`. -/
theorem test_mirrors_law : Meets MirrorsSound (doing (.setFlagOwner .body) (ask .body (.setFlagOwner ⟨5, 0, 0⟩) (stageIn .setup))) := by
  refine ⟨?_, _, rfl⟩
  unfold MirrorsSound
  decide +kernel

/-- For `StepsKeepTheTimerWithThePartState`. -/
theorem test_timer_law : Meets TimerSound (doing .wakeCompletion (stageIn .waking)) := by
  refine ⟨?_, _, rfl⟩
  unfold TimerSound
  decide +kernel

theorem stage_loops : LoopsSound stage := by
  unfold LoopsSound LoopSound
  refine ⟨?_, by decide +kernel, by decide +kernel⟩
  intro l
  fin_cases l <;> simp [stage, Loop.fresh]

/-- For `StepsKeepLoopRecordsSound`. -/
theorem test_loops_law : Meets LoopsSound (doing (.loopReturnReceived 0 ⟨false, 8, none⟩) stage) := ⟨stage_loops, _, rfl⟩

/-! ## What no bus can carry, and words of the table -/

theorem test_wf_refuses_nine_bytes : (Instr.frameReceived .ca .data11 0x600 (List.replicate 9 0)).wf = false := by decide
theorem test_wf_refuses_remote_with_data : (Instr.frameReceived .cb .remote 0x600 [0]).wf = false := by decide
theorem test_wf_refuses_wide_identifier : (Instr.frameReceived .ca .data11 2048 []).wf = false := by decide
theorem test_wf_refuses_wide_extended : (Instr.frameReceived .ca .extended (2 ^ 29) []).wf = false := by decide
theorem test_wf_takes_a_frame : (Instr.frameReceived .ca .data11 0x67F (List.replicate 64 0)).wf = true := by decide
theorem test_no_word_spells_a_command : decodeTableWord 16 0xFFFF = none := rfl
theorem test_word_leaves_the_queue : State.reset.withFetchWord 8 1 = State.reset := rfl

/-! ## The worked examples of the chapters -/

/-- 1.6: the replies to the sequence of SET_ZONE and CLEAR_ZONE. -/
theorem test_zone_layout_replies :
    (sent .body ([.setZone ⟨2, 0, 0, ⟨0, 0, 0⟩, 1, [(64, 20, 0)]⟩, .setZone ⟨5, 0, 1, ⟨2000, 2000, 2000⟩, 1, [(120, 16, 0)]⟩,
      .setZone ⟨6, 1, 0, ⟨0, 0, 0⟩, 2, [(200, 12, 1), (210, 12, 0)]⟩, .setZone ⟨7, 0, 0, ⟨0, 0, 0⟩, 1, [(130, 4, 1)]⟩,
      .setZone ⟨7, 0, 0, ⟨0, 0, 0⟩, 1, [(136, 50, 0)]⟩, .setZone ⟨3, 0, 0, ⟨0, 0, 0⟩, 2, [(300, 5, 0), (302, 2, 1)]⟩,
      .setZone ⟨3, 0, 0, ⟨0, 0, 0⟩, 1, [(3, 5, 1)]⟩, .clearZone 3].foldl (fun s r => run .body r s) setup)).map (·.getD 2 99) =
      [0, 0, 0, 7, 0, 7, 5, 9] := by decide +kernel

/-- 1.6: positions in zone 6, a DOWN span before an UP span. -/
theorem test_zone_positions : [200, 192, 189, 210, 221, 201].map (spansPos [⟨200, 12, true⟩, ⟨210, 12, false⟩]) =
    [some 0, some 8, some 11, some 12, some 23, none] := by decide

/-- 3.2: one slot of length 5 from entry 1030, read under WRAP, EDGE and CLIP. -/
theorem test_slot_reads :
    [Repeat.wrap, .edge, .clip].map (fun r => [-7, -2, -1, 0, 4, 5, 7].map fun i =>
      (slotEntry (writeRun PatEntry.blank [] 1030 ([30, 31, 32, 33, 34].map fun k => ⟨⟨k, 0, 0⟩, 255⟩))
        ⟨.body, 1030, 5, r⟩ i).colour.r) =
      [[33, 33, 34, 30, 34, 30, 32], [30, 30, 30, 30, 34, 34, 34], [0, 0, 0, 30, 34, 0, 0]] := by decide +kernel

/-- 4.5: the composed lamp's two layers, zone and slot. -/
def lampCase : Compose :=
  { State.reset.composeInputs 0 with
    inSetup := false
    zones := setAt (Vector.replicate 32 none) 2 (some ⟨.line, false, Rgb.zero, [⟨64, 20, false⟩]⟩)
    pattern := writeRun PatEntry.blank [] 101 [⟨⟨0, 30000, 60000⟩, 160⟩, ⟨⟨0, 30000, 60000⟩, 32⟩]
    slots := setAt (Vector.replicate 16 none) 0 (some ⟨.body, 100, 4, .clip⟩)
    layers := setAt (setAt (State.reset.composeInputs 0).layers
      3 ⟨some .media, 1, { Editable.opened with zones := 4, source := .solid ⟨40000, 20000, 5000⟩, level := 49152 }, 65535,
        false, none⟩)
      5 ⟨some .body, 3, { Editable.opened with zones := 4, source := .pattern 0, blend := .add, offset := 140 }, 32768,
        false, none⟩
    bins := setAt State.reset.co.bins 3 ⟨⟨32768, 30147, 34406⟩, ⟨4884, 4884, 4884⟩⟩
    lampBin := Vector.replicate 384 3 }

/-- 4.5: the lamp after the stack, and its drives. -/
theorem test_composed_lamp :
    (stackAt lampCase lampCase.stack 2 74 10).colour = ⟨22500, 18779, 17870⟩ ∧
      (lampOut lampCase lampCase.stack 74).drive = ⟨1406, 1080, 1173⟩ := by decide +kernel

/-- 4.5: the same lamp at a cap of 12000. -/
theorem test_glare_case : glareStage 12000 ⟨22500, 18779, 17870⟩ = ⟨12000, 10015, 9530⟩ := by decide

/-- 4.5: the loop budget at 600 mA, and derated at 101 degrees. -/
theorem test_budget_case :
    scaleDrive (judgeBudget 714822240 600 65536) ⟨1406, 1080, 1173⟩ = ⟨1180, 906, 984⟩ ∧
      scaleDrive (judgeBudget 714822240 1000 (derateAt 85 101)) ⟨1406, 1080, 1173⟩ = ⟨1376, 1057, 1148⟩ ∧
      derateAt 85 101 = 45876 ∧ derateAt 85 98 = 49562 ∧ (judgeBudget 714822240 1000 49562).limiting = false := by decide

/-- 4.2: the layers of "void at one lamp", without the BASE layer. -/
def voidCase (blend : Blend) (presence : Nat) : Compose :=
  { lampCase with
    layers := setAt (setAt (State.reset.composeInputs 0).layers
      7 ⟨some .media, 1, { Editable.opened with zones := 4, source := .stream 0 200, blend := .max }, 65535, true, none⟩)
      9 ⟨some .body, 2, { Editable.opened with zones := 4, source := .solid ⟨0, 20000, 0⟩, blend := blend }, presence, false, none⟩ }

/-- 4.2: a stale stream under MAX voids the lamp, an ADD above it goes on, a full REPLACE clears the mark. -/
theorem test_void_case :
    (let c := voidCase .add 32767
     (stackAt c c.stack 2 74 10).isVoid = true ∧ (stackAt c c.stack 2 74 10).colour = ⟨0, 9999, 0⟩) ∧
    let c := voidCase .replace 65535
    (stackAt c c.stack 2 74 10).isVoid = false ∧ (stackAt c c.stack 2 74 10).voiders.getLsbD 7 = true := by decide +kernel

/-- 5.7: trim 839 ADD. -/
theorem test_trim_case :
    let s := Nat.iterate State.microsecond 3 { setup with sc := { setup.sc with trim := 839, acc := 16776644 - 839 } }
    s.sc.acc = 267 + 839 ∧ s.sc.scene = 4 ∧ s.sc.local' = 3 := by decide +kernel

/-- 8.6: ASSIST takes zone 1 over from MEDIA, who is told; MEDIA cannot take it back. -/
theorem test_hold_takeover :
    let s := run .assist (.holdZone ⟨1, 4⟩) stage
    sent .assist s = [[kindCode .holdZone, 7, 0, 0, 2, 4, 1]] ∧ sent .media s = [[0x83, 1, 2, 4]] ∧
      (sent .media (run .media (.holdZone ⟨1, 2⟩) s)).map (·.drop 2) = [[2, 4], [8, 0, 2, 4, 255]] ∧
      (sent .media (run .media (.holdZone ⟨1, 4⟩) s)).getLast? = some [kindCode .holdZone, 7, 1, 0] := by decide +kernel

/-- 3.6: the fifth pending frame pushes the earliest off. -/
theorem test_stream_queue_full :
    let f := fun t : Nat => Request.streamFrame ⟨0, BitVec.ofNat 48 t, 1, [⟨1, 1, 1⟩]⟩
    ((([f 616000, f 616000, f 624000, f 632000, f 640000, f 2800000].foldl (fun s r => run .body r s) stage).ss.queues[0]).pending.map
      (·.show')) = [616000, 624000, 632000, 640000] := by decide +kernel

/-- 2.1: the reserve of ASSIST keeps the last two FREE layers from MEDIA. -/
theorem test_reserve_keeps_layers :
    ((List.replicate 11 (Request.openLayer 1)).foldl (fun s r => run .media r { s with mp := stage.mp }) stage).lt.layers.toList.countP
      (fun l => l.state == .free) = 3 := by decide +kernel

/-! ## States and operands that meet the hypotheses of the statements about requests -/

/-- With `r` in front of the intake queue of `o` the request is taken, and `P` holds. -/
def Meet (o : Origin) (r : Request) (s : State) (P : State → Intake → Prop) : Prop :=
  Takes (ask o r s) o (requestKind r) (asked r) ∧ P (ask o r s) (asked r)

theorem meet {o : Origin} {r : Request} {s : State} {P : State → Intake → Prop}
    (h : (!s.ps.resetHeld && s.ps.state.takes && kindOf? (byteAt (asked r).data 0) == some (requestKind r) &&
      (requestKind r == .streamFrame || decide ((s.port o).tx.length < 8)) &&
      decide (requiredLength (requestKind r) (asked r).data ≤ (asked r).data.length)) = true)
    (hp : P (ask o r s) (asked r)) : Meet o r s P := ⟨ask_takes h, hp⟩

/-- The state with the transmit queue of `o` holding `n` frames. -/
def crowded (o : Origin) (n : Nat) (s : State) : State :=
  s.setPort o { s.port o with tx := List.replicate n ⟨[0x84], none, none⟩ }

/-- The state with a frame of `d` data bytes in front. -/
def askBytes (o : Origin) (d : List Byte) (s : State) : State :=
  s.setPort o { s.port o with intake := ⟨d, 0, .ca⟩ :: (s.port o).intake }

/-- For `RequestsAreTakenInTurn`. -/
theorem test_meets_taking :
    (stageIn .asleep).ps.state = .asleep ∧ (stageIn .waking).ps.state = .waking ∧
    (let s := crowded .body 8 (ask .body .timeQuery stage)
     (s.port .body).tx.length ≥ 8 ∧ ∀ rq, (s.port .body).intake.head? = some rq → kindOf? (byteAt rq.data 0) ≠ some .streamFrame) ∧
    (let s := crowded .body 7 (askBytes .body [0xFF, 1] stage)
     s.ps.resetHeld = false ∧ s.ps.state.takes = true ∧ (s.port .body).intake.head? = some ⟨[0xFF, 1], 0, .ca⟩ ∧
       kindOf? 0xFF = none ∧ (s.port .body).tx.length < 8) ∧
    (let d : List Byte := [BitVec.ofNat 8 (kindCode .setFrame), 1]
     let s := crowded .media 7 (askBytes .media d stage)
     (s.port .media).intake.head? = some ⟨d, 0, .ca⟩ ∧ kindOf? (byteAt d 0) = some .setFrame ∧
       d.length < requiredLength .setFrame d ∧ (s.port .media).tx.length < 8) ∧
    let d : List Byte := BitVec.ofNat 8 (kindCode .streamFrame) :: List.replicate 9 1
    kindOf? (byteAt d 0) = some .streamFrame ∧ d.length < requiredLength .streamFrame d := by
  simp only [forall_some]
  decide +kernel

/-- For `RequestsKeepToTheirPartState`. -/
theorem test_meets_part_state :
    Meet .media (.setFrame 10) setup (fun s _ => Kind.setFrame ∈ configKinds ∧ ¬Configures .media ∧ s.ps.state = .setup) ∧
    Meet .body (.setFrame 10) stage (fun s _ => Configures .body ∧ s.ps.state ≠ .setup) ∧
    Meet .assist (.trigger 3) setup (fun s _ => s.ps.state = .setup ∧ Kind.trigger ∈ runKinds) ∧
    Meet .body (.setFlags ⟨0x80000000, 0⟩) setup (fun s rq => s.ps.state = .setup ∧ leAt rq.data 2 4 % 2 ^ 32 ≠ 0) ∧
    Meet .body (.streamFrame ⟨0, 5, 1, [⟨1, 1, 1⟩]⟩) setup (fun s _ => s.ps.state = .setup) :=
  ⟨meet (by decide +kernel) (by unfold Configures; decide +kernel), meet (by decide +kernel) (by unfold Configures; decide +kernel),
   meet (by decide +kernel) (by decide +kernel), meet (by decide +kernel) (by decide +kernel),
   meet (by decide +kernel) (by decide +kernel)⟩

/-- For `NoticesMeetTheQueue`. -/
theorem test_meets_notices :
    (setup.port .body).mask.getLsbD (noticeBit .gateExpired) = false ∧
    (let s := crowded .body 7 stage; (s.port .body).mask.getLsbD (noticeBit .gateExpired) = true ∧ (s.port .body).tx.length < 8) ∧
    let s := crowded .body 8 stage; (s.port .body).mask.getLsbD (noticeBit .gateExpired) = true ∧ (s.port .body).tx.length ≥ 8 := by
  decide +kernel

/-- For `BinRequestsReplaceBinsAndMap`. -/
theorem test_meets_bins :
    Meet .body (.setBin ⟨15, ⟨1, 2, 3⟩, ⟨4, 5, 6⟩⟩) setup (fun s rq => Configures .body ∧ s.ps.state = .setup ∧
      byteAt rq.data 2 = (15 : BinNo).val) ∧
    Meet .service (.setBin ⟨16, ⟨1, 2, 3⟩, ⟨4, 5, 6⟩⟩) setup (fun s rq => Configures .service ∧ s.ps.state = .setup ∧
      15 < byteAt rq.data 2) ∧
    Meet .body (.setLampBin ⟨383, 1, 15⟩) setup (fun s rq => s.ps.state = .setup ∧ byteAt rq.data 6 = (15 : BinNo).val ∧
      1 ≤ leAt rq.data 4 2 ∧ leAt rq.data 2 2 + leAt rq.data 4 2 ≤ 384) ∧
    Meet .body (.setLampBin ⟨383, 2, 0⟩) setup (fun s rq => s.ps.state = .setup ∧ 384 < leAt rq.data 2 2 + leAt rq.data 4 2) ∧
    Meet .body (.setLampBin ⟨0, 0, 0⟩) setup (fun _ rq => leAt rq.data 4 2 = 0) :=
  ⟨meet (by decide +kernel) (by unfold Configures; decide +kernel), meet (by decide +kernel) (by unfold Configures; decide +kernel),
   meet (by decide +kernel) (by decide +kernel), meet (by decide +kernel) (by decide +kernel),
   meet (by decide +kernel) (by decide +kernel)⟩

/-- `Meet` for a configuration request in SETUP from BODY. -/
def MeetConfig (r : Request) (s : State) (P : State → Intake → Prop) : Prop :=
  TakesConfig (ask .body r s) .body (requestKind r) (asked r) ∧ P (ask .body r s) (asked r)

theorem meetConfig {r : Request} {s : State} {P : State → Intake → Prop}
    (h : (!s.ps.resetHeld && s.ps.state.takes && kindOf? (byteAt (asked r).data 0) == some (requestKind r) &&
      (requestKind r == .streamFrame || decide ((s.port .body).tx.length < 8)) &&
      decide (requiredLength (requestKind r) (asked r).data ≤ (asked r).data.length)) = true)
    (hs : s.ps.state = .setup) (hp : P (ask .body r s) (asked r)) : MeetConfig r s P :=
  ⟨⟨ask_takes h, .inl rfl, hs⟩, hp⟩

/-- For `ZoneRequestsKeepLampsApart`. -/
theorem test_meets_zones :
    ZonesSound (stageIn .setup) ∧
    MeetConfig (.setZone ⟨2, 0, 0, Rgb.zero, 1, [(4, 85, 0)]⟩) (stageIn .setup) (fun s rq => byteAt rq.data 2 = (2 : ZoneNo).val ∧
      zoneKind? (byteAt rq.data 3) = some .line ∧ yesNo? (byteAt rq.data 4) = some false ∧ byteAt rq.data 11 = 1 ∧
      (setZoneArgs rq.data).spans.map span? = [⟨4, 85, false⟩].map some ∧
      (1 ≤ 85 ∧ 85 ≤ 384 ∧ spanInRange ⟨4, 85, false⟩ = true) ∧
      ∀ (y : ZoneNo) (x : Zone), s.co.zones[y] = some x → ∀ lam : LampNo,
        (spanPos ⟨4, 85, false⟩ lam).isSome = true → zoneHas x lam = false) ∧
    MeetConfig (.setZone ⟨2, 0, 0, Rgb.zero, 1, [(3, 1, 0)]⟩) (stageIn .setup) (fun s rq => byteAt rq.data 2 = (2 : ZoneNo).val ∧
      (setZoneArgs rq.data).spans.map span? = [⟨3, 1, false⟩].map some ∧ (spanPos ⟨3, 1, false⟩ 3).isSome = true ∧
      inZone s.co.zones 0 3 = true) ∧
    MeetConfig (.clearZone 1) (stageIn .setup) (fun s rq => byteAt rq.data 2 = (1 : ZoneNo).val ∧
      s.co.zones[(1 : ZoneNo)].isSome = true) ∧
    MeetConfig (.clearZone 31) (stageIn .setup) (fun s rq => byteAt rq.data 2 = (31 : ZoneNo).val ∧
      s.co.zones[(31 : ZoneNo)] = none) := by
  refine ⟨stage_zones, meetConfig (by decide +kernel) rfl ?_, meetConfig (by decide +kernel) rfl (by decide +kernel),
    meetConfig (by decide +kernel) rfl (by decide +kernel), meetConfig (by decide +kernel) rfl (by decide +kernel)⟩
  simp only [forall_some]
  decide +kernel

/-- For `SetOriginReplacesTheRecord`. -/
theorem test_meets_origins :
    (let windows : List (Nat × Nat × Nat) := [(1, 0, 383), (0, 9, 400), (1, 5, 5), (0, 0, 0)]
     let ws : List Window := [⟨true, 0, 383⟩, ⟨false, 9, 400⟩, ⟨true, 5, 5⟩, ⟨false, 0, 0⟩]
     let fits := fun (s : State) (rq : Intake) =>
       let a := setOriginArgs rq.data
       a.origin = Origin.media.idx.val ∧ a.maxTier = (5 : Tier).val ∧ yesNo? a.timeSource = some true ∧ a.reserve ≤ a.limit ∧
         a.limit ≤ 16 ∧ a.windows.map window? = ws.map some ∧ a.keyFirst ≤ a.keyLast ∧ a.keyLast ≤ 1023 ∧
         a.patFirst ≤ a.patLast ∧ a.patLast ≤ 4095 ∧ otherReserves s .media = 4
     let apart := fun (s : State) (rq : Intake) => ∀ p ∈ Origin.all, p ≠ .media →
       ((setOriginArgs rq.data).keyLast < (s.originRec p).keyFirst ∨ (s.originRec p).keyLast < (setOriginArgs rq.data).keyFirst)
     MeetConfig (.setOrigin ⟨1, 5, 12, 16, windows, 256, 511, 1024, 2047, 1⟩) setup (fun s rq => fits s rq ∧ apart s rq) ∧
     MeetConfig (.setOrigin ⟨1, 5, 13, 16, windows, 256, 511, 1024, 2047, 1⟩) setup fits ∧
     MeetConfig (.setOrigin ⟨1, 5, 12, 16, windows, 255, 511, 1024, 2047, 1⟩) setup (fun s rq => fits s rq ∧ ¬apart s rq)) :=
  ⟨meetConfig (by decide +kernel) rfl (by decide +kernel), meetConfig (by decide +kernel) rfl (by decide +kernel),
   meetConfig (by decide +kernel) rfl (by decide +kernel)⟩

/-- For `GlareAndFramePeriodAreStored`. -/
theorem test_meets_glare_and_period :
    MeetConfig (.setGlare ⟨(31, 1), (255, 7), 0⟩) setup (fun _ rq =>
      flagRef? (byteAt rq.data 2) (byteAt rq.data 3) = some (some ⟨31, .clear⟩) ∧
      flagRef? (byteAt rq.data 4) (byteAt rq.data 5) = some none) ∧
    MeetConfig (.setGlare ⟨(255, 7), (32, 0), 0⟩) setup (fun _ rq => byteAt rq.data 4 ≠ 0xFF ∧ 31 < byteAt rq.data 4) ∧
    MeetConfig (.setGlare ⟨(31, 2), (255, 0), 0⟩) setup (fun _ rq => byteAt rq.data 2 ≠ 0xFF ∧ 1 < byteAt rq.data 3) ∧
    MeetConfig (.setFrame 0) setup (fun _ rq => byteAt rq.data 2 = 0) ∧
    MeetConfig (.setFrame 21) setup (fun _ rq => byteAt rq.data 2 = 21) :=
  ⟨meetConfig (by decide +kernel) rfl (by decide +kernel), meetConfig (by decide +kernel) rfl (by decide +kernel),
   meetConfig (by decide +kernel) rfl (by decide +kernel), meetConfig (by decide +kernel) rfl (by decide +kernel),
   meetConfig (by decide +kernel) rfl (by decide +kernel)⟩

/-- For `SetChainSwitchesTheLoop`. -/
theorem test_meets_chains :
    (let s := stageIn .setup
     MeetConfig (.setChain ⟨5, 5000, 60, 1⟩) s (fun s rq => byteAt rq.data 2 = (5 : LoopNo).val ∧
       yesNo? (byteAt rq.data 6) = some true ∧ leAt rq.data 3 2 ≠ 0 ∧ s.lc.loops[(5 : LoopNo)].state ≠ .off) ∧
     MeetConfig (.setChain ⟨0, 0, 120, 1⟩) s (fun s rq => leAt rq.data 3 2 = 0 ∧ s.lc.loops[(0 : LoopNo)].state ≠ .off) ∧
     MeetConfig (.setChain ⟨4, 1, 85, 1⟩) s (fun s rq => leAt rq.data 3 2 ≠ 0 ∧ s.lc.loops[(4 : LoopNo)].state = .off) ∧
     MeetConfig (.setChain ⟨4, 1, 85, 0⟩) s (fun s rq => yesNo? (byteAt rq.data 6) = some false ∧
       s.lc.loops[(4 : LoopNo)].state = .off)) :=
  ⟨meetConfig (by decide +kernel) rfl (by decide +kernel), meetConfig (by decide +kernel) rfl (by decide +kernel),
   meetConfig (by decide +kernel) rfl (by decide +kernel), meetConfig (by decide +kernel) rfl (by decide +kernel)⟩

/-- For `SetLineReplacesTheLine`. -/
theorem test_meets_lines :
    (let s := stageIn .setup
     MeetConfig (.setLine ⟨0, 4, 51, 0, 2, 0, 5⟩) s (fun s rq => byteAt rq.data 2 = (0 : LineNo).val ∧
       lineMode? (byteAt rq.data 3) = some .level ∧ yesNo? (byteAt rq.data 5) = some false ∧
       capturePolicy? (byteAt rq.data 6) = some .holdTimed ∧ byteAt rq.data 9 = (5 : FlagNo).val ∧
       s.tu.writers[(5 : FlagNo)] = .line 0) ∧
     MeetConfig (.setLine ⟨7, 1, 50, 1, 0, 10000, 255⟩) s (fun _ rq => byteAt rq.data 2 = (7 : LineNo).val ∧
       lineMode? (byteAt rq.data 3) = some .rise ∧ yesNo? (byteAt rq.data 5) = some true ∧
       capturePolicy? (byteAt rq.data 6) = some .overwrite) ∧
     MeetConfig (.setLine ⟨7, 4, 50, 1, 0, 10000, 5⟩) s (fun _ rq => lineMode? (byteAt rq.data 3) = some .level ∧
       yesNo? (byteAt rq.data 5) = some true)) :=
  ⟨meetConfig (by decide +kernel) rfl (by decide +kernel), meetConfig (by decide +kernel) rfl (by decide +kernel),
   meetConfig (by decide +kernel) rfl (by decide +kernel)⟩

/-- For `SetFlagOwnerMovesTheFlag`. -/
theorem test_meets_flag_owners :
    (let s := stageIn .setup
     MeetConfig (.setFlagOwner ⟨5, 0, 1⟩) s (fun s rq => byteAt rq.data 2 = (5 : FlagNo).val ∧
       writer? (byteAt rq.data 3) (byteAt rq.data 4) = some (.origin .media) ∧ s.tu.writers[(5 : FlagNo)] = .line 0 ∧
       s.tu.lines[(0 : LineNo)].mode = .level ∧ s.tu.lines[(0 : LineNo)].mirror = some 5) ∧
     MeetConfig (.setFlagOwner ⟨31, 1, 0⟩) s (fun s rq => writer? (byteAt rq.data 3) (byteAt rq.data 4) = some (.line 0) ∧
       s.tu.writers[(5 : FlagNo)] = .line 0) ∧
     MeetConfig (.setFlagOwner ⟨31, 0, 1⟩) s (fun s rq => writer? (byteAt rq.data 3) (byteAt rq.data 4) = some (.origin .media) ∧
       s.tu.writers[(31 : FlagNo)] = .origin .media) ∧
     MeetConfig (.setFlagOwner ⟨31, 1, 7⟩) s (fun s rq => writer? (byteAt rq.data 3) (byteAt rq.data 4) = some (.line 7) ∧
       (∀ g : FlagNo, s.tu.writers[g] ≠ .line 7) ∧ ∀ t : LineNo, s.tu.writers[(31 : FlagNo)] ≠ .line t)) :=
  ⟨meetConfig (by decide +kernel) rfl (by decide +kernel), meetConfig (by decide +kernel) rfl (by decide +kernel),
   meetConfig (by decide +kernel) rfl (by decide +kernel), meetConfig (by decide +kernel) rfl (by decide +kernel)⟩

/-- For `SetWatchReplacesTheWatch`. -/
theorem test_meets_watches :
    MeetConfig (.setWatch ⟨3, 1, 31, 1, 3, 4096, 0, 4095, 1, 1, 2⟩) setup (fun _ rq => byteAt rq.data 2 = (3 : WatchNo).val ∧
      yesNo? (byteAt rq.data 3) = some true ∧ byteAt rq.data 4 = (31 : ZoneNo).val ∧ measure? (byteAt rq.data 5) = some .mean ∧
      compareKind? (byteAt rq.data 6) = some .equal ∧ compareKind? (byteAt rq.data 9) = some .off ∧
      combine? (byteAt rq.data 12) = some .any ∧ yesNo? (byteAt rq.data 13) = some true ∧
      signal? (byteAt rq.data 14) = some .sig1) ∧
    MeetConfig (.setWatch ⟨3, 1, 31, 1, 0, 0, 0, 0, 1, 1, 2⟩) setup (fun _ rq => compareKind? (byteAt rq.data 6) = some .off) :=
  ⟨meetConfig (by decide +kernel) rfl (by decide +kernel), meetConfig (by decide +kernel) rfl (by decide +kernel)⟩

/-- For `WriteRequestsFillTheirRuns`. -/
theorem test_meets_writes :
    BuffersSound stage ∧
    Meet .service (.writePattern ⟨4090, 6, List.replicate 6 ⟨⟨1, 2, 3⟩, 4⟩⟩) stage (fun s rq => byteAt rq.data 4 = 6 ∧
      leAt rq.data 2 2 + byteAt rq.data 4 = 4096 ∧ (s.originRec .service).patFirst ≤ leAt rq.data 2 2 ∧
      leAt rq.data 2 2 + byteAt rq.data 4 ≤ (s.originRec .service).patLast + 1) ∧
    Meet .service (.writePattern ⟨4095, 2, List.replicate 2 ⟨⟨1, 2, 3⟩, 4⟩⟩) stage (fun _ rq =>
      4096 < leAt rq.data 2 2 + byteAt rq.data 4) ∧
    Meet .body (.writePattern ⟨1023, 2, List.replicate 2 ⟨⟨1, 2, 3⟩, 4⟩⟩) stage (fun s rq => 1 ≤ byteAt rq.data 4 ∧
      byteAt rq.data 4 ≤ 6 ∧ leAt rq.data 2 2 + byteAt rq.data 4 ≤ 4096 ∧
      (s.originRec .body).patLast + 1 < leAt rq.data 2 2 + byteAt rq.data 4) ∧
    Meet .service (.writeKeys ⟨1023, 1, [(65535, 2, ⟨1, 2, 3⟩)]⟩) stage (fun s rq => byteAt rq.data 4 = 1 ∧
      (∀ k, k < 1 → (ease? (byteAt rq.data (7 + 9 * k))).isSome = true) ∧ leAt rq.data 2 2 + byteAt rq.data 4 ≤ 1024 ∧
      (s.originRec .service).keyFirst ≤ leAt rq.data 2 2) ∧
    Meet .media (.writeKeys ⟨255, 1, [(0, 0, ⟨1, 2, 3⟩)]⟩) stage (fun s rq => byteAt rq.data 4 = 1 ∧
      (∀ k, k < 1 → (ease? (byteAt rq.data (7 + 9 * k))).isSome = true) ∧ leAt rq.data 2 2 < (s.originRec .media).keyFirst) ∧
    Meet .body (.writeKeys ⟨0, 1, [(0, 3, ⟨1, 2, 3⟩)]⟩) stage (fun _ rq => ¬(ease? (byteAt rq.data 7)).isSome = true) :=
  ⟨by unfold BuffersSound; decide +kernel, meet (by decide +kernel) (by decide +kernel), meet (by decide +kernel) (by decide +kernel),
   meet (by decide +kernel) (by decide +kernel), meet (by decide +kernel) (by decide +kernel),
   meet (by decide +kernel) (by decide +kernel), meet (by decide +kernel) (by decide +kernel)⟩

/-- The state with every pattern slot, cue and bind entry taken. -/
def full (s : State) : State :=
  { s with
    ss := { s.ss with slots := Vector.replicate 16 (some ⟨.media, 1024, 8, .clip⟩) }
    ce := { s.ce with cues := tabulate fun c => s.ce.cues[c] <|> some (aCue .body 0 .hold 0 .ready) }
    tu := { s.tu with binds := tabulate fun i => some ⟨.body, oneByte i, 0xFF, none, .start, 0⟩ } }

/-- For `PatternSlotsAreDefinedAndDeleted`. -/
theorem test_meets_slots :
    Meet .media (.definePattern ⟨1792, 256, 2⟩) stage (fun s rq => repeat? (byteAt rq.data 6) = some .wrap ∧
      leAt rq.data 4 2 = 256 ∧ (s.originRec .media).patFirst ≤ leAt rq.data 2 2 ∧
      leAt rq.data 2 2 + leAt rq.data 4 2 = (s.originRec .media).patLast + 1 ∧ s.ss.slots[(1 : SlotNo)] = none ∧
      ∀ m : SlotNo, m < 1 → s.ss.slots[m].isSome = true) ∧
    Meet .media (.definePattern ⟨1024, 1, 0⟩) (full stage) (fun s rq => leAt rq.data 4 2 = 1 ∧
      ∀ n : SlotNo, s.ss.slots[n].isSome = true) ∧
    Meet .media (.definePattern ⟨1793, 256, 2⟩) stage (fun s rq =>
      (s.originRec .media).patLast + 1 < leAt rq.data 2 2 + leAt rq.data 4 2) ∧
    Meet .media (.definePattern ⟨1024, 257, 0⟩) stage (fun _ rq => 256 < leAt rq.data 4 2) ∧
    Meet .media (.deletePattern 0) stage (fun s rq => byteAt rq.data 2 = (0 : SlotNo).val ∧
      s.ss.slots[(0 : SlotNo)] = some ⟨.media, 1024, 8, .clip⟩) ∧
    Meet .body (.deletePattern 0) stage (fun s _ => s.ss.slots[(0 : SlotNo)] = some ⟨.media, 1024, 8, .clip⟩) ∧
    Meet .body (.deletePattern 15) stage (fun s rq => byteAt rq.data 2 = (15 : SlotNo).val ∧ s.ss.slots[(15 : SlotNo)] = none) ∧
    Meet .body (.deletePattern 16) stage (fun _ rq => 15 < byteAt rq.data 2) :=
  ⟨meet (by decide +kernel) (by decide +kernel), meet (by decide +kernel) (by decide +kernel),
   meet (by decide +kernel) (by decide +kernel), meet (by decide +kernel) (by decide +kernel),
   meet (by decide +kernel) (by decide +kernel), meet (by decide +kernel) (by decide +kernel),
   meet (by decide +kernel) (by decide +kernel), meet (by decide +kernel) (by decide +kernel)⟩

/-- The track of the cues of the stage. -/
theorem track_sound : TrackSound (stage.originRec .body) stage.ce.pool 200 ⟨.level, 0, 2⟩ := by
  refine ⟨by decide +kernel, by decide +kernel, by decide +kernel, ?_, by decide +kernel⟩
  intro j h
  obtain rfl : j = 0 := by simpa using h
  decide +kernel

/-- For `CuesAreDefinedAndDeleted`. -/
theorem test_meets_cues :
    TrackSound (stage.originRec .body) stage.ce.pool 200 ⟨.level, 0, 2⟩ ∧
    ¬TrackSound (stage.originRec .body) stage.ce.pool 199 ⟨.level, 0, 2⟩ ∧
    Meet .body (.defineCue ⟨15, 1, 200, 0, 2, 2, 5001, [(1, 0, 2)]⟩) stage (fun s rq => byteAt rq.data 2 = (15 : LayerNo).val ∧
      byteAt rq.data 3 = 1 ∧ (defineCueArgs rq.data).tracks.map track? = [⟨.level, 0, 2⟩].map some ∧
      ending? (byteAt rq.data 7) = some .hide ∧ leAt rq.data 4 2 = 200 ∧ s.ce.cues[(4 : CueNo)] = none ∧
      ∀ d : CueNo, d < 4 → s.ce.cues[d].isSome = true) ∧
    Meet .body (.defineCue ⟨15, 1, 200, 0, 2, 1, 5000, [(1, 0, 2)]⟩) (full stage) (fun s _ => ∀ c : CueNo, s.ce.cues[c].isSome = true) ∧
    Meet .body (.defineCue ⟨15, 1, 0, 0, 2, 0, 0, [(1, 0, 2)]⟩) stage (fun _ rq => leAt rq.data 4 2 = 0) ∧
    Meet .body (.deleteCue 0) stage (fun s rq => byteAt rq.data 2 = (0 : CueNo).val ∧
      ∀ cue ∈ s.ce.cues[(0 : CueNo)], cue.owner = .body ∧ cue.run ≠ .ready) ∧
    Meet .media (.deleteCue 0) stage (fun s _ => ∀ cue ∈ s.ce.cues[(0 : CueNo)], cue.owner ≠ .media) ∧
    Meet .media (.deleteCue 23) stage (fun s rq => byteAt rq.data 2 = (23 : CueNo).val ∧ s.ce.cues[(23 : CueNo)] = none) ∧
    Meet .media (.deleteCue 24) stage (fun _ rq => 23 < byteAt rq.data 2) := by
  refine ⟨track_sound, fun h => absurd h.2.2.2.2 (by decide +kernel), ?_⟩
  exact ⟨meet (by decide +kernel) (by decide +kernel), meet (by decide +kernel) (by decide +kernel),
    meet (by decide +kernel) (by decide +kernel), meet (by decide +kernel) (by simp only [Option.mem_def, forall_some]; decide +kernel),
    meet (by decide +kernel) (by simp only [Option.mem_def, forall_some]; decide +kernel), meet (by decide +kernel) (by decide +kernel),
    meet (by decide +kernel) (by decide +kernel)⟩

/-- A bind entry that BODY's BIND of code 15h under mask F0h stands in for. -/
def sameEntry (e : BindEntry) : Bool := e.owner == .body && e.code == 0x10 && e.mask == 0xF0

/-- For `BindEntriesAreMadeAndUnmade`. -/
theorem test_meets_binds :
    BindsSound stage ∧
    Meet .body (.bind ⟨0x15, 0xF0, (31, 1), 2, 2⟩) stage (fun s rq => byteAt rq.data 7 = (2 : CueNo).val ∧
      bindAction? (byteAt rq.data 6) = some .toggle ∧
      flagRef? (byteAt rq.data 4) (byteAt rq.data 5) = some (some ⟨31, .clear⟩) ∧
      (oneByte (byteAt rq.data 2) &&& oneByte (byteAt rq.data 3)) = 0x10 ∧
      (s.ce.cues[(2 : CueNo)].map (·.owner)) = some .body ∧
      (∀ i : BindNo, (s.tu.binds[i].filter fun e => !sameEntry e) = none) ∧
      (s.tu.binds[(0 : BindNo)].any sameEntry) = true) ∧
    Meet .body (.bind ⟨0x80, 0xFF, (255, 0), 0, 2⟩) (full stage) (fun s _ =>
      ∀ i : BindNo, (s.tu.binds[i].filter fun e => !(e.owner == .body && e.code == 0x80 && e.mask == 0xFF)).isSome = true) ∧
    Meet .body (.bind ⟨0x80, 0xFF, (255, 0), 0, 1⟩) stage (fun s _ => (s.ce.cues[(1 : CueNo)].map (·.owner)) = some .media) ∧
    Meet .body (.bind ⟨0x80, 0xFF, (255, 0), 0, 23⟩) stage (fun s _ => s.ce.cues[(23 : CueNo)] = none) ∧
    Meet .service (.unbind 0) stage (fun s rq => byteAt rq.data 2 = (0 : BindNo).val ∧
      (s.tu.binds[(0 : BindNo)].map (·.owner)) = some .body) ∧
    Meet .media (.unbind 0) stage (fun s _ => (s.tu.binds[(0 : BindNo)].map (·.owner)) = some .body) ∧
    Meet .media (.unbind 23) stage (fun s rq => byteAt rq.data 2 = (23 : BindNo).val ∧ s.tu.binds[(23 : BindNo)] = none) ∧
    Meet .media (.unbind 24) stage (fun _ rq => 23 < byteAt rq.data 2) :=
  ⟨stage_binds, meet (by decide +kernel) (by decide +kernel), meet (by decide +kernel) (by decide +kernel),
   meet (by decide +kernel) (by decide +kernel), meet (by decide +kernel) (by decide +kernel),
   meet (by decide +kernel) (by decide +kernel), meet (by decide +kernel) (by decide +kernel),
   meet (by decide +kernel) (by decide +kernel), meet (by decide +kernel) (by decide +kernel)⟩

theorem stage_ports : PortsSound (ask .body .readStatus stage) := by
  refine ⟨?_, ?_⟩
  · intro o; cases o <;> decide +kernel
  · unfold ChannelSound; decide +kernel

/-- For `ReadRequestsReport`. -/
theorem test_meets_reads :
    Meet .body .timeQuery stage (fun _ _ => True) ∧
    Meet .body (.subscribe 1023) stage (fun _ rq => leAt rq.data 2 2 = 1023) ∧
    Meet .body (.subscribe 1024) stage (fun _ rq => 1024 ≤ leAt rq.data 2 2) ∧
    Meet .body (.readCapture 7) stage (fun _ rq => byteAt rq.data 2 = (7 : LineNo).val) ∧
    Meet .body (.readCapture 8) stage (fun _ rq => 7 < byteAt rq.data 2) ∧
    Meet .body .readStatus stage (fun s _ => PortsSound s ∧ LoopsSound s ∧ CuesSound s) :=
  ⟨meet (by decide +kernel) trivial, meet (by decide +kernel) (by decide +kernel), meet (by decide +kernel) (by decide +kernel),
   meet (by decide +kernel) (by decide +kernel), meet (by decide +kernel) (by decide +kernel),
   meet (by decide +kernel) ⟨stage_ports, stage_loops, stage_cues⟩⟩

/-- The state with trim value `trim` and accumulator `acc`. -/
def trimmed (trim acc : BitVec 24) (s : State) : State := { s with sc := { s.sc with trim := trim, acc := acc } }

/-- For `ClockRequestsSetStepAndTrim`, `TrimGainsItsRate`. -/
theorem test_meets_clock :
    Meet .body (.setClock ⟨0, 5000000⟩) stage (fun s rq => s.ot.timeSource = .body ∧ byteAt rq.data 2 = 0 ∧
      BitVec.ofNat 48 (leAt rq.data 3 6) = (5000000 : Time)) ∧
    Meet .body (.setClock ⟨1, 2 ^ 48 - 72000⟩) stage (fun s rq => byteAt rq.data 2 = 1 ∧
      s.sc.scene + BitVec.ofNat 48 (leAt rq.data 3 6) = 528000) ∧
    Meet .body (.setClock ⟨2, 0⟩) stage (fun _ rq => 1 < byteAt rq.data 2) ∧
    Meet .media (.setClock ⟨0, 0⟩) stage (fun s _ => s.ot.timeSource ≠ .media) ∧
    Meet .body (.trimClock ⟨2 ^ 24 - 1, 1⟩) stage (fun s rq => s.ot.timeSource = .body ∧
      trimSense? (byteAt rq.data 5) = some .subtract) ∧
    Meet .body (.trimClock ⟨1, 2⟩) stage (fun _ rq => trimSense? (byteAt rq.data 5) = none) ∧
    Meet .assist (.trimClock ⟨1, 1⟩) stage (fun s _ => s.ot.timeSource ≠ .assist) ∧
    (trimmed 839 16776377 stage).sc.acc.toNat + (trimmed 839 16776377 stage).sc.trim.toNat = 2 ^ 24 ∧
    (trimmed 839 16776376 stage).sc.acc.toNat + (trimmed 839 16776376 stage).sc.trim.toNat < 2 ^ 24 ∧
    (trimmed 839 0 stage).trimSuspended = false :=
  ⟨meet (by decide +kernel) (by decide +kernel), meet (by decide +kernel) (by decide +kernel),
   meet (by decide +kernel) (by decide +kernel), meet (by decide +kernel) (by decide +kernel),
   meet (by decide +kernel) (by decide +kernel), meet (by decide +kernel) (by decide +kernel),
   meet (by decide +kernel) (by decide +kernel), by decide +kernel, by decide +kernel, by decide +kernel⟩

/-- The state with the gate of `o` at `g`. -/
def gated (o : Origin) (g : Gate) (s : State) : State := s.setGate o g

/-- For `LayersAreOpenedShownAndClosed`. -/
theorem test_meets_layers :
    Running stage ∧ Running (stageIn .settling) ∧ StreamsSound stage ∧ CuesSound stage ∧
    Meet .assist (.openLayer 4) stage (fun s rq => byteAt rq.data 2 = (4 : Tier).val ∧ (s.originRec .assist).maxTier = 4 ∧
      s.heldCount .assist ≠ (s.originRec .assist).limit ∧ s.heldCount .assist < (s.originRec .assist).reserve ∧
      s.lt.layers[(3 : LayerNo)].state = .free ∧ ∀ j : LayerNo, j < 3 → s.lt.layers[j].state ≠ .free) ∧
    Meet .assist (.openLayer 5) stage (fun s rq => byteAt rq.data 2 = (5 : Tier).val ∧ (s.originRec .assist).maxTier < 5) ∧
    Meet .media (.openLayer 2) { stage with lt := ((List.replicate 10 (Request.openLayer 1)).foldl
        (fun s r => run .media r { s with mp := stage.mp }) stage).lt } (fun s rq => byteAt rq.data 2 = (2 : Tier).val ∧
      s.freeCountOfLayers = 3 ∧ (s.originRec .media).reserve ≤ s.heldCount .media ∧
      ((Origin.all.filter (· != .media)).map fun q => (s.originRec q).reserve - s.heldCount q).sum = 3) ∧
    Meet .media (.openLayer 6) stage (fun _ rq => 5 < byteAt rq.data 2) ∧
    Meet .body (.showLayer 0) stage (fun s rq => byteAt rq.data 2 = (0 : LayerNo).val ∧ s.lt.layers[(0 : LayerNo)].state ≠ .free ∧
      s.lt.layers[(0 : LayerNo)].owner = some .body ∧ s.gate .body = .opened) ∧
    Meet .body (.hideLayer 0) (gated .body .opening stage) (fun s _ => s.lt.layers[(0 : LayerNo)].owner = some .body ∧
      s.gate .body ≠ .opened) ∧
    Meet .media (.showLayer 15) stage (fun s rq => byteAt rq.data 2 = (15 : LayerNo).val ∧
      s.lt.layers[(15 : LayerNo)].owner ≠ some .media) ∧
    Meet .body (.closeLayer 0) stage (fun s _ => s.lt.layers[(0 : LayerNo)].owner = some .body ∧
      s.ss.queues[(0 : QueueNo)].bound = some 0 ∧ (s.ce.cues[(0 : CueNo)].any fun c => c.run.active && c.layer == 0) = true) ∧
    Meet .media (.closeLayer 1) stage (fun s _ => s.lt.layers[(1 : LayerNo)].owner = some .media ∧
      ∀ c : CueNo, (s.ce.cues[c].any fun c => c.run.active && c.layer == 1) = false) ∧
    Meet .media (.closeLayer 0) stage (fun s _ => s.lt.layers[(0 : LayerNo)].owner ≠ some .media) :=
  ⟨.inl rfl, .inr rfl, stage_streams, stage_cues, meet (by decide +kernel) (by decide +kernel),
   meet (by decide +kernel) (by decide +kernel), meet (by decide +kernel) (by decide +kernel),
   meet (by decide +kernel) (by decide +kernel), meet (by decide +kernel) (by decide +kernel),
   meet (by decide +kernel) (by decide +kernel), meet (by decide +kernel) (by decide +kernel),
   meet (by decide +kernel) (by decide +kernel), meet (by decide +kernel) (by decide +kernel),
   meet (by decide +kernel) (by decide +kernel)⟩

/-- An EDIT_LAYER of zones and source. -/
def edited (layer : Nat) (zones : Nat) (src : SourceArg) : Request :=
  .editLayer ⟨layer, 0x441, some zones, none, none, none, none, none, some src, none, none, none, some 10001⟩

/-- An EDIT_LAYER with the mask given, and no field but the fade-in. -/
def fade (layer mask ms : Nat) : Request :=
  .editLayer ⟨layer, mask, none, none, none, none, none, none, none, none, none, some ms, none⟩

/-- The stage with both stream queues bound. -/
def bothBound : State :=
  { stage with
    ss := { stage.ss with queues := modAt stage.ss.queues 1 fun q => { q with bound := some 2 } }
    lt := { stage.lt with layers := modAt stage.lt.layers 2 fun l => { l with ed := { l.ed with source := .stream 1 50 } } } }

theorem bothBound_streams : StreamsSound bothBound := by
  unfold StreamsSound namesQueue
  simp only [exists_some]
  decide +kernel

/-- For `EditsWriteTheMarkedFields`. -/
theorem test_meets_edits :
    Running stage ∧ StreamsSound stage ∧
    Meet .media (edited 1 3 (.stream 5000)) stage (fun s rq => leAt rq.data 3 2 < 2048 ∧ s.gate .media = .opened ∧
      s.lt.layers[(1 : LayerNo)].owner = some .media ∧
      ((edit? (editLayerArgs rq.data)).any fun e => setsStream e && e.clamped && e.zones == some 3 &&
        [0, 1].all fun z : ZoneNo => s.targetable .media z && s.co.zones[z].isSome) = true ∧
      s.ss.queues[(1 : QueueNo)].bound = none ∧ ∀ p : QueueNo, s.ss.queues[p].bound ≠ some 1) ∧
    StreamsSound bothBound ∧
    Meet .media (edited 1 3 (.stream 20)) bothBound (fun s rq =>
      ((edit? (editLayerArgs rq.data)).any setsStream) = true ∧ s.ss.queues[(0 : QueueNo)].bound = some 0 ∧
      s.ss.queues[(1 : QueueNo)].bound = some 2) ∧
    Meet .media (edited 1 2 (.pattern 0)) (gated .media (.closed 700000) stage) (fun s rq => s.gate .media ≠ .opened ∧
      (edit? (editLayerArgs rq.data)).isSome = true ∧ s.ss.slots[(0 : SlotNo)].isSome = true) ∧
    Meet .media (edited 1 2 (.pattern 15)) stage (fun s rq => (edit? (editLayerArgs rq.data)).isSome = true ∧
      s.ss.slots[(15 : SlotNo)] = none) ∧
    Meet .media (edited 1 0x80000000 (.solid Rgb.zero)) stage (fun s rq =>
      ((edit? (editLayerArgs rq.data)).any fun e => e.zones == some 0x80000000) = true ∧ s.co.zones[(31 : ZoneNo)] = none) ∧
    Meet .media (edited 1 2 (.solid Rgb.zero)) { stage with ot := { stage.ot with recs := modAt stage.ot.recs 1 fun r =>
        { r with windows := setAt r.windows 0 ⟨true, 90, 383⟩ } } } (fun s rq =>
      ((edit? (editLayerArgs rq.data)).any fun e => e.zones == some 2) = true ∧ s.targetable .media 1 = false) ∧
    Meet .media (edited 16 0 (.pattern 0)) stage (fun _ rq => 15 < byteAt rq.data 2) ∧
    Meet .media (fade 1 2048 0) stage (fun _ rq => 2048 ≤ leAt rq.data 3 2) ∧
    Meet .media (fade 0 512 0) stage (fun s rq => byteAt rq.data 2 = (0 : LayerNo).val ∧ leAt rq.data 3 2 < 2048 ∧
      s.lt.layers[(0 : LayerNo)].owner ≠ some .media) ∧
    Meet .media (fade 15 0 0) stage (fun s rq => byteAt rq.data 2 = (15 : LayerNo).val ∧
      s.lt.layers[(15 : LayerNo)].state = .free) ∧
    Meet .media (edited 1 2 (.pattern 16)) stage (fun s rq => s.lt.layers[(1 : LayerNo)].owner = some .media ∧
      edit? (editLayerArgs rq.data) = none) :=
  ⟨.inl rfl, stage_streams, meet (by decide +kernel) (by decide +kernel), bothBound_streams,
   meet (by decide +kernel) (by decide +kernel), meet (by decide +kernel) (by decide +kernel),
   meet (by decide +kernel) (by decide +kernel), meet (by decide +kernel) (by decide +kernel),
   meet (by decide +kernel) (by decide +kernel), meet (by decide +kernel) (by decide +kernel),
   meet (by decide +kernel) (by decide +kernel), meet (by decide +kernel) (by decide +kernel),
   meet (by decide +kernel) (by decide +kernel), meet (by decide +kernel) (by decide +kernel)⟩

/-- Fields of an EDIT_LAYER as its frame carries them, with the bounds of each kind. -/
def someArgs (src : SourceArg) (fadeIn : Nat) (hole : Nat × Nat) : EditLayerArgs :=
  ⟨1, 0x7FF, some 1, some 1, some (hole, (0xFFFF, 0)), some 3, some 255, some (0xFF, 9), some src, some 65535, some 0x8000,
    some fadeIn, some 10000⟩

/-- For `EditsWriteTheMarkedFields`: fields of their kinds, with and without CLAMPED, and fields outside. -/
theorem test_meets_edit_fields :
    ((edit? (someArgs (.stream 0) 10000 (383, 1))).map (·.clamped)) = some false ∧
    ((edit? (someArgs (.stream 1000) 10000 (0, 384))).map (·.clamped)) = some false ∧
    ((edit? (someArgs (.stream 1001) 10000 (383, 1))).map (·.clamped)) = some true ∧
    ((edit? (someArgs (.stream 9) 10000 (383, 1))).map (·.clamped)) = some true ∧
    ((edit? (someArgs (.pattern 15) 10001 (383, 1))).map (·.clamped)) = some true ∧
    edit? (someArgs (.stream 0) 0 (383, 2)) = none ∧ edit? (someArgs (.stream 0) 0 (0, 0)) = none ∧
    edit? (someArgs (.unknown 3) 0 (0, 1)) = none := by decide +kernel

/-- The stage at the microsecond of a frame start, with the gates of MEDIA and ASSIST OPENING and a copy on layer 1. -/
def framing : State :=
  { gated .media .opening (gated .assist .opening stage) with
    sc := { stage.sc with nextFrame := some 600000 }
    lt := { (gated .media .opening (gated .assist .opening stage)).lt with
      layers := modAt stage.lt.layers 1 fun l => { l with copy := some ⟨l.ed, true, true⟩ } } }

/-- For `GatesCloseOpenAndExpire`. -/
theorem test_meets_gates :
    Meet .body (.gateClose 0) stage (fun s rq => Running s ∧ leAt rq.data 2 2 = 0 ∧ ∀ d, s.gate .body ≠ .closed d) ∧
    Meet .body (.gateClose 2001) (gated .body .opening stage) (fun s rq => leAt rq.data 2 2 = 2001 ∧ s.gate .body = .opening) ∧
    Meet .assist (.gateClose 20) stage (fun s _ => s.gate .assist = .closed 510000) ∧
    Meet .assist (.gateClose 2001) stage (fun s rq => leAt rq.data 2 2 = 2001 ∧ s.gate .assist = .closed 510000) ∧
    Meet .assist .gateOpen stage (fun s _ => s.gate .assist = .closed 510000) ∧
    Meet .body .gateOpen stage (fun s _ => s.gate .body = .opened) ∧
    (let s := gated .assist (.closed 500000) stage
     s.ps.resetHeld = false ∧ s.gate .assist = .closed 500000 ∧ 0 ≤ (s.sc.local' - 500000).toInt) ∧
    (stage.sc.local' - 510000).toInt < 0 := by
  refine ⟨meet (by decide +kernel) ⟨.inl rfl, by decide +kernel, ?_⟩, meet (by decide +kernel) (by decide +kernel),
    meet (by decide +kernel) (by decide +kernel), meet (by decide +kernel) (by decide +kernel),
    meet (by decide +kernel) (by decide +kernel), meet (by decide +kernel) (by decide +kernel), by decide +kernel,
    by decide +kernel⟩
  intro d h
  have : stage.gate .body = .opened := by decide +kernel
  exact Gate.noConfusion (this.symm.trans h)

/-- The stage with its latest frame start at scene time `t`. -/
def framedAt (t : Time) : State := { stage with sc := { stage.sc with lastFrame := some ⟨t, 494000⟩ } }

/-- R102, R114: after two far steps the second of two starts 2^46 us apart is due, behind a first that reads later. -/
theorem test_due_behind_one_that_waits :
    let t := (stage.setStartQueue [⟨1, 60000000, .media⟩, ⟨2, 2 ^ 46 + 60000000, .body⟩]).dueStarts (2 ^ 47 + 200000000)
    t.ce.queue = [⟨1, 60000000, .media⟩] ∧ t.ce.cues[(2 : CueNo)].any (·.run.active) = true := by decide +kernel

/-- R106: a start exactly 2^47 us from its frame time has elapsed time 0. -/
theorem test_elapsed_is_not_negative : elapsed (2 ^ 47) 0 = 0 ∧ elapsed (2 ^ 47 - 1) 0 = (2 ^ 47 - 1) / 1000 := by decide

/-- R98, R100: a new entry stands after every entry at or before its own, with starts 2^47 us apart and more too. -/
theorem test_entries_are_placed :
    (insertEntry ⟨2, 2 ^ 47 + 10, .body⟩ [⟨0, 0, .body⟩, ⟨1, 2 ^ 46, .body⟩]).map (·.cue) = [0, 1, 2] ∧
    (insertEntry ⟨2, 600, .body⟩ [⟨0, 600, .body⟩, ⟨1, 601, .body⟩]).map (·.cue) = [0, 2, 1] := by decide

/-- For `CuesStartStopAndEnd`. -/
theorem test_meets_cue_runs :
    Meet .service (.startCue ⟨1, .next⟩) stage (fun s rq => Running s ∧ byteAt rq.data 2 = (1 : CueNo).val ∧
      byteAt rq.data 3 = 2 ∧ (s.ce.cues[(1 : CueNo)].map (·.run)) = some .ready ∧ s.ce.queue.length < 16) ∧
    Meet .body (.startCue ⟨0, .after 60001⟩) stage (fun s rq => byteAt rq.data 3 = 1 ∧ leAt rq.data 4 4 = 60001 ∧
      (s.ce.cues[(0 : CueNo)].any fun c => c.run.active) = true) ∧
    Meet .body (.startCue ⟨2, .atTime 60600000⟩) stage (fun s rq => byteAt rq.data 3 = 0 ∧
      (BitVec.ofNat 48 (leAt rq.data 4 6) - s.sc.scene).toInt = 60000000 ∧
      (s.ce.cues[(2 : CueNo)].map (·.run)) = some .scheduled) ∧
    Meet .body (.startCue ⟨2, .atTime (600000 - 1000001)⟩) stage (fun s rq =>
      (BitVec.ofNat 48 (leAt rq.data 4 6) - s.sc.scene).toInt < -1000000) ∧
    Meet .assist (.startCue ⟨2, .next⟩) stage (fun s _ => (s.ce.cues[(2 : CueNo)].map (·.owner)) = some .body) ∧
    Meet .body (.startCue ⟨0, .next⟩) { stage with ce := { stage.ce with queue := List.replicate 16 ⟨2, 700000, .body⟩ } }
      (fun s _ => 16 ≤ s.ce.queue.length ∧ (s.ce.cues[(0 : CueNo)].any fun c => c.run != .scheduled) = true) ∧
    Meet .media (.stopCue 1) stage (fun s _ => (s.ce.cues[(1 : CueNo)].map (·.run)) = some .ready) ∧
    Meet .body (.stopCue 2) stage (fun s _ => (s.ce.cues[(2 : CueNo)].map (·.run)) = some .scheduled) ∧
    Meet .body (.stopCue 0) stage (fun s _ => (s.ce.cues[(0 : CueNo)].map fun c => (c.release, c.run)) =
      some (100, .running 590000 [⟨20, 0, 0⟩])) ∧
    Meet .service (.stopCue 3) stage (fun s _ => (s.ce.cues[(3 : CueNo)].map (·.run)) =
      some (.releasing 580000 592000 [⟨7, 0, 0⟩])) ∧
    (let e := fun t : Time => ((t - 590000).toInt / 1000).toNat
     (stage.ce.cues[(0 : CueNo)].map fun c => (c.duration, c.loops)) = some (200, 2) ∧
       (framedAt 990000).sc.lastFrame = some ⟨990000, 494000⟩ ∧ 2 ≤ e 990000 / 200 ∧ e 989999 / 200 < 2) ∧
    (let e := fun t : Time => (t - 592000).toInt / 1000
     (stage.ce.cues[(3 : CueNo)].map (·.release)) = some 50 ∧ 50 ≤ e 642000 ∧ e 641999 < 50 ∧ e 591999 = -1) :=
  ⟨meet (by decide +kernel) ⟨.inl rfl, by decide +kernel⟩, meet (by decide +kernel) (by decide +kernel),
   meet (by decide +kernel) (by decide +kernel), meet (by decide +kernel) (by decide +kernel),
   meet (by decide +kernel) (by decide +kernel), meet (by decide +kernel) (by decide +kernel),
   meet (by decide +kernel) (by decide +kernel), meet (by decide +kernel) (by decide +kernel),
   meet (by decide +kernel) (by decide +kernel), meet (by decide +kernel) (by decide +kernel), by decide +kernel, by decide +kernel⟩

/-- The state with queue 0's last acceptance at local time `t`. -/
def accepted (t : Time) (s : State) : State :=
  { s with ss := { s.ss with queues := modAt s.ss.queues 0 fun q => { q with last := some t } } }

/-- What staleness of a queue goes by after the frame start at 600 000 us: a current frame, the bound layer, its source, and the
microseconds since `last`. -/
def aged (s : State) (q : QueueNo) (last : Time) : Bool × Option LayerNo × Option Source × Nat :=
  let t := s.frameStart 600000
  let x := t.ss.queues[q]
  (x.current.isSome, x.bound, x.bound.map fun i => t.lt.layers[i].ed.source, (s.sc.local' - last).toNat)

/-- No frame start is due on the stage, nor one microsecond before its next. -/
theorem stage_not_due : ∀ tf, ¬FrameDue stage tf := by
  rintro tf ⟨h, h1, -, -⟩
  obtain rfl : (604000 : Time) = tf := by simpa [stage] using h
  exact absurd h1 (by decide +kernel)

/-- For `StreamFramesAreJudged`. -/
theorem test_meets_streams :
    Running stage ∧ StreamsSound stage ∧
    Meet .body (.streamFrame ⟨0, 2600000, 16, List.replicate 16 ⟨1, 2, 3⟩⟩) stage (fun s rq =>
      byteAt rq.data 2 = (0 : LayerNo).val ∧ s.ss.queues[(0 : QueueNo)].bound = some 0 ∧
      s.lt.layers[(0 : LayerNo)].owner = some .body ∧ byteAt rq.data 9 = 16 ∧
      (BitVec.ofNat 48 (leAt rq.data 3 6) - rq.stamp).toInt = 2000000 ∧
      (∀ f ∈ s.ss.queues[(0 : QueueNo)].current, 0 < (BitVec.ofNat 48 (leAt rq.data 3 6) - f.show').toInt) ∧
      ∀ f ∈ s.ss.queues[(0 : QueueNo)].pending, 0 < (BitVec.ofNat 48 (leAt rq.data 3 6) - f.show').toInt) ∧
    Meet .body (.streamFrame ⟨0, 610000, 1, [⟨1, 2, 3⟩]⟩) stage (fun s rq =>
      (s.ss.queues[(0 : QueueNo)].pending.any fun f => decide ((BitVec.ofNat 48 (leAt rq.data 3 6) - f.show').toInt ≤ 0)) = true) ∧
    Meet .media (.streamFrame ⟨1, 620000, 1, [⟨1, 2, 3⟩]⟩) stage (fun s rq => byteAt rq.data 2 = (1 : LayerNo).val ∧
      ∀ q : QueueNo, s.ss.queues[q].bound ≠ some 1) ∧
    (FrameDue framing 600000 ∧ aged framing 0 400000 = (true, some 0, some (.stream 0 100), 100000)) ∧
    (FrameDue (accepted 399999 framing) 600000 ∧
      aged (accepted 399999 framing) 0 399999 = (true, some 0, some (.stream 0 100), 100001)) := by
  refine ⟨.inl rfl, stage_streams, meet (by decide +kernel) ?_, meet (by decide +kernel) (by decide +kernel),
    meet (by decide +kernel) (by decide +kernel), ⟨by unfold FrameDue; decide +kernel, by decide +kernel⟩,
    by unfold FrameDue; decide +kernel, by decide +kernel⟩
  simp only [Option.mem_def, forall_some]
  decide +kernel

/-- R52: STREAM_STALE is the judgement of the frame start that is due. -/
theorem test_stale_at_the_frame_start :
    ([490000, 400000, 399999, 500001].map fun last =>
      (after (.streamStale 0) (accepted last framing)).ss.queues[(0 : QueueNo)].stale) = [false, false, true, true] ∧
    (after (.streamStale 0) (accepted 399999 stage)).ss.queues[(0 : QueueNo)].stale = false := by decide +kernel

/-- For `ZonesAreHeldAndReleased`. -/
theorem test_meets_holds :
    Meet .assist (.holdZone ⟨0, 4⟩) stage (fun s rq => s.ps.state ≠ .setup ∧ byteAt rq.data 2 = (0 : ZoneNo).val ∧
      byteAt rq.data 3 = (4 : Tier).val ∧ s.targetable .assist 0 = true ∧ (s.originRec .assist).maxTier = 4 ∧
      s.ot.holds[(0 : ZoneNo)] = none) ∧
    Meet .media (.holdZone ⟨1, 0⟩) stage (fun s _ => s.targetable .media 1 = true ∧ s.ot.holds[(1 : ZoneNo)] = some ⟨.media, 2⟩) ∧
    Meet .body (.holdZone ⟨1, 3⟩) stage (fun s _ => s.targetable .body 1 = true ∧ s.ot.holds[(1 : ZoneNo)] = some ⟨.media, 2⟩) ∧
    Meet .body (.holdZone ⟨1, 2⟩) stage (fun s _ => s.ot.holds[(1 : ZoneNo)] = some ⟨.media, 2⟩) ∧
    Meet .body (.holdZone ⟨31, 0⟩) stage (fun s _ => s.targetable .body 31 = false) ∧
    Meet .body (.holdZone ⟨32, 6⟩) stage (fun _ rq => 31 < byteAt rq.data 2 ∧ 5 < byteAt rq.data 3) ∧
    Meet .body (.holdZone ⟨0, 0⟩) setup (fun s _ => s.ps.state = .setup) ∧
    Meet .media (.releaseZone 1) stage (fun s _ => s.ot.holds[(1 : ZoneNo)] = some ⟨.media, 2⟩) ∧
    Meet .body (.releaseZone 1) stage (fun s _ => s.ot.holds[(1 : ZoneNo)] = some ⟨.media, 2⟩) ∧
    Meet .body (.releaseZone 32) stage (fun _ rq => 31 < byteAt rq.data 2) ∧
    Meet .body (.releaseZone 1) setup (fun s _ => s.ps.state = .setup) :=
  ⟨meet (by decide +kernel) (by decide +kernel), meet (by decide +kernel) (by decide +kernel),
   meet (by decide +kernel) (by decide +kernel), meet (by decide +kernel) (by decide +kernel),
   meet (by decide +kernel) (by decide +kernel), meet (by decide +kernel) (by decide +kernel),
   meet (by decide +kernel) (by decide +kernel), meet (by decide +kernel) (by decide +kernel),
   meet (by decide +kernel) (by decide +kernel), meet (by decide +kernel) (by decide +kernel),
   meet (by decide +kernel) (by decide +kernel)⟩

/-- The stage with a full start queue. -/
def crammed : State := { stage with ce := { stage.ce with queue := List.replicate 16 ⟨2, 700000, .body⟩ } }

/-- For `FlagsAreWrittenAndCodesMatched`. -/
theorem test_meets_flags_and_codes :
    Meet .media (.setFlags ⟨0xFF000000, 0x81000000⟩) stage (fun s rq => s.ps.state ≠ .setup ∧
      ∀ f : FlagNo, (BitVec.ofNat 32 (leAt rq.data 2 4)).getLsbD f.val = true → s.tu.writers[f] = .origin .media) ∧
    Meet .media (.setFlags ⟨0x00800000, 0⟩) stage (fun s rq => (BitVec.ofNat 32 (leAt rq.data 2 4)).getLsbD 23 = true ∧
      s.tu.writers[(23 : FlagNo)] ≠ .origin .media) ∧
    Meet .media (.setFlags ⟨0, 0⟩) setup (fun _ rq => BitVec.ofNat 32 (leAt rq.data 2 4) = 0) ∧
    Meet .media (.trigger 0xEF) stage (fun s rq => Running s ∧ byteAt rq.data 2 < 0xF0) ∧
    Meet .media (.trigger 0x1F) stage (fun s rq => (s.tu.binds[(0 : BindNo)].any fun e =>
      (oneByte (byteAt rq.data 2) &&& e.mask == e.code) && qualHolds s.tu.flags e.qual) = true) ∧
    Meet .media (.trigger 0xF0) stage (fun _ rq => 0xF0 ≤ byteAt rq.data 2) ∧
    (Running stage ∧ ¬Running setup ∧ stage.ce.cues[(23 : CueNo)] = none ∧ stage.ce.queue.length < 16) ∧
    (stage.ce.cues.toList.map (·.map fun c => (c.release, c.run))).take 4 =
      [some (100, .running 590000 [⟨20, 0, 0⟩]), some (0, .ready), some (0, .scheduled),
        some (50, .releasing 580000 592000 [⟨7, 0, 0⟩])] ∧
    (crammed.ce.queue.length = 16 ∧ crammed.ce.cues[(1 : CueNo)] = some (aCue .media 1 .restore 0 .ready)) :=
  ⟨meet (by decide +kernel) (by decide +kernel), meet (by decide +kernel) (by decide +kernel),
   meet (by decide +kernel) (by decide +kernel), meet (by decide +kernel) ⟨.inl rfl, by decide +kernel⟩,
   meet (by decide +kernel) (by decide +kernel), meet (by decide +kernel) (by decide +kernel),
   ⟨.inl rfl, by unfold Running; decide +kernel, by decide +kernel, by decide +kernel⟩, by decide +kernel, by decide +kernel⟩

/-- R101: START, STOP and TOGGLE on a READY, a SCHEDULED and a RUNNING cue. -/
theorem test_actions_move_the_cue :
    ([BindAction.start, .stop, .toggle].map fun a => [0, 1, 2].map fun c : CueNo =>
      ((stage.act ⟨.body, 0, 0, none, a, c⟩ 650000).ce.cues[c]).map (·.run)) =
      [[some .scheduled, some .scheduled, some .scheduled],
       [some (.releasing 590000 600000 [⟨20, 0, 0⟩]), some .ready, some .ready],
       [some (.releasing 590000 600000 [⟨20, 0, 0⟩]), some .scheduled, some .ready]] := by decide +kernel

/-! ## States that meet the hypotheses of the other statements -/

/-- The state with line `t` at record `x`. -/
def lined (t : LineNo) (x : Line) (s : State) : State := s.setLineRec t x

/-- A line of the given mode whose change to high has stood for its debounce of 5 ms, to the microsecond. -/
def ripe (mode : LineMode) (mirror : Option FlagNo) : Line := ⟨mode, 5, false, .holdTimed, 1, mirror, false, some ⟨true, 495000⟩, true⟩

/-- For `LineChangesAreDebouncedAndCaptured`. -/
theorem test_meets_line_changes :
    (stage.ps.resetHeld = false ∧ stage.tu.lines[(0 : LineNo)].raw = true ∧ stage.tu.lines[(0 : LineNo)].pendingChange = none) ∧
    (stage.tu.lines[(1 : LineNo)].pendingChange = some ⟨true, 495000⟩ ∧ stage.tu.lines[(1 : LineNo)].mode = .both ∧
      5 * 1000 ≤ (stage.sc.local' - 495000).toNat ∧ stage.tu.captures[(1 : LineNo)].valid = false ∧ Running stage) ∧
    (let s := { stage with sc := { stage.sc with local' := 499999 } }
     (s.sc.local' - 495000).toNat < s.tu.lines[(1 : LineNo)].debounce * 1000) ∧
    (let s := lined 0 (ripe .level (some 5)) stage
     s.tu.lines[(0 : LineNo)].mode = .level ∧ s.tu.lines[(0 : LineNo)].mirror = some 5) ∧
    (let s := lined 7 (ripe .fall none) stage; s.tu.lines[(7 : LineNo)].mode = .fall ∧ s.tu.lines[(7 : LineNo)].pendingChange =
      some ⟨true, 495000⟩) ∧
    (let s := (lined 7 (ripe .rise none) stage).setCapture 7 ⟨true, .rise, 0, 499000, false⟩
     s.tu.captures[(7 : LineNo)].valid = true ∧ s.tu.lines[(7 : LineNo)].policy = .holdTimed ∧
       ¬s.tu.lines[(7 : LineNo)].window * 1000 < (s.sc.local' - s.tu.captures[(7 : LineNo)].fill).toNat) ∧
    ((stageIn .asleep).ps.state = .asleep ∧ (stageIn .asleep).tu.lines[(1 : LineNo)].wake = true ∧
      (stageIn .asleep).tu.wakeList.length < 8) ∧
    (let s := { stageIn .waking with tu := { stage.tu with wakeList := List.replicate 8 ⟨0xF1, 0, 1⟩ } }
     s.ps.state = .waking ∧ 8 ≤ s.tu.wakeList.length) := by
  unfold Running
  decide +kernel

/-- A status word. -/
def status : StatusWord := ⟨151, ⟨true, false, false⟩, ⟨false, true, false⟩⟩

/-- For `LoopReturnsAreJudged`. -/
theorem test_meets_loop_returns :
    (stage.lc.loops[(2 : LoopNo)].await = none) ∧
    (stage.lc.loops[(0 : LoopNo)].await = some ⟨.refresh 3, 499000, some 499240⟩ ∧ stage.lc.loops[(0 : LoopNo)].errors = 2 ∧
      stage.lc.loops[(0 : LoopNo)].nodes = 8 ∧ 200 ≤ (stage.sc.local' - 499240).toNat) ∧
    (let now : Time := 499440
     (now - 499240).toNat ≤ 200 ∧ 200 ≤ (now - 499240).toNat ∧
       (⟨true, 8, some status⟩ : LoopReturn).hops = stage.lc.loops[(0 : LoopNo)].nodes ∧ 3 = (3 : Fin 64).val) ∧
    (stage.lc.loops[(1 : LoopNo)].await = some ⟨.count, 499500, none⟩ ∧ (⟨true, 64, none⟩ : LoopReturn).hops = 64 ∧
      (⟨true, 0, none⟩ : LoopReturn).hops = 0 ∧ 64 < (⟨true, 65, none⟩ : LoopReturn).hops) := by decide +kernel

/-- 9.11: a third error in a row fails the loop; its holdoff of 8 doubles to 16, and QUIET goes out. -/
theorem test_third_error_fails :
    let x := (after (.loopReturnTimeout 0) stage).lc.loops[(0 : LoopNo)]
    x.state = .failed ∧ x.holdCount = 8 ∧ x.holdLen = 16 ∧ x.errors = 0 ∧ x.out = [.quiet] := by decide +kernel

/-- 9.11: a good COUNT return discovers 30 nodes, reported to every subscriber. -/
theorem test_count_discovers :
    let t := after (.loopReturnReceived 1 ⟨true, 30, none⟩) stage
    t.lc.loops[(1 : LoopNo)].state = .running ∧ t.lc.loops[(1 : LoopNo)].nodes = 30 ∧
      sent .media t = [[0x86, 1, 0, 1, 0, 30, 0]] := by decide +kernel

/-- For `HealthIsClearedByService`. -/
theorem test_meets_health :
    Meet .service (.clearHealth ⟨383, 1⟩) stage (fun _ rq => 1 ≤ leAt rq.data 4 2 ∧ leAt rq.data 2 2 + leAt rq.data 4 2 = 384) ∧
    Meet .service (.clearHealth ⟨383, 2⟩) stage (fun _ rq => 384 < leAt rq.data 2 2 + leAt rq.data 4 2) ∧
    Meet .body (.clearHealth ⟨0, 384⟩) stage (fun _ _ => Origin.body ≠ .service) :=
  ⟨meet (by decide +kernel) (by decide +kernel), meet (by decide +kernel) (by decide +kernel), meet (by decide +kernel) (by decide)⟩

/-- For `ForgetTearsDownAnOrigin`. -/
theorem test_meets_forget :
    Meet .service (.forget 1) stage (fun _ rq => byteAt rq.data 2 = Origin.media.idx.val) ∧
    Meet .body (.forget 0) stage (fun _ rq => byteAt rq.data 2 = Origin.body.idx.val) ∧
    Meet .media (.forget 0) stage (fun _ rq => byteAt rq.data 2 = Origin.body.idx.val ∧ Origin.media ≠ .body) ∧
    Meet .service (.forget 4) stage (fun _ rq => 3 < byteAt rq.data 2) ∧
    (LayersSound stage ∧ StreamsSound stage ∧ CuesSound stage) :=
  ⟨meet (by decide +kernel) (by decide +kernel), meet (by decide +kernel) (by decide +kernel),
   meet (by decide +kernel) (by decide +kernel), meet (by decide +kernel) (by decide +kernel),
   stage_layers, stage_streams, stage_cues⟩

/-- The stage with layer 1 at tier ALERT and the presence given. -/
def alerted (presence : Nat) : State :=
  { stage with lt := { stage.lt with layers := modAt stage.lt.layers 1 fun l => { l with tier := 4, presence := presence } } }

/-- For `PartStateRequestsMoveThePart`, `ResetsStartThePartAfresh`. -/
theorem test_meets_part_requests :
    Meet .service .enterRun setup (fun s _ => Configures .service ∧ s.ps.state = .setup) ∧
    Meet .body .enterRun stage (fun s _ => s.ps.state = .run) ∧
    Meet .body .enterSetup (stageIn .settling) (fun s _ => s.ps.state = .settling) ∧
    Meet .media .enterSetup stage (fun _ _ => ¬Configures .media) ∧
    LayersSound stage ∧
    Meet .body .enterSetup stage (fun s _ => s.ps.state = .run ∧ s.lt.layers[(0 : LayerNo)].state ≠ .free ∧
      s.lt.layers[(15 : LayerNo)].state = .free) ∧
    Meet .body .enterSetup setup (fun s _ => s.ps.state = .setup) ∧
    Meet .body .sleep stage (fun s _ => s.ps.state = .run ∧ ¬∃ i : LayerNo, s.lt.layers[i].tier = 4 ∧ 0 < s.lt.layers[i].presence) ∧
    Meet .body .sleep (alerted 1) (fun s _ => ∃ i : LayerNo, s.lt.layers[i].tier = 4 ∧ 0 < s.lt.layers[i].presence) ∧
    Meet .body .sleep (alerted 0) (fun s _ => ¬∃ i : LayerNo, s.lt.layers[i].tier = 4 ∧ 0 < s.lt.layers[i].presence) ∧
    Meet .body .sleep setup (fun s _ => s.ps.state ≠ .run) ∧
    Meet .service .sleep stage (fun _ _ => Origin.service ≠ .body) ∧
    Meet .service .restart stage (fun _ _ => True) ∧
    Meet .body .restart stage (fun _ _ => Origin.body ≠ .service) := by
  unfold Configures
  exact ⟨meet (by decide +kernel) (by decide +kernel), meet (by decide +kernel) (by decide +kernel),
    meet (by decide +kernel) (by decide +kernel), meet (by decide +kernel) (by decide +kernel), stage_layers,
    meet (by decide +kernel) (by decide +kernel), meet (by decide +kernel) (by decide +kernel),
    meet (by decide +kernel) (by decide +kernel), meet (by decide +kernel) (by decide +kernel),
    meet (by decide +kernel) (by decide +kernel), meet (by decide +kernel) (by decide +kernel),
    meet (by decide +kernel) (by decide), meet (by decide +kernel) trivial, meet (by decide +kernel) (by decide)⟩

/-- The part in SETTLING with no return awaited. -/
def settled : State := { stageIn .settling with lc := { stage.lc with loops := modAt stage.lc.loops 0 fun x => { x with await := none } } }

/-- The part in WAKING with loop 0 held QUIET for sleep and one pair on the wake list. -/
def waking : State :=
  { stageIn .waking with
    tu := { stage.tu with wakeList := [⟨0xF1, 499000, 1⟩] }
    lc := { stage.lc with loops := modAt stage.lc.loops 0 fun x => { x with state := .quiet, sleepHold := true, await := none } } }

/-- For `ThePartSettlesSleepsAndWakes`. -/
theorem test_meets_sleep_and_wake :
    (settled.ps.state = .settling ∧ settled.ps.resetHeld = false ∧ settled.co.inFlight = none ∧
      ∀ l : LoopNo, (settled.lc.loops[l].await.any fun a => a.kind != .count) = false) ∧
    (stage.lc.loops[(0 : LoopNo)].await = some ⟨.refresh 3, 499000, some 499240⟩) ∧
    (waking.ps.state = .waking ∧ waking.lc.loops[(0 : LoopNo)].sleepHold = true ∧ waking.tu.wakeList.length = 1) := by
  decide +kernel

/-- R161, R190: every loop but an OFF one is QUIET for sleep, and the frame timer stands. -/
theorem test_settle_darkens :
    let t := after .settle settled
    t.ps.state = .asleep ∧ t.sc.nextFrame = none ∧ (t.lc.loops.toList.map (·.state)) =
      [.quiet, .quiet, .quiet, .quiet, .off, .quiet] ∧ t.lt.layers[(1 : LayerNo)].presence = 0 := by decide +kernel

/-- The stage with the RESET pin asserted. -/
def held : State := { stage with ps := { stage.ps with resetHeld := true } }

/-- For `AssertedResetActsOnNothing`, `ResetsStartThePartAfresh`. -/
theorem test_meets_reset : held.ps.resetHeld = true ∧ stage.ps.resetHeld = false := by decide

/-- Loop 3 of `framing` with its holdoff counter at `n`. -/
def holding (n : Nat) : State :=
  { framing with lc := { stage.lc with loops := modAt stage.lc.loops 3 fun x => { x with holdCount := n } } }

/-- For `FrameStartsDoTheirWork`: the frame start due or not, the gates, and HOLDOFF_END. -/
theorem test_meets_frame_start :
    (framing.ps.resetHeld = false ∧ FrameDue framing 600000) ∧ (stage.ps.resetHeld = false ∧ ∀ tf, ¬FrameDue stage tf) ∧
    (framing.gate .media = .opening ∧ framing.gate .body = .opened ∧ framing.lt.layers[(1 : LayerNo)].owner = some .media ∧
      framing.lt.layers[(1 : LayerNo)].copy.isSome = true ∧ framing.lt.layers[(2 : LayerNo)].owner = some .media ∧
      framing.lt.layers[(2 : LayerNo)].copy = none ∧ framing.lt.layers[(0 : LayerNo)].owner = some .body) ∧
    ([0, 1, 2].map fun n => ((holding n).lc.loops[(3 : LoopNo)].state, (holding n).lc.loops[(3 : LoopNo)].holdCount)) =
      [(.failed, 0), (.failed, 1), (.failed, 2)] ∧ (∀ n, FrameDue (holding n) 600000) ∧
    framing.lc.loops[(2 : LoopNo)].state = .quiet := by
  refine ⟨⟨rfl, by unfold FrameDue; decide +kernel⟩, ⟨rfl, stage_not_due⟩, by decide +kernel, by decide +kernel, ?_,
    by decide +kernel⟩
  exact fun _ => ⟨rfl, (by decide +kernel : (0 : Int) ≤ (framing.sc.scene - 600000).toInt), .inr rfl, rfl⟩

/-- For `FrameStartsDoTheirWork`: starts that find their layer gone, free of cues, or with a cue to preempt. -/
theorem test_meets_starts :
    (stage.ce.cues[(23 : CueNo)] = none) ∧
    (stage.lt.layers[(1 : LayerNo)].owner = some .media ∧
      stage.ce.cues[(1 : CueNo)] = some (aCue .media 1 .restore 0 .ready)) ∧
    (∀ k other, ¬RunsOn stage.ce.cues 1 k other) ∧
    (let s := { stage with lt := { stage.lt with layers := modAt stage.lt.layers 1 fun l => { l with owner := some .body } } }
     s.lt.layers[(1 : LayerNo)].owner ≠ some .media) ∧
    (RunsOn stage.ce.cues 0 0 (aCue .body 0 .hold 100 (.running 590000 [⟨20, 0, 0⟩])) ∧
      stage.lt.layers[(0 : LayerNo)].owner = some .body ∧ stage.ce.cues[(2 : CueNo)] = some (aCue .body 0 .hide 0 .scheduled) ∧
      ∀ (j : CueNo) (y : Cue), stage.ce.cues[j] = some y → y.run.active = true → y.layer = 0 → j = 0) := by
  have h : ∀ (c : CueNo) (x : Cue), stage.ce.cues[c] = some x → x.run.active = true → x.layer = 0 ∧ c = 0 ∨ x.layer = 2 := by
    simp only [forall_some]; decide +kernel
  refine ⟨by decide +kernel, by decide +kernel, ?_, by decide +kernel, ⟨by decide +kernel, rfl, rfl, ?_⟩, by decide +kernel,
    by decide +kernel, ?_⟩
  · rintro k other ⟨hk, ha, hl, -⟩
    rcases h k other hk ha with ⟨h1, -⟩ | h1 <;> exact absurd (hl.symm.trans h1) (by decide)
  · exact fun j _ hj _ _ _ => absurd hj (by simp)
  · intro j y hj ha hl
    rcases h j y hj ha with ⟨-, h1⟩ | h1
    · exact h1
    · exact absurd (hl.symm.trans h1) (by decide)

/-- R103, R104: a start queued for 590 000 us, one period before the frame time, is late and preempts the cue of its layer. -/
theorem test_late_start_preempts :
    ([590000, 590001].map fun start => let t := stage.resolve 600000 ⟨2, start, .body⟩
      ([0, 2].map fun c : CueNo => t.ce.cues[c].map (·.run), (sent .body t).map (·.headD 0))) =
      [([some .ready, some (.running 600000 [])], [0x80, 0x81]),
       ([some .ready, some (.running 590001 [])], [0x80])] := by decide +kernel

/-- R30, R35, R87, R152: a frame start moves the frame time by P, opens the OPENING gate, ends a holdoff and sends SHOW. -/
theorem test_frame_start_works :
    let t := after .frameStart framing
    t.sc.nextFrame = some 610000 ∧ t.gate .assist = .opened ∧ t.lc.loops[(3 : LoopNo)].out = [.count] ∧
      t.lt.layers[(0 : LayerNo)].presence = 0 ∧ t.co.inFlight.isSome = true := by decide +kernel

/-- The stage after a frame start, its compose in flight. -/
def flying : State := after .frameStart framing

/-- A compose that read SETUP, and the stage with it in flight and loop 5's quiet counter at `n`. -/
def darkCompose : Compose := { State.reset.composeInputs 0 with inSetup := true }
def dimming (n : Nat) : State :=
  { stage with
    co := { stage.co with inFlight := some darkCompose }
    lc := { stage.lc with loops := modAt stage.lc.loops 5 fun x => { x with quietCount := n } } }

/-- R158, R159: the row of the threshold alone: the claimed loop goes QUIET at its 64th dark frame. -/
theorem test_dark_loop_goes_quiet :
    (after (.quietThreshold 5) (dimming 63)).lc.loops[(5 : LoopNo)] =
        { stage.lc.loops[(5 : LoopNo)] with state := .quiet, quietCount := 0, out := [.quiet] } ∧
      after (.quietThreshold 5) (dimming 62) = dimming 62 := by
  have h : ∀ n, allDark (darkCompose.words 5 n) = true := words_in_setup rfl 5
  refine ⟨?_, ?_⟩
  · have h1 : goesQuiet (dimming 63).lc.loops[(5 : LoopNo)]
        (darkCompose.words 5 (dimming 63).lc.loops[(5 : LoopNo)].nodes) = true := by
      unfold goesQuiet; rw [h]; decide +kernel
    have h2 : exec (.quietThreshold 5) (dimming 63) =
        .next ((dimming 63).changeLoop 5 (dimming 63).lc.loops[(5 : LoopNo)].quieted .dark) := by
      show (dimming 63).liveWhen _ _ = _
      rw [h1]; rfl
    rw [show after (.quietThreshold 5) (dimming 63) = _ from congrArg (fun r => match r with | .next t => t | _ => dimming 63) h2]
    decide +kernel
  · have h1 : goesQuiet (dimming 62).lc.loops[(5 : LoopNo)]
        (darkCompose.words 5 (dimming 62).lc.loops[(5 : LoopNo)].nodes) = false := by
      unfold goesQuiet; rw [h]; decide +kernel
    have h2 : exec (.quietThreshold 5) (dimming 62) = .next (dimming 62) := by
      show (dimming 62).liveWhen _ _ = _
      rw [h1]; simp
    simp only [after, h2]

/-- For `ComposeCompletionsHandOutTheLight`. -/
theorem test_meets_compose : (flying.ps.resetHeld = false ∧ flying.co.inFlight.isSome = true) ∧ stage.co.inFlight = none ∧
    ((dimming 63).ps.resetHeld = false ∧ (dimming 63).co.inFlight = some darkCompose ∧
      (∀ lam : LampNo, (finalDrives darkCompose.lamps (darkCompose.loopOuts darkCompose.lamps))[lam] = ⟨0, 0, 0⟩) ∧
      (dimming 63).lc.loops[(5 : LoopNo)].state = .running ∧ (dimming 63).lc.loops[(5 : LoopNo)].claimed = true ∧
      (dimming 63).lc.loops[(5 : LoopNo)].quietCount = 63) ∧
    ((dimming 62).lc.loops[(5 : LoopNo)].quietCount = 62 ∧ (dimming 62).lc.loops[(0 : LoopNo)].claimed = true ∧
      (dimming 62).lc.loops[(2 : LoopNo)].state = .quiet) :=
  ⟨by decide +kernel, by decide +kernel, ⟨by decide +kernel, rfl, finalDrives_in_setup rfl, by decide +kernel,
    by decide +kernel, by decide +kernel⟩, by decide +kernel⟩

/-- The stage with the transmit error count of CA at `n`. -/
def erred (n : Nat) : State := { stage with mp := { stage.mp with ca := ⟨n, 0⟩ } }

/-- The stage with a reply of BODY bound to CB, and one that CA is sending. -/
def sending : State :=
  stage.setPort .body { stage.port .body with tx := [⟨[1], some .ca, some .ca⟩, ⟨[2], some .cb, none⟩] }

/-- For `ChannelsReceiveSendAndRecover`. -/
theorem test_meets_channels :
    (0x600 + 0x10 * stage.mp.strap.val + Origin.service.idx.val = 0x603 ∧ ¬255 < (stage.chan .ca).txErrors) ∧
    (255 < ((erred 256).chan .ca).txErrors) ∧ (((erred 247).chan .ca).txErrors + 8 ≤ 255) ∧
    (255 < ((erred 248).chan .ca).txErrors + 8 ∧ ¬255 < ((erred 248).chan .ca).txErrors) ∧
    ((sending.port .body).tx = [⟨[1], some .ca, some .ca⟩] ++ ⟨[2], some .cb, none⟩ :: [] ∧
      (∀ f ∈ [(⟨[1], some .ca, some .ca⟩ : TxFrame)], f.sendingOn ≠ none) ∧
      ∀ o ∈ Origin.all, ∀ f ∈ (sending.port o).tx, f.sendingOn ≠ some .cb) ∧
    ((sending.port .body).tx = [] ++ ⟨[1], some .ca, some .ca⟩ :: [⟨[2], some .cb, none⟩] ∧
      ∀ p ∈ Origin.all, p ≠ .body → ∀ g ∈ (sending.port p).tx, g.sendingOn ≠ some .ca) := by decide +kernel

/-- R174, R176: an own request identifier of strap 0 reaches SERVICE's intake queue, and moves its home channel. -/
theorem test_frame_reaches_the_intake :
    let t := after (.frameReceived .cb .data11 0x603 [0x20, 1]) stage
    (t.port .service).intake = [⟨[0x20, 1], 600000, .cb⟩] ∧ (t.port .service).home = .cb := by decide +kernel

/-- For `StepTakesTheFrontCommand`, `IdleTakesTheDueStepOrOneMicrosecond`. -/
theorem test_meets_queue :
    (doing .settle stage).pending = [.settle] ∧ stage.pending = [] ∧ held.pending = [] ∧
    (framing.due = some .frameStart ∧ framing.pending = []) ∧
    (let s := { setup with lc := { setup.lc with loops := Vector.replicate 6 { Loop.fresh with state := .off } } }
     s.due = none ∧ s.sc.acc.toNat + s.sc.trim.toNat < 2 ^ 24) := by decide +kernel

/-! ## Operands that meet the hypotheses of the arithmetic statements -/

/-- For `RequestFramesAreReadBack`. -/
theorem test_meets_frames : requestFits (.setOrigin ⟨255, 255, 255, 255, [(255, 65535, 65535), (0, 0, 0), (1, 0, 383), (1, 5, 5)], 0,
      1023, 0, 65535, 255⟩) = true ∧
    requestFits (.editLayer ⟨15, 0x7FF, some 0xFFFFFFFF, some 1, some ((0, 384), (383, 0)), some 3, some 255, some (31, 1),
      some (.stream 65535), some 65535, some 0xFF00, some 10000, some 0⟩) = true ∧
    requestFits (.startCue ⟨23, .after 0xFFFFFFFF⟩) = true ∧ requestFits (.setFlags ⟨0xFFFFFFFF, 1⟩) = true := by decide +kernel

/-- For `DerateFollowsTheHottestLamp`. -/
theorem test_meets_derate :
    (let c := { lampCase with health := setAt lampCase.health 64 ⟨ColourMask.none, ColourMask.none, 86, true⟩ }
     lampLoop 64 = 1 ∧ c.health[(64 : LampNo)].queried = true ∧ (c.chains[(1 : LoopNo)].knee : Int) = 85 ∧
       (∀ other : LampNo, lampLoop other = 1 → c.health[other].queried = true → c.health[other].temp ≤ 86) ∧
       ∀ lam : LampNo, lampLoop lam = 0 → c.health[lam].queried = false) ∧
    derateAt 85 85 = 65536 ∧ derateAt 85 124 = 65536 - 39 * 49152 / 40 ∧ derateAt 85 125 = 16384 := by decide +kernel

/-- For `GlareStageCapsTheGreatestChannel`. -/
theorem test_meets_glare : (⟨22500, 18779, 17870⟩ : Rgb).peak ≤ 22500 ∧ 22499 < (⟨22500, 18779, 17870⟩ : Rgb).peak := by decide

/-- For `GlareStageCapsTheGreatestChannel`: a lamp of one zone, a lamp of no zone, a compose that read SETUP. -/
theorem test_meets_lamps :
    (lampCase.inSetup = false ∧ (lampCase.zones[(2 : ZoneNo)].any fun x => zonePos x 74 == some 10) = true ∧
      ∀ y : ZoneNo, y ≠ 2 → lampCase.zones[y] = none) ∧
    (∀ y : ZoneNo, (lampCase.zones[y].any fun x => zoneHas x 84) = false) ∧ darkCompose.inSetup = true := by decide +kernel

/-- For `PositionsLieOnTheirLines`. -/
theorem test_meets_positions :
    (SpanSound ⟨200, 12, true⟩ ∧ SpanSound ⟨210, 12, false⟩ ∧ SpansApart [⟨200, 12, true⟩, ⟨210, 12, false⟩]) ∧
    (let ed := { Editable.opened with zones := 3, span := .joined }
     ed.zones.getLsbD 0 = true ∧ ed.zones.getLsbD 1 = true ∧ 3 < lengthOf stage.co.zones 0 ∧ 15 < lengthOf stage.co.zones 1) := by
  refine ⟨⟨by unfold SpanSound; decide, by unfold SpanSound; decide, ?_⟩, by decide +kernel⟩
  simp only [SpansApart, List.pairwise_cons, List.mem_singleton, forall_eq, covers, spanPos]
  simp
  omega

/-- For `VoidMarkFollowsTheStack`. -/
theorem test_meets_void :
    (let c := voidCase .add 32767
     c.stack = [7, 9] ∧ (!skipped c 2 74 c.layers[(7 : LayerNo)] && c.layers[(7 : LayerNo)].isVoid) = true) ∧
    (let c := voidCase .replace 65535
     (!skipped c 2 74 c.layers[(9 : LayerNo)] && c.layers[(9 : LayerNo)].ed.blend == .replace) = true ∧
       alphaOf 255 255 65535 = 65535) := by decide +kernel

/-- For `BlendsStayInRange`, `PresenceReachesItsTarget`. -/
theorem test_meets_blends_and_fades :
    blendChannel .replace 61166 60000 40000 = 58667 ∧ blendChannel .replace 61166 24000 18000 = 23600 ∧
      blendChannel .replace 61166 0 3000 = 200 ∧ stepPresence 10 false 0 150 65535 = 61166 ∧
      65535 ≤ 15 * max 1 (65535 * 10 / 150) + 4369 := by decide

/-- A slot of length 5 with the repeat given. -/
def aSlot (r : Repeat) : Slot := ⟨.body, 1030, 5, r⟩

/-- For `BlendsStayInRange`: indexes inside a slot and at each end, a RING under an EACH layer, a stream, and layers that are
skipped, void, of alpha 0, and shown. -/
theorem test_meets_sampling :
    (1 ≤ (aSlot .wrap).length ∧ (4 : Int) = (4 : Nat) ∧ (-1 : Int) = (4 : Nat) + -1 * (aSlot .wrap).length ∧
      (5 : Int) = (0 : Nat) + 1 * (aSlot .wrap).length) ∧
    (let ed := { Editable.opened with zones := 2, span := .each, offset := -300 }
     ed.span = .each ∧ (stage.co.zones[(1 : ZoneNo)].map (·.kind)) = some .ring ∧ (0 : Int) < 16 * lengthOf stage.co.zones 1 ∧
       patternCoord stage.co.zones ed 1 0 = 16 * 0 + 300 + -1 * (16 * lengthOf stage.co.zones 1)) ∧
    (let f : StreamFrame := ⟨0, [⟨1, 2, 3⟩, ⟨4, 5, 6⟩]⟩
     f.entries ≠ [] ∧ f.entries[(9 * f.entries.length / 10)]? = some ⟨4, 5, 6⟩) ∧
    (skipped lampCase 2 74 lampCase.layers[(3 : LayerNo)] = false ∧ lampCase.layers[(3 : LayerNo)].isVoid = false ∧
      lampCase.layers[(3 : LayerNo)].ed.source = .solid ⟨40000, 20000, 5000⟩ ∧ lampCase.layers[(3 : LayerNo)].presence = 65535) ∧
    (skipped lampCase 2 74 lampCase.layers[(5 : LayerNo)] = false ∧ lampCase.layers[(5 : LayerNo)].ed.source = .pattern 0 ∧
      lampCase.slots[(0 : SlotNo)] = some ⟨.body, 100, 4, .clip⟩) ∧
    (voidCase .max 0).layers[(7 : LayerNo)].isVoid = true ∧ alphaOf 255 255 0 = 0 ∧ alphaOf 1 1 32767 = 0 := by decide +kernel

/-- For `SegmentsStayBetweenKeyframes`. -/
theorem test_meets_segments : (⟨0, .linear, ⟨0, 0, 0⟩⟩ : Keyframe).time ≤ 0 ∧ 199 < (⟨200, .linear, ⟨1000, 0, 0⟩⟩ : Keyframe).time ∧
    (Machine.segment .level ⟨0, .linear, ⟨0, 0, 0⟩⟩ ⟨200, .linear, ⟨1000, 0, 0⟩⟩ 100).x = 500 := by decide

/-- For `SegmentsStayBetweenKeyframes`: a sound and a broken track, rebasing at and below one pass, and cues in each state whose
values go with their tracks. -/
theorem test_meets_evaluation :
    (2 ≤ (⟨.level, 0, 2⟩ : Track).count ∧ trackBroken (stage.originRec .body) stage.ce.pool 200 ⟨.level, 0, 2⟩ = false ∧
      trackBroken (stage.originRec .body) stage.ce.pool 199 ⟨.level, 0, 2⟩ = true) ∧
    (let cue := { aCue .body 0 .hold 100 (.running 590000 [⟨20, 0, 0⟩]) with loops := 0 }
     let e := fun tf : Time => ((tf - 590000).toInt / 1000).toNat
     1 ≤ cue.duration ∧ cue.loops = 0 ∧ e 789999 < cue.duration ∧ cue.duration ≤ e 790000 ∧
       rebased 1000000 590000 cue = 990000) ∧
    (([⟨.level, 0, 2⟩] : List Track).map (·.target)).Nodup ∧ ([⟨20, 0, 0⟩] : List Triple).length = 1 ∧ 1 ≤ 50 ∧
    (let ed := Editable.opened
     (cueFields 617000 0 (aCue .media 2 .hide 50 (.releasing 580000 592000 [⟨7, 0, 0⟩])) ed).level = 7 + (65535 - 7) / 2 ∧
       (cueFields 591999 0 (aCue .media 2 .hide 50 (.releasing 580000 592000 [⟨7000, 0, 0⟩])) ed).level = 7000 - 1170 ∧
       (cueFields 617000 0 (aCue .body 0 .hold 100 (.running 590000 [⟨20, 0, 0⟩])) ed).level = 20 ∧
       (stage.heldFields (aCue .body 0 .hold 100 (.running 590000 [⟨20, 0, 0⟩])) ed).level = 1000) := by decide +kernel

/-- For `FinalCodesKeepTheBudget`. -/
theorem test_meets_budget :
    (judgeBudget 714822240 600 65536).limiting = true ∧ (judgeBudget 600000000 600 65536).limiting = false := by decide

end Sys2Proof.Tests
end

/-! PROOF. What a request's checks and a step answer: rules that a proof about `serve…` or `exec` goes through in place of
unfolding them. -/

namespace Sys2Proof.Machine

/-! ## Checks of an owning block -/

/-- `P` holds of the state that a request's work leaves, where its checks accept it. -/
def WhenServed (P : State → Prop) (r : Served) : Prop := ∀ t, r = .ok t → P t

/-- A check followed by the rest: the rest is reached only with what the check found. -/
@[simp] theorem whenServed_bind {α : Type} {P : State → Prop} (x : Except Code α) (f : α → Served) :
    WhenServed P (x >>= f) ↔ ∀ a, x = .ok a → WhenServed P (f a) := by
  unfold WhenServed
  cases x with
  | error c => simp only [bind, Except.bind, reduceCtorEq, false_implies, implies_true]
  | ok a => simp only [bind, Except.bind, Except.ok.injEq, forall_eq']

@[simp] theorem whenServed_pure {P : State → Prop} (t : State) : WhenServed P (pure t) ↔ P t := by
  simp only [WhenServed, pure, Except.pure, Except.ok.injEq, forall_eq']

@[simp] theorem whenServed_map {α : Type} {P : State → Prop} (x : Except Code α) (f : α → State) :
    WhenServed P (f <$> x) ↔ ∀ a, x = .ok a → P (f a) := by
  rw [map_eq_pure_bind, whenServed_bind]
  simp only [whenServed_pure]

@[simp] theorem require_eq_ok {bad : Bool} {c : Code} {u : Unit} : require bad c = .ok u ↔ bad = false := by
  cases bad <;> simp [require]

@[simp] theorem found_eq_ok {α : Type} {x : Option α} {c : Code} {a : α} : found x c = .ok a ↔ x = some a := by
  cases x <;> simp [found]

theorem allFound_eq_some {α : Type} {l : List (Option α)} {xs : List α} : allFound l = some xs ↔ l = xs.map some := by
  induction l generalizing xs with
  | nil => cases xs <;> simp [allFound]
  | cons o rest ih =>
    cases o with
    | none => cases xs <;> simp [allFound]
    | some a => cases xs <;> simp [allFound, ih, and_comm]

/-- A request that is refused or served keeps what its refusal keeps and its work gives. -/
theorem answer_keeps {P : State → Prop} {tk : Taken} {s : State} {r : Served} (hrefuse : ∀ c, P (s.refuse tk c))
    (hserve : WhenServed P r) : P (answer tk s r) := by
  cases r with
  | error c => exact hrefuse c
  | ok t => exact hserve t rfl

/-- The checks of R188 are passed by a configuring origin in SETUP. -/
theorem configChecks_pass {s : State} {o : Origin} {rq : Intake} (ho : Configures o) (hs : s.ps.state = .setup) :
    configChecks ⟨o, rq⟩ (s.popIntake o) = .ok () := by
  have hst : (s.popIntake o).inSetup = true := by simp [State.inSetup, State.popIntake, hs]
  rcases ho with rfl | rfl <;> simp [configChecks, hst, Origin.mayConfigure]

/-! ## What a step answers -/

/-- `P` holds of the state that a step answers. -/
def WhenNext (P : State → Prop) (r : Host.Outcome State Fault Refusal) : Prop := ∀ t, r = .next t → P t

@[simp] theorem whenNext_next {P : State → Prop} {t : State} : WhenNext P (.next t) ↔ P t := by
  simp only [WhenNext, Host.Outcome.next.injEq, forall_eq']

theorem whenNext_live {P : State → Prop} {s n : State} (hs : P s) (hn : s.ps.resetHeld = false → P n) :
    WhenNext P (s.live n) := by
  intro t h
  rcases live_next h with ⟨-, rfl⟩ | ⟨hr, rfl⟩
  · exact hs
  · exact hn hr

theorem whenNext_liveWhen {P : State → Prop} {s n : State} {c : Bool} (hs : P s)
    (hn : s.ps.resetHeld = false → c = true → P n) : WhenNext P (s.liveWhen c n) := by
  intro t h
  rcases liveWhen_next h with rfl | ⟨hr, hc, rfl⟩
  · exact hs
  · exact hn hr hc

/-- Taking a request keeps what its leaving the queue, its refusal as a short frame and its service keep. -/
theorem whenNext_takeRequest {P : State → Prop} {k : Option Kind} {o : Origin} {s : State}
    {serve : Taken → State → State} (hs : P s) (hpop : P (s.popIntake o))
    (hshort : ∀ rq, P ((s.popIntake o).refuse ⟨o, rq⟩ .badValue)) (hserve : ∀ rq, P (serve ⟨o, rq⟩ (s.popIntake o))) :
    WhenNext P (takeRequest k o s serve) := by
  intro t h
  rcases takeRequest_next h with rfl | ⟨rq, -, -, -, -, -, hk⟩
  · exact hs
  · cases k with
    | none => exact hk ▸ hserve rq
    | some k =>
      dsimp only at hk
      split at hk
      · split at hk
        · exact hk ▸ hpop
        · exact hk ▸ hshort rq
      · exact hk ▸ hserve rq

/-- A law that every command keeps, whatever waits in the queue, and that the passing of a microsecond keeps is kept by
every step. -/
theorem keptByStep_of_exec {law : State → Prop} (hpending : ∀ s q, law s → law { s with pending := q })
    (hmicrosecond : ∀ s, law s → law s.microsecond) (hexec : ∀ c s, law s → WhenNext law (exec c s)) :
    KeptByStep law := by
  intro s t hs h
  unfold step at h
  split at h
  · unfold ownStep at h
    split at h
    · exact whenNext_next.mpr hs t h
    · split at h
      · exact whenNext_next.mpr (hmicrosecond s hs) t h
      · exact hexec _ s hs t h
  · exact hexec _ _ (hpending s _ hs) t h

/-! ## Folds -/

/-- A fold of steps that each keep a part of the state keeps it. -/
theorem foldl_keeps {α β : Type} (part : State → β) {f : State → α → State} (h : ∀ s a, part (f s a) = part s)
    (l : List α) (s : State) : part (l.foldl f s) = part s := by
  induction l generalizing s with
  | nil => rfl
  | cons a l ih => rw [List.foldl_cons, ih, h]

end Sys2Proof.Machine

/-! PROOF. What the spans of a zone cover: positions (R8), sharing a lamp (R12), and the number lines of a layer's zone
set (R10, R11). -/

namespace Sys2Proof.Machine

/-! ## One span -/

theorem spanPos_eq_some {sp : Span} {lam p : Nat} :
    spanPos sp lam = some p ↔ p < sp.count ∧ if sp.down then lam + p = sp.first else lam = sp.first + p := by
  unfold spanPos
  cases sp.down <;> simp only [Bool.false_eq_true, if_true, if_false] <;> split <;> simp <;> omega

/-- A sound span covers just the indices from its lowest to its highest. -/
theorem covers_iff {sp : Span} (h : SpanSound sp) (lam : Nat) :
    covers sp lam ↔ spanLow sp ≤ lam ∧ lam ≤ spanHigh sp := by
  obtain ⟨hpos, -, -⟩ := h
  unfold covers spanPos spanLow spanHigh
  cases sp.down <;> simp only [Bool.false_eq_true, if_true, if_false] <;> split <;> simp <;> omega

theorem spanLow_le_spanHigh {sp : Span} (h : SpanSound sp) : spanLow sp ≤ spanHigh sp := by
  obtain ⟨hpos, -, -⟩ := h
  unfold spanLow spanHigh
  split <;> omega

/-- A sound span covers lamps alone (R5). -/
theorem covers_lt {sp : Span} (h : SpanSound sp) {lam : Nat} (hc : covers sp lam) : lam < 384 := by
  have hhigh := ((covers_iff h lam).mp hc).2
  obtain ⟨hpos, -, hr⟩ := h
  simp only [spanInRange, Bool.and_eq_true, decide_eq_true_eq] at hr
  unfold spanHigh at hhigh
  cases hd : sp.down <;> simp only [hd, Bool.false_eq_true, if_true, if_false, decide_eq_true_eq] at hr hhigh <;> omega

/-- Each place of a sound span is that of a lamp index. -/
theorem exists_spanPos {sp : Span} (h : SpanSound sp) {p : Nat} (hp : p < sp.count) : ∃ lam, spanPos sp lam = some p := by
  obtain ⟨-, -, hr⟩ := h
  simp only [spanInRange, Bool.and_eq_true, decide_eq_true_eq] at hr
  cases hd : sp.down <;> simp only [hd, Bool.false_eq_true, if_true, if_false, decide_eq_true_eq] at hr
  · exact ⟨sp.first + p, spanPos_eq_some.mpr (by simp [hd, hp])⟩
  · exact ⟨sp.first - p, spanPos_eq_some.mpr ⟨hp, by simp only [hd, if_true]; omega⟩⟩

theorem spanPos_inj {sp : Span} {a b p : Nat} (ha : spanPos sp a = some p) (hb : spanPos sp b = some p) : a = b := by
  obtain ⟨-, ha⟩ := spanPos_eq_some.mp ha
  obtain ⟨-, hb⟩ := spanPos_eq_some.mp hb
  cases hd : sp.down <;> simp only [hd, Bool.false_eq_true, if_true, if_false] at ha hb <;> omega

/-! ## Spans that share a lamp (R12) -/

theorem spansShare_iff {a b : Span} (ha : SpanSound a) (hb : SpanSound b) :
    spansShare a b = true ↔ ∃ lam, covers a lam ∧ covers b lam := by
  simp only [spansShare, Bool.and_eq_true, decide_eq_true_eq, covers_iff ha, covers_iff hb]
  have hla := spanLow_le_spanHigh ha
  have hlb := spanLow_le_spanHigh hb
  constructor
  · rintro ⟨hab, hba⟩
    exact ⟨max (spanLow a) (spanLow b), by omega⟩
  · rintro ⟨lam, hla', hlb'⟩
    omega

theorem listsShare_iff {as bs : List Span} (ha : ∀ a ∈ as, SpanSound a) (hb : ∀ b ∈ bs, SpanSound b) :
    listsShare as bs = true ↔ ∃ lam, (∃ a ∈ as, covers a lam) ∧ ∃ b ∈ bs, covers b lam := by
  simp only [listsShare, List.any_eq_true]
  constructor
  · rintro ⟨a, hma, b, hmb, h⟩
    obtain ⟨lam, hca, hcb⟩ := (spansShare_iff (ha a hma) (hb b hmb)).mp h
    exact ⟨lam, ⟨a, hma, hca⟩, b, hmb, hcb⟩
  · rintro ⟨lam, ⟨a, hma, hca⟩, b, hmb, hcb⟩
    exact ⟨a, hma, b, hmb, (spansShare_iff (ha a hma) (hb b hmb)).mpr ⟨lam, hca, hcb⟩⟩

/-- The check for two spans of one list is passed exactly by spans apart from each other. -/
theorem selfShare_eq_false_iff {sps : List Span} (h : ∀ sp ∈ sps, SpanSound sp) :
    selfShare sps = false ↔ SpansApart sps := by
  unfold SpansApart
  induction sps with
  | nil => simp [selfShare]
  | cons a rest ih =>
    obtain ⟨ha, hrest⟩ := List.forall_mem_cons.mp h
    rw [selfShare, Bool.or_eq_false_iff, ih hrest, List.pairwise_cons, List.any_eq_false]
    refine and_congr_left fun _ => forall₂_congr fun b hb => ?_
    rw [spansShare_iff ha (hrest b hb), not_exists]

/-! ## Positions in a span list (R8) -/

theorem spansPos_cons_eq_some {sp : Span} {rest : List Span} {lam p : Nat} :
    spansPos (sp :: rest) lam = some p ↔
      spanPos sp lam = some p ∨ ¬covers sp lam ∧ ∃ q, spansPos rest lam = some q ∧ q + sp.count = p := by
  unfold covers
  rw [spansPos]
  cases spanPos sp lam <;> simp

theorem spansPos_isSome {sps : List Span} {lam : Nat} :
    (spansPos sps lam).isSome = true ↔ ∃ sp ∈ sps, covers sp lam := by
  induction sps with
  | nil => simp [spansPos]
  | cons sp rest ih =>
    rw [List.exists_mem_cons_iff, ← ih, spansPos]
    unfold covers
    cases spanPos sp lam <;> simp

theorem zoneHas_iff {x : Zone} {lam : LampNo} : zoneHas x lam = true ↔ ∃ sp ∈ x.spans, covers sp lam.val :=
  spansPos_isSome

/-- A position lies below the sum of the counts (R8). -/
theorem spansPos_lt {sps : List Span} {lam p : Nat} (hp : spansPos sps lam = some p) : p < (sps.map (·.count)).sum := by
  induction sps generalizing p with
  | nil => simp [spansPos] at hp
  | cons sp rest ih =>
    rw [List.map_cons, List.sum_cons]
    rcases spansPos_cons_eq_some.mp hp with here | ⟨-, q, hq, rfl⟩
    · have := (spanPos_eq_some.mp here).1
      omega
    · have := ih hq
      omega

/-- In sound spans only lamps have positions (R5). -/
theorem lamp_of_spansPos {sps : List Span} (h : ∀ sp ∈ sps, SpanSound sp) {lam p : Nat} (hp : spansPos sps lam = some p) :
    lam < 384 := by
  obtain ⟨sp, hm, hc⟩ := spansPos_isSome.mp (Option.isSome_of_mem hp)
  exact covers_lt (h sp hm) hc

/-- Every number below the sum of the counts is a position (R8): the later spans' lamps are not the first one's, since
the spans lie apart. -/
theorem exists_spansPos {sps : List Span} (h : ∀ sp ∈ sps, SpanSound sp) (ha : SpansApart sps) {p : Nat}
    (hp : p < (sps.map (·.count)).sum) : ∃ lam, spansPos sps lam = some p := by
  induction sps generalizing p with
  | nil => simp at hp
  | cons sp rest ih =>
    obtain ⟨hsp, hrest⟩ := List.forall_mem_cons.mp h
    obtain ⟨hfirst, ha⟩ := List.pairwise_cons.mp ha
    rw [List.map_cons, List.sum_cons] at hp
    by_cases here : p < sp.count
    · exact (exists_spanPos hsp here).imp fun lam hl => spansPos_cons_eq_some.mpr (.inl hl)
    · obtain ⟨lam, hl⟩ := ih hrest ha (p := p - sp.count) (by omega)
      obtain ⟨sp', hm, hc⟩ := spansPos_isSome.mp (Option.isSome_of_mem hl)
      exact ⟨lam, spansPos_cons_eq_some.mpr (.inr ⟨fun h0 => hfirst sp' hm lam ⟨h0, hc⟩, _, hl, by omega⟩)⟩

/-- No two indices have one position (R8). -/
theorem spansPos_inj {sps : List Span} {a b p : Nat} (ha : spansPos sps a = some p) (hb : spansPos sps b = some p) :
    a = b := by
  induction sps generalizing p with
  | nil => simp [spansPos] at ha
  | cons sp rest ih =>
    rcases spansPos_cons_eq_some.mp ha with ha | ⟨-, q, ha, hq⟩ <;>
      rcases spansPos_cons_eq_some.mp hb with hb | ⟨-, r, hb, hr⟩
    · exact spanPos_inj ha hb
    · have := (spanPos_eq_some.mp ha).1
      omega
    · have := (spanPos_eq_some.mp hb).1
      omega
    · obtain rfl : q = r := by omega
      exact ih ha hb

/-! ## The lines of a layer's zone set (R10, R11) -/

theorem setLength_eq_sum (zones : Vector (Option Zone) 32) (set : BitVec 32) (p : ZoneNo → Bool) :
    setLength zones set p = ∑ y : ZoneNo, if set.getLsbD y.val && p y then lengthOf zones y else 0 :=
  (Fin.sum_univ_def _).symm

/-- A zone of the set that only the wider choice takes in adds at least its length. -/
theorem setLength_add_le (zones : Vector (Option Zone) 32) {set : BitVec 32} {p p' : ZoneNo → Bool} {z : ZoneNo}
    (hz : set.getLsbD z.val = true) (hp : p z = false) (hp' : p' z = true) (hle : ∀ y, p y = true → p' y = true) :
    setLength zones set p + lengthOf zones z ≤ setLength zones set p' := by
  have hsingle : lengthOf zones z = ∑ y : ZoneNo, if y = z then lengthOf zones y else 0 := by simp
  rw [setLength_eq_sum, setLength_eq_sum, hsingle, ← Finset.sum_add_distrib]
  refine Finset.sum_le_sum fun y _ => ?_
  by_cases hy : y = z
  · subst hy
    simp [hz, hp, hp']
  · cases hpy : p y
    · simp [hy]
    · simp [hy, hle y hpy]

theorem linePlace_each {ed : Editable} (h : ed.span = .each) (zones : Vector (Option Zone) 32) (z : ZoneNo) (q : Nat) :
    linePlace zones ed z q = (q, lengthOf zones z) := by
  rw [linePlace, h]

theorem linePlace_joined {ed : Editable} (h : ed.span = .joined) (zones : Vector (Option Zone) 32) (z : ZoneNo) (q : Nat) :
    linePlace zones ed z q =
      (setLength zones ed.zones (fun y => decide (y < z)) + q, setLength zones ed.zones fun _ => true) := by
  rw [linePlace, h]

/-- A lamp of a zone of the set stands before the end of the layer's line, in either span mode. -/
theorem linePlace_lt (zones : Vector (Option Zone) 32) {ed : Editable} {z : ZoneNo} {q : Nat}
    (hz : ed.zones.getLsbD z.val = true) (hq : q < lengthOf zones z) :
    (linePlace zones ed z q).1 < (linePlace zones ed z q).2 := by
  cases hs : ed.span with
  | each => rwa [linePlace_each hs]
  | joined =>
    rw [linePlace_joined hs]
    have := setLength_add_le zones (p := fun y => decide (y < z)) (p' := fun _ => true) hz (by simp) rfl (by simp)
    dsimp only
    omega

/-- On a JOINED line every lamp of a lower zone stands before every lamp of a higher one. -/
theorem linePlace_joined_lt (zones : Vector (Option Zone) 32) {ed : Editable} {y z : ZoneNo} {p : Nat} (q : Nat)
    (hs : ed.span = .joined) (hy : ed.zones.getLsbD y.val = true) (hp : p < lengthOf zones y) (hyz : y < z) :
    (linePlace zones ed y p).1 < (linePlace zones ed z q).1 := by
  rw [linePlace_joined hs, linePlace_joined hs]
  have := setLength_add_le zones (p := fun x => decide (x < y)) (p' := fun x => decide (x < z)) hy (by simp)
    (decide_eq_true hyz) (fun x hx => decide_eq_true (lt_trans (of_decide_eq_true hx) hyz))
  dsimp only
  omega

/-- Settles O23: the positions by induction on the span list, the line places by comparing the sums of zone lengths. -/
theorem positionsLieOnTheirLines : Obligations.PositionsLieOnTheirLines := by
  refine ⟨fun x hsound hapart => ⟨fun lam p hp => ⟨spansPos_lt hp, lamp_of_spansPos hsound hp⟩, ?_, ?_⟩,
    fun zones ed z q hz hq => ⟨linePlace_lt zones hz hq, ?_, ?_⟩⟩
  · exact fun p => exists_spansPos hsound hapart
  · exact fun a b p => spansPos_inj
  · exact fun hs => linePlace_each hs zones z q
  · exact fun y p hs hy hp hyz => linePlace_joined_lt zones q hs hy hp hyz

end Sys2Proof.Machine

/-! PROOF. The zone table: its law, and the requests SET_ZONE and CLEAR_ZONE (R12, R13, R14). -/

namespace Sys2Proof.Machine

/-! ## The law of the zone table -/

/-- The law reads the zone table alone. -/
theorem ZonesSound.congr {s t : State} (h : t.co.zones = s.co.zones) (hs : ZonesSound s) : ZonesSound t := by
  unfold ZonesSound
  rwa [h]

/-- An empty zone table keeps the law. -/
theorem zonesSound_of_none {s : State} (h : s.co.zones = Vector.replicate 32 none) : ZonesSound s := by
  unfold ZonesSound
  simp [h, inZone]

/-- A span list as R5 and R12 ask of one zone. -/
def SpansSound (sps : List Span) : Prop := sps ≠ [] ∧ (∀ sp ∈ sps, SpanSound sp) ∧ SpansApart sps

/-- No lamp of the spans lies in a defined zone other than `z` (R12). -/
def SpansFree (zones : Vector (Option Zone) 32) (z : ZoneNo) (sps : List Span) : Prop :=
  ∀ (y : ZoneNo) (x : Zone), y ≠ z → zones[y] = some x → ∀ sp ∈ sps, ∀ lam : LampNo,
    covers sp lam.val → zoneHas x lam = false

theorem inZone_eq_true {zones : Vector (Option Zone) 32} {z : ZoneNo} {lam : LampNo} :
    inZone zones z lam = true ↔ ∃ x, zones[z] = some x ∧ zoneHas x lam = true := by
  unfold inZone
  cases zones[z] <;> simp

theorem setZoneRec_get (s : State) (z y : ZoneNo) (x : Option Zone) :
    (s.setZoneRec z x).co.zones[y] = if y = z then x else s.co.zones[y] := by
  rw [setZoneRec_zones, setAt_get]

/-- Undefining a zone keeps the law (R14). -/
theorem ZonesSound.clear {s : State} (h : ZonesSound s) (z : ZoneNo) : ZonesSound (s.setZoneRec z none) := by
  obtain ⟨hspans, happart⟩ := h
  refine ⟨fun y x hy => ?_, fun y y' lam hy hy' => ?_⟩
  · rw [setZoneRec_get] at hy
    split at hy
    · cases hy
    · exact hspans y x hy
  · simp only [inZone_eq_true, setZoneRec_get] at hy hy'
    split at hy
    · simp at hy
    · split at hy'
      · simp at hy'
      · exact happart y y' lam (inZone_eq_true.mpr hy) (inZone_eq_true.mpr hy')

/-- A zone of sound spans that no other zone shares a lamp with keeps the law (R12). -/
theorem ZonesSound.set {s : State} (h : ZonesSound s) {z : ZoneNo} {x : Zone} (hx : SpansSound x.spans)
    (hfree : SpansFree s.co.zones z x.spans) : ZonesSound (s.setZoneRec z (some x)) := by
  obtain ⟨hspans, happart⟩ := h
  have hother : ∀ y lam, y ≠ z → zoneHas x lam = true → inZone s.co.zones y lam = false := by
    intro y lam hyz hlam
    obtain ⟨sp, hm, hc⟩ := zoneHas_iff.mp hlam
    rw [← Bool.not_eq_true, inZone_eq_true]
    rintro ⟨x', hx', hlam'⟩
    simp [hfree y x' hyz hx' sp hm lam hc] at hlam'
  have hin : ∀ y lam, inZone (s.setZoneRec z (some x)).co.zones y lam =
      if y = z then zoneHas x lam else inZone s.co.zones y lam := by
    intro y lam
    unfold inZone
    rw [setZoneRec_get]
    by_cases hyz : y = z <;> simp [hyz]
  refine ⟨fun y x' hy => ?_, fun y y' lam hy hy' => ?_⟩
  · rw [setZoneRec_get] at hy
    split at hy
    · obtain rfl : x = x' := Option.some.inj hy
      exact hx
    · exact hspans y x' hy
  · rw [hin] at hy hy'
    by_cases hyz : y = z <;> by_cases hyz' : y' = z
    · rw [hyz, hyz']
    · rw [if_pos hyz] at hy
      rw [if_neg hyz', hother y' lam hyz' hy] at hy'
      cases hy'
    · rw [if_pos hyz'] at hy'
      rw [if_neg hyz, hother y lam hyz hy'] at hy
      cases hy
    · rw [if_neg hyz] at hy
      rw [if_neg hyz'] at hy'
      exact happart y y' lam hy hy'

/-! ## The checks of SET_ZONE -/

theorem span?_count {a : Nat × Nat × Nat} {sp : Span} (h : span? a = some sp) : 1 ≤ sp.count ∧ sp.count ≤ 384 := by
  unfold span? at h
  split at h
  · cases h
  · split at h
    · obtain rfl := Option.some.inj h
      assumption
    · cases h

/-- Span fields of their kind that pass the range check are sound. -/
theorem spans_sound {fields : List (Nat × Nat × Nat)} {sps : List Span} (h : fields.map span? = sps.map some)
    (hr : sps.all spanInRange = true) : ∀ sp ∈ sps, SpanSound sp := by
  intro sp hm
  have hmem : some sp ∈ fields.map span? := h ▸ List.mem_map_of_mem hm
  obtain ⟨a, -, ha⟩ := List.mem_map.mp hmem
  obtain ⟨h1, h2⟩ := span?_count ha
  exact ⟨h1, h2, List.all_eq_true.mp hr sp hm⟩

theorem setZoneArgs_spans_length (d : List Byte) :
    (setZoneArgs d).spans.length = countIn 1 4 (setZoneArgs d).count := by
  simp [setZoneArgs, itemsAt]

/-- The check for lamps of other zones is passed exactly by spans free of them. -/
theorem sharesOther_eq_false_iff {s : State} (hs : ZonesSound s) {z : ZoneNo} {sps : List Span}
    (h : ∀ sp ∈ sps, SpanSound sp) : sharesOther s.co.zones z sps = false ↔ SpansFree s.co.zones z sps := by
  have hzone : ∀ (y : ZoneNo) (x : Zone), s.co.zones[y] = some x →
      (listsShare sps x.spans = false ↔
        ∀ sp ∈ sps, ∀ lam : LampNo, covers sp lam.val → zoneHas x lam = false) := by
    intro y x hx
    obtain ⟨-, hsound, -⟩ := hs.1 y x hx
    rw [← Bool.not_eq_true, listsShare_iff h hsound]
    constructor
    · intro hno sp hm lam hc
      rw [← Bool.not_eq_true, zoneHas_iff]
      exact fun hin => hno ⟨lam, ⟨sp, hm, hc⟩, hin⟩
    · rintro hfree ⟨lam, ⟨sp, hm, hc⟩, hin⟩
      have hhas : zoneHas x ⟨lam, covers_lt (h sp hm) hc⟩ = true := zoneHas_iff.mpr hin
      exact Bool.false_ne_true ((hfree sp hm _ hc).symm.trans hhas)
  simp only [sharesOther, List.any_eq_false, List.mem_finRange, true_implies, SpansFree]
  refine forall_congr' fun y => ?_
  cases hx : s.co.zones[y] with
  | none => simp
  | some x =>
    simp only [Bool.and_eq_true, bne_iff_ne, not_and, Bool.not_eq_true, Option.some.injEq, hzone y x hx]
    exact ⟨fun hf x' hy e => e ▸ hf hy, fun hf hy => hf x hy rfl⟩

/-- What SET_ZONE does when it is served: one zone of sound spans, free of every other zone's lamps, replaces the record
(R12, R13). -/
theorem serveSetZone_served {s : State} (hs : ZonesSound s) (tk : Taken) (d : List Byte) :
    WhenServed (fun t => ∃ z x, SpansSound x.spans ∧ SpansFree s.co.zones z x.spans ∧
      t.co.zones = (s.setZoneRec z (some x)).co.zones) (serveSetZone tk (setZoneArgs d) s) := by
  simp only [serveSetZone, whenServed_bind, whenServed_pure, found_eq_ok, require_eq_ok, allFound_eq_some]
  intro _ _ z _ kind _ glare _ _ hcount sps hfields _ hrange _ hself _ hother
  have hsound := spans_sound hfields (by simpa using hrange)
  refine ⟨z, _, ⟨?_, hsound, (selfShare_eq_false_iff hsound).mp hself⟩,
    (sharesOther_eq_false_iff hs hsound).mp hother, rfl⟩
  have hlen := congrArg List.length hfields
  rw [List.length_map, List.length_map, setZoneArgs_spans_length] at hlen
  simp only [decide_eq_false_iff_not] at hcount
  rintro rfl
  exact hcount hlen

/-! ## The two requests -/

/-- A SET_ZONE whose fields are of their kind, over sound spans, comes to the two checks for shared lamps (R12). -/
theorem serveSetZone_checks {s : State} {o : Origin} {rq : Intake} {z : ZoneNo} {kind : ZoneKind} {glare : Bool}
    {sps : List Span} (ho : Configures o) (hs : s.ps.state = .setup) (hz : byteAt rq.data 2 = z.val)
    (hkind : zoneKind? (byteAt rq.data 3) = some kind) (hglare : yesNo? (byteAt rq.data 4) = some glare)
    (hlow : 1 ≤ byteAt rq.data 11) (hhigh : byteAt rq.data 11 ≤ 4)
    (hfields : (setZoneArgs rq.data).spans.map span? = sps.map some) (hsound : ∀ sp ∈ sps, SpanSound sp) :
    serveSetZone ⟨o, rq⟩ (setZoneArgs rq.data) (s.popIntake o) =
      (require (selfShare sps) .overlap >>= fun _ => require (sharesOther s.co.zones z sps) .overlap >>= fun _ =>
        .ok (((s.setZoneRec z (some ⟨kind, glare, rgbAt rq.data 5, sps⟩)).popIntake o).done ⟨o, rq⟩ [])) := by
  have hcount : decide (countIn 1 4 (setZoneArgs rq.data).count = 0) = false := by
    have : countIn 1 4 (byteAt rq.data 11) = byteAt rq.data 11 := if_pos ⟨hlow, hhigh⟩
    simp only [setZoneArgs, this, decide_eq_false_iff_not]
    omega
  have hrange : (!sps.all spanInRange) = false := by
    simpa using fun sp hm => (hsound sp hm).2.2
  rw [serveSetZone, configChecks_pass ho hs, hcount, allFound_eq_some.mpr hfields]
  simp only [found_some_bind, hrange]
  simp only [setZoneArgs, hz, hkind, hglare, fin?_val]
  rfl

theorem exec_setZone {s : State} {o : Origin} {rq : Intake} (h : Takes s o .setZone rq) :
    exec (.setZone o) s =
      .next (answer ⟨o, rq⟩ (s.popIntake o) (serveSetZone ⟨o, rq⟩ (setZoneArgs rq.data) (s.popIntake o))) :=
  takeRequest_takes (fun tk s => answer tk s (serveSetZone tk (setZoneArgs tk.req.data) s)) h

theorem exec_clearZone {s : State} {o : Origin} {rq : Intake} (h : Takes s o .clearZone rq) :
    exec (.clearZone o) s =
      .next (answer ⟨o, rq⟩ (s.popIntake o) (serveClearZone ⟨o, rq⟩ (byteAt rq.data 2) (s.popIntake o))) :=
  takeRequest_takes (fun tk s => answer tk s (serveClearZone tk (byteAt tk.req.data 2) s)) h

/-- A CLEAR_ZONE of a zone number comes to the check for a defined zone (R14). -/
theorem serveClearZone_checks {s : State} {o : Origin} {rq : Intake} (ho : Configures o) (hs : s.ps.state = .setup)
    (z : ZoneNo) :
    serveClearZone ⟨o, rq⟩ z.val (s.popIntake o) =
      (require s.co.zones[z].isNone .notFound >>= fun _ =>
        .ok (((s.setZoneRec z none).popIntake o).done ⟨o, rq⟩ [])) := by
  rw [serveClearZone, configChecks_pass ho hs, fin?_val]
  rfl

/-- Settles O31: the two checks for shared lamps say just what `SpansApart` and `SpansFree` say. -/
theorem zoneRequestsKeepLampsApart : Obligations.ZoneRequestsKeepLampsApart := by
  intro o s rq z hzones hz
  refine ⟨?_, ?_⟩
  · rintro ⟨htakes, ho, hs⟩ kind glare sps hkind hglare hlow hhigh hfields hsound free
    rw [exec_setZone htakes, serveSetZone_checks ho hs hz hkind hglare hlow hhigh hfields hsound]
    have hself := selfShare_eq_false_iff hsound
    have hother : sharesOther s.co.zones z sps = false ↔ free := sharesOther_eq_false_iff hzones hsound
    refine ⟨fun hapart hfree => ?_, fun hno => ?_⟩
    · rw [hself.mpr hapart, hother.mpr hfree, require_false_bind, require_false_bind, answer_ok, done_popIntake]
    · cases hss : selfShare sps with
      | true => rw [require_true_bind, answer_error, refuse_popIntake]
      | false =>
        cases hso : sharesOther s.co.zones z sps with
        | true => rw [require_false_bind, require_true_bind, answer_error, refuse_popIntake]
        | false => exact absurd ⟨hself.mp hss, hother.mp hso⟩ hno
  · rintro ⟨htakes, ho, hs⟩
    rw [exec_clearZone htakes, hz, serveClearZone_checks ho hs]
    refine ⟨fun hdef => ?_, fun hundef => ?_⟩
    · rw [Option.isNone_eq_false_iff.mpr hdef, require_false_bind, answer_ok, done_popIntake]
    · rw [hundef, Option.isNone_none, require_true_bind, answer_error, refuse_popIntake]

end Sys2Proof.Machine

/-! PROOF. The laws of the tables at power-on. -/

namespace Sys2Proof.Machine

theorem zonesSound_reset : ZonesSound State.reset := zonesSound_of_none rfl

theorem buffersSound_reset : BuffersSound State.reset := by
  simp [BuffersSound, State.reset, State.fresh, SourceBlock.fresh, CueBlock.fresh, Store.wf]

@[simp] theorem reset_port (o : Origin) : State.reset.port o = Port.fresh := by cases o <;> rfl

theorem portsSound_reset : PortsSound State.reset := by
  refine ⟨fun o => ?_, ?_, ?_⟩
  · simp [Port.fresh]
  all_goals simp [ChannelSound, State.reset, State.fresh, PortsBlock.fresh]

@[simp] theorem reset_layer (i : Nat) (h : i < 16) : State.reset.lt.layers[i]'h = Layer.freed := by
  simp [State.reset, State.fresh, LayerBlock.fresh]

theorem layersSound_reset : LayersSound State.reset := by
  intro i
  refine ⟨fun _ => reset_layer i i.isLt, fun h => absurd ?_ h, ?_, fun c h => nomatch h⟩
  all_goals simp [Layer.freed]

@[simp] theorem reset_queue (q : Nat) (h : q < 2) : State.reset.ss.queues[q]'h = StreamQueue.freed := by
  simp [State.reset, State.fresh, SourceBlock.fresh]

theorem streamsSound_reset : StreamsSound State.reset := by
  refine ⟨fun q i => ?_, fun p q i h => ?_, fun q => ?_⟩
  · simp [namesQueue, StreamQueue.freed, Layer.freed, Editable.opened, streamQueue?]
  · simp [StreamQueue.freed] at h
  · simp [StreamQueue.freed]

@[simp] theorem reset_cue (c : Nat) (h : c < 24) : State.reset.ce.cues[c]'h = none := by
  simp [State.reset, State.fresh, CueBlock.fresh]

@[simp] theorem reset_startQueue : State.reset.ce.queue = [] := rfl

theorem cuesSound_reset : CuesSound State.reset := by
  simp [CuesSound]

@[simp] theorem reset_bind (i : Nat) (h : i < 24) : State.reset.tu.binds[i]'h = none := by
  simp [State.reset, State.fresh, TriggerBlock.fresh]

theorem bindsSound_reset : BindsSound State.reset := by
  simp [BindsSound]

@[simp] theorem reset_line (t : Nat) (h : t < 8) : State.reset.tu.lines[t]'h = Line.fresh false := by
  simp [State.reset, State.fresh, TriggerBlock.fresh]

/-- After power-on every flag is written by an origin (R125). -/
theorem reset_writer_ne_line (f : FlagNo) (t : LineNo) : State.reset.tu.writers[f] ≠ .line t := by
  simp only [State.reset, State.fresh, TriggerBlock.fresh, tabulate_get, Writer.fresh]
  split
  · simp
  · split <;> simp

theorem mirrorsSound_reset : MirrorsSound State.reset := by
  refine ⟨fun t h => ?_, fun t f g h => absurd h (reset_writer_ne_line f t)⟩
  simp [Line.fresh] at h

theorem timerSound_reset : TimerSound State.reset := by
  simp [TimerSound, State.reset, State.fresh, PartBlock.fresh, ClockBlock.fresh, TriggerBlock.fresh]

@[simp] theorem reset_loop (l : Nat) (h : l < 6) : State.reset.lc.loops[l]'h = Loop.fresh := by
  simp [State.reset, State.fresh, LoopBlock.fresh]

theorem loopsSound_reset : LoopsSound State.reset := by
  refine ⟨fun l => ?_, fun l h => ?_, fun _ => rfl⟩
  · simp [LoopSound, Loop.fresh]
  · simp [Loop.fresh] at h

/-- After power-on no origin holds a layer, and the default reserves sum to 4 (R135). -/
theorem reservesSound_reset : ReservesSound State.reset := by
  refine ⟨fun o => ?_, by decide, by decide, fun _ i => ?_, fun i => ?_⟩
  · cases o <;> decide
  all_goals simp [Layer.freed]

/-- Settles O6, law by law, from what each table reads as after power-on. -/
theorem resetMeetsTheLaws : Obligations.ResetMeetsTheLaws :=
  ⟨zonesSound_reset, buffersSound_reset, portsSound_reset, layersSound_reset, streamsSound_reset, cuesSound_reset,
    bindsSound_reset, mirrorsSound_reset, timerSound_reset, loopsSound_reset, reservesSound_reset⟩

end Sys2Proof.Machine

/-! PROOF. What leaves the Compositor's zone table as it is: one lemma for each operation of the model, in the order of
the model. An operation that touches nothing of the Compositor says so of the whole block. -/

namespace Sys2Proof.Machine

variable (s : State)

/-! ## Replies, notices, ports, clocks -/

@[simp] theorem popIntake_co (o : Origin) : (s.popIntake o).co = s.co := rfl
@[simp] theorem reply_co (tk : Taken) (c : Code) (clamped replaced : Bool) (result : List Byte) :
    (s.reply tk c clamped replaced result).co = s.co := rfl
@[simp] theorem refuse_co (tk : Taken) (c : Code) : (s.refuse tk c).co = s.co := rfl
@[simp] theorem done_co (tk : Taken) (result : List Byte) : (s.done tk result).co = s.co := rfl

@[simp] theorem notify_co (o : Origin) (n : Notice) : (s.notify o n).co = s.co := by
  rw [notify_frame]

@[simp] theorem notifyAll_co (n : Notice) : (s.notifyAll n).co = s.co := by
  rw [notifyAll_frame]

@[simp] theorem wakeEvent_co : s.wakeEvent.co = s.co := by
  unfold State.wakeEvent
  split <;> rfl

@[simp] theorem offer_co (o : Origin) (rq : Intake) : (s.offer o rq).co = s.co := by
  unfold State.offer
  dsimp only
  split <;> rfl

@[simp] theorem receive_co (ch : Chan) (o : Origin) (data : List Byte) : (s.receive ch o data).co = s.co := by
  unfold State.receive State.countReceived
  dsimp only
  split <;> simp

@[simp] theorem beginSend_co (ch : Chan) (o : Origin) : (s.beginSend ch o).co = s.co := rfl

@[simp] theorem finishSend_co (ch : Chan) (o : Origin) : (s.finishSend ch o).co = s.co := by
  simp [State.finishSend]

@[simp] theorem abandonSend_co (ch : Chan) : (s.abandonSend ch).co = s.co := rfl

@[simp] theorem channelErr_co (ch : Chan) (kind : ErrorKind) : (s.channelErr ch kind).co = s.co := by
  unfold State.channelErr
  dsimp only
  split <;> simp

@[simp] theorem microsecond_co : s.microsecond.co = s.co := rfl
@[simp] theorem raiseFrame_co (tf : Time) : (s.raiseFrame tf).co = s.co := rfl
@[simp] theorem setScene_co (c : Time) : (s.setScene c).co = s.co := rfl

/-! ## Sources -/

@[simp] theorem deleteSlot_co (n : SlotNo) : (s.deleteSlot n).co = s.co := rfl
@[simp] theorem bindQueue_co (q : QueueNo) (l : LayerNo) : (s.bindQueue q l).co = s.co := rfl
@[simp] theorem releaseQueues_co : s.releaseQueues.co = s.co := rfl
@[simp] theorem emptyQueues_co : s.emptyQueues.co = s.co := rfl
@[simp] theorem promote_co (tf : Time) : (s.promote tf).co = s.co := rfl
@[simp] theorem judgeStale_co : s.judgeStale.co = s.co := rfl

@[simp] theorem serveStreamFrame_co (tk : Taken) (a : StreamFrameArgs) : (serveStreamFrame tk a s).co = s.co := by
  unfold serveStreamFrame
  split <;> rfl

/-! ## Cues -/

@[simp] theorem endCue_co (c : CueNo) (cue : Cue) (why : EndReason) : (s.endCue c cue why).co = s.co := by
  simp [State.endCue]

@[simp] theorem schedule_co (c : CueNo) (cue : Cue) (start : Time) (o : Origin) :
    (s.schedule c cue start o).co = s.co := by
  unfold State.schedule
  dsimp only
  split <;> simp

@[simp] theorem stop_co (c : CueNo) (cue : Cue) : (s.stop c cue).co = s.co := by
  unfold State.stop
  split
  · rfl
  · simp
  · split <;> simp
  · simp

@[simp] theorem unbindWhere_co (p : BindEntry → Bool) : (s.unbindWhere p).co = s.co := rfl

@[simp] theorem emptyCue_co (c : CueNo) (cue : Cue) (why : EndReason) : (s.emptyCue c cue why).co = s.co := by
  unfold State.emptyCue
  dsimp only
  split <;> simp

@[simp] theorem endCuesWhere_co (p : Cue → Bool) (why : EndReason) : (s.endCuesWhere p why).co = s.co := by
  refine foldl_keeps (·.co) (fun u c => ?_) _ s
  split
  · rfl
  · split <;> simp

@[simp] theorem endAllCues_co (why : EndReason) : (s.endAllCues why).co = s.co := by
  simp [State.endAllCues]

@[simp] theorem actStart_co (c : CueNo) (cue : Cue) (stamp : Time) (o : Origin) :
    (s.actStart c cue stamp o).co = s.co := by
  unfold State.actStart
  split <;> simp

@[simp] theorem act_co (e : BindEntry) (stamp : Time) : (s.act e stamp).co = s.co := by
  unfold State.act
  split
  · split
    · rfl
    · split
      · simp
      · simp
      · split <;> simp
  · rfl

@[simp] theorem startCueAt_co (tf : Time) (c : CueNo) (cue : Cue) (start : Time) :
    (s.startCueAt tf c cue start).co = s.co := by
  unfold State.startCueAt
  dsimp only
  repeat' split
  all_goals simp

@[simp] theorem resolve_co (tf : Time) (e : StartEntry) : (s.resolve tf e).co = s.co := by
  unfold State.resolve
  split
  · rfl
  · dsimp only
    split <;> simp

@[simp] theorem dueStarts_co (tf : Time) : (s.dueStarts tf).co = s.co :=
  foldl_keeps (·.co) (fun u e => resolve_co u tf e) _ (s.setStartQueue _)

@[simp] theorem naturalEnd_co (c : CueNo) (cue : Cue) : (s.naturalEnd c cue).co = s.co := by
  simp [State.naturalEnd]

@[simp] theorem endIfDue_co (tf : Time) (c : CueNo) : (s.endIfDue tf c).co = s.co := by
  unfold State.endIfDue
  split
  · rfl
  · repeat' split
    all_goals simp

@[simp] theorem cueEnds_co (tf : Time) : (s.cueEnds tf).co = s.co :=
  foldl_keeps (·.co) (fun u c => endIfDue_co u tf c) _ s

@[simp] theorem evaluate_co (tf : Time) : (s.evaluate tf).co = s.co := rfl

/-! ## Layers -/

@[simp] theorem freeLayersWhere_zones (p : LayerNo → Layer → Bool) : (s.freeLayersWhere p).co.zones = s.co.zones := rfl
@[simp] theorem discardCopies_co (o : Origin) : (s.discardCopies o).co = s.co := rfl

@[simp] theorem makeEdit_co (o : Origin) (i : LayerNo) (e : Edit) : (s.makeEdit o i e).co = s.co := by
  unfold State.makeEdit
  dsimp only
  split <;> rfl

@[simp] theorem setShown_co (o : Origin) (i : LayerNo) (shown : Bool) : (s.setShown o i shown).co = s.co := rfl

@[simp] theorem expireGate_co (o : Origin) : (s.expireGate o).co = s.co := by
  simp [State.expireGate]

@[simp] theorem applyGates_co : s.applyGates.co = s.co := rfl
@[simp] theorem stepPresences_co : s.stepPresences.co = s.co := rfl

/-! ## Holds, lines, flags, codes -/

@[simp] theorem takeHold_co (tk : Taken) (z : ZoneNo) (tier : Tier) : (takeHold tk z tier s).co = s.co := by
  unfold takeHold
  dsimp only
  split
  · simp
  · repeat' split
    all_goals simp

@[simp] theorem mirrorTo_co (f : Option FlagNo) (v : Bool) : (s.mirrorTo f v).co = s.co := by
  cases f <;> rfl

@[simp] theorem replaceLine_co (t : LineNo) (x : Line) : (s.replaceLine t x).co = s.co := by
  simp [State.replaceLine]

@[simp] theorem giveFlag_co (f : FlagNo) (w : Writer) : (s.giveFlag f w).co = s.co := by
  unfold State.giveFlag
  split <;> rfl

@[simp] theorem unbindSame_co (o : Origin) (code mask : Byte) : (s.unbindSame o code mask).co = s.co := by
  unfold State.unbindSame
  split <;> rfl

@[simp] theorem matchCode_co (src : CodeSource) (code : Byte) (stamp : Time) : (s.matchCode src code stamp).co = s.co := by
  simp only [State.matchCode, notifyAll_co]
  exact foldl_keeps (·.co) (fun u e => act_co u e stamp) _ s

@[simp] theorem seeUnmatched_co (src : CodeSource) (code : Byte) (stamp : Time) :
    (s.seeUnmatched src code stamp).co = s.co := notifyAll_co ..

@[simp] theorem addWake_co (t : LineNo) (e : EdgeKind) (stamp : Time) : (s.addWake t e stamp).co = s.co := by
  unfold State.addWake
  split <;> simp

@[simp] theorem handleEdge_co (t : LineNo) (e : EdgeKind) (stamp : Time) : (s.handleEdge t e stamp).co = s.co := by
  unfold State.handleEdge
  cases s.ps.state with
  | asleep => dsimp only; split <;> simp
  | _ => simp

@[simp] theorem takeEdge_co (t : LineNo) (e : EdgeKind) : (s.takeEdge t e).co = s.co := by
  simp [State.takeEdge]

@[simp] theorem acceptChange_co (t : LineNo) (level : Bool) : (s.acceptChange t level).co = s.co := by
  unfold State.acceptChange
  dsimp only
  repeat' split
  all_goals simp

@[simp] theorem matchWakeList_co : s.matchWakeList.co = s.co := by
  rw [State.matchWakeList, foldl_keeps (·.co) fun u w => matchCode_co .., setWakeList_co]

/-! ## Loops -/

@[simp] theorem changeLoop_co (l : LoopNo) (x : Loop) (cause : LoopCause) : (s.changeLoop l x cause).co = s.co := by
  simp [State.changeLoop]

@[simp] theorem clearQueried_co (l : LoopNo) : (s.clearQueried l).co = s.co := rfl

@[simp] theorem followSettings_co (l : LoopNo) : (s.followSettings l).co = s.co := by
  unfold State.followSettings
  dsimp only
  repeat' split
  all_goals simp

@[simp] theorem storeChain_zones (l : LoopNo) (c : Chain) (enable : Bool) :
    (s.storeChain l c enable).co.zones = s.co.zones := rfl

@[simp] theorem endHoldoff_co (l : LoopNo) : (s.endHoldoff l).co = s.co := by
  simp [State.endHoldoff]

@[simp] theorem loopAtFrame_co (l : LoopNo) : (s.loopAtFrame l).co = s.co := by
  unfold State.loopAtFrame
  dsimp only
  repeat' split
  all_goals simp

@[simp] theorem loopsAtFrame_co : s.loopsAtFrame.co = s.co := foldl_keeps (·.co) loopAtFrame_co _ s

@[simp] theorem failLoop_co (l : LoopNo) (cause : LoopCause) : (s.failLoop l cause).co = s.co := changeLoop_co ..

@[simp] theorem applyStatus_co (lam : LampNo) (st : StatusWord) : (s.applyStatus lam st).co = s.co := by
  unfold State.applyStatus
  dsimp only
  split <;> simp

@[simp] theorem applyQuery_co (l : LoopNo) (q : Nat) (st : StatusWord) : (s.applyQuery l q st).co = s.co := by
  unfold State.applyQuery
  split <;> simp

@[simp] theorem countFailure_co (l : LoopNo) : (s.countFailure l).co = s.co := by
  unfold State.countFailure
  dsimp only
  split <;> simp

@[simp] theorem actOn_co (l : LoopNo) (v : Verdict) : (s.actOn l v).co = s.co := by
  cases v <;> simp [State.actOn]

@[simp] theorem loopAtCompletion_co (codes : LoopNo → List Rgb) (l : LoopNo) :
    (s.loopAtCompletion codes l).co = s.co := by
  unfold State.loopAtCompletion
  dsimp only
  repeat' split
  all_goals simp

@[simp] theorem loopsAtCompletion_co (codes : LoopNo → List Rgb) : (s.loopsAtCompletion codes).co = s.co :=
  foldl_keeps (·.co) (fun u l => loopAtCompletion_co u codes l) _ s

@[simp] theorem settleLoops_co : s.settleLoops.co = s.co := rfl
@[simp] theorem wakeLoops_co : s.wakeLoops.co = s.co := rfl
@[simp] theorem clearShorts_co (first count : Nat) : (s.clearShorts first count).co = s.co := rfl

/-! ## Composes and watches -/

@[simp] theorem beginCompose_zones (tf : Time) : (s.beginCompose tf).co.zones = s.co.zones := rfl

@[simp] theorem notifyOwner_co (o : Option Origin) (n : Notice) : (s.notifyOwner o n).co = s.co := by
  cases o <;> simp [State.notifyOwner]

@[simp] theorem settleVoid_co (c : Compose) (lamps : Vector LampOut 384) (i : LayerNo) :
    (s.settleVoid c lamps i).co = s.co := by
  unfold State.settleVoid
  dsimp only
  repeat' split
  all_goals simp

@[simp] theorem settleLimit_zones (loops : Vector LoopOut 6) (l : LoopNo) :
    (s.settleLimit loops l).co.zones = s.co.zones := by
  unfold State.settleLimit
  dsimp only
  split <;> simp

@[simp] theorem formLines_co : s.formLines.co = s.co := rfl

@[simp] theorem evalWatch_co (c : Compose) (drives : Vector Rgb 384) (w : WatchNo) :
    (s.evalWatch c drives w).co = s.co := by
  unfold State.evalWatch
  dsimp only
  repeat' split
  all_goals simp

@[simp] theorem evalWatches_co (c : Compose) (drives : Vector Rgb 384) : (s.evalWatches c drives).co = s.co :=
  foldl_keeps (·.co) (fun u w => evalWatch_co u c drives w) _ s

@[simp] theorem darkWatches_co : s.darkWatches.co = s.co := rfl

@[simp] theorem completeCompose_zones (c : Compose) : (s.completeCompose c).co.zones = s.co.zones := by
  simp only [State.completeCompose, evalWatches_co, loopsAtCompletion_co]
  rw [foldl_keeps (·.co.zones) (fun u l => settleLimit_zones u _ l), foldl_keeps (·.co) (fun u i => settleVoid_co u c _ i)]

/-! ## Frame starts, the part state, FORGET -/

@[simp] theorem frameStart_zones (tf : Time) : (s.frameStart tf).co.zones = s.co.zones := by
  simp [State.frameStart, State.frameWork]

@[simp] theorem enterSetup_zones : s.enterSetup.co.zones = s.co.zones := by
  simp [State.enterSetup, State.releaseHolds, State.openGates]

@[simp] theorem darkLayers_co : s.darkLayers.co = s.co := rfl
@[simp] theorem stopFrames_co : s.stopFrames.co = s.co := rfl

@[simp] theorem fallAsleep_co : s.fallAsleep.co = s.co := by
  simp [State.fallAsleep]

@[simp] theorem wakeUp_co : s.wakeUp.co = s.co := rfl

@[simp] theorem completeWake_zones : s.completeWake.co.zones = s.co.zones := by
  simp [State.completeWake]

@[simp] theorem resetWork_zones : s.abandonWork.zeroClocks.holdReset.co.zones = s.co.zones := rfl

@[simp] theorem forgetCue_co (o : Origin) (c : CueNo) : (s.forgetCue o c).co = s.co := by
  unfold State.forgetCue
  split
  · rfl
  · repeat' split
    all_goals simp

@[simp] theorem forgetCues_co (o : Origin) : (s.forgetCues o).co = s.co :=
  foldl_keeps (·.co) (fun u c => forgetCue_co u o c) _ s

@[simp] theorem forgetSlots_co (o : Origin) : (s.forgetSlots o).co = s.co := by
  refine foldl_keeps (·.co) (fun u n => ?_) _ s
  split <;> rfl

@[simp] theorem forgetHolds_co (o : Origin) : (s.forgetHolds o).co = s.co := rfl
@[simp] theorem forgetFlags_co (o : Origin) : (s.forgetFlags o).co = s.co := rfl
@[simp] theorem clearMask_co (o : Origin) : (s.clearMask o).co = s.co := rfl

@[simp] theorem forget_zones (o : Origin) : (s.forget o).co.zones = s.co.zones := by
  simp [State.forget]

end Sys2Proof.Machine

/-! PROOF. The law of the zone table along every step (R5, R12): the five commands that write the table keep the law, and
all others leave the table as it is. -/

namespace Sys2Proof.Machine

/-! ## Commands that leave the zone table as it is -/

/-- The two states have one zone table. -/
def SameZones (s t : State) : Prop := t.co.zones = s.co.zones

section
variable {s n : State}

theorem unchanged_zones : WhenNext (SameZones s) (.next s) := whenNext_next.mpr rfl

theorem live_zones (h : n.co.zones = s.co.zones) : WhenNext (SameZones s) (s.live n) := whenNext_live rfl fun _ => h

theorem liveWhen_zones {c : Bool} (h : n.co.zones = s.co.zones) : WhenNext (SameZones s) (s.liveWhen c n) :=
  whenNext_liveWhen rfl fun _ _ => h

theorem taken_zones {k : Option Kind} {o : Origin} {serve : Taken → State → State}
    (h : ∀ tk u, (serve tk u).co.zones = u.co.zones) : WhenNext (SameZones s) (takeRequest k o s serve) :=
  whenNext_takeRequest rfl rfl (fun _ => rfl) fun rq => h ⟨o, rq⟩ (s.popIntake o)

theorem answered_zones {k : Option Kind} {o : Origin} {serve : Taken → State → Served}
    (h : ∀ tk u, WhenServed (fun t => t.co.zones = u.co.zones) (serve tk u)) :
    WhenNext (SameZones s) (takeRequest k o s fun tk u => answer tk u (serve tk u)) :=
  taken_zones fun tk u => answer_keeps (P := fun t => t.co.zones = u.co.zones) (fun _ => rfl) (h tk u)

end

section
variable (s : State)

theorem atLastFrame_zones (c : CueNo) (cond : Time → Cue → Bool) {next : Cue → State}
    (h : ∀ cue, (next cue).co.zones = s.co.zones) : WhenNext (SameZones s) (atLastFrame s c cond next) := by
  unfold atLastFrame
  split
  · exact liveWhen_zones (h _)
  · exact unchanged_zones

/-! Requests: the owning block's checks, then work that leaves the Compositor's zones. -/

theorem execRequestUnknownKind_zones (o : Origin) : WhenNext (SameZones s) (execRequestUnknownKind o s) :=
  taken_zones fun tk u => by simp

theorem execSetOrigin_zones (o : Origin) : WhenNext (SameZones s) (execSetOrigin o s) :=
  answered_zones fun tk u => by simp [serveSetOrigin]

theorem execSetBin_zones (o : Origin) : WhenNext (SameZones s) (execSetBin o s) :=
  answered_zones fun tk u => by simp [serveSetBin]

theorem execSetLampBin_zones (o : Origin) : WhenNext (SameZones s) (execSetLampBin o s) :=
  answered_zones fun tk u => by simp [serveSetLampBin]

theorem execSetChain_zones (o : Origin) : WhenNext (SameZones s) (execSetChain o s) :=
  answered_zones fun tk u => by simp [serveSetChain]

theorem execSetLine_zones (o : Origin) : WhenNext (SameZones s) (execSetLine o s) :=
  answered_zones fun tk u => by simp [serveSetLine]

theorem execSetFlagOwner_zones (o : Origin) : WhenNext (SameZones s) (execSetFlagOwner o s) :=
  answered_zones fun tk u => by simp [serveSetFlagOwner]

theorem execSetGlare_zones (o : Origin) : WhenNext (SameZones s) (execSetGlare o s) :=
  answered_zones fun tk u => by simp [serveSetGlare]

theorem execSetFrame_zones (o : Origin) : WhenNext (SameZones s) (execSetFrame o s) :=
  answered_zones fun tk u => by simp [serveSetFrame]

theorem execSetWatch_zones (o : Origin) : WhenNext (SameZones s) (execSetWatch o s) :=
  answered_zones fun tk u => by simp [serveSetWatch]

theorem execWritePattern_zones (o : Origin) : WhenNext (SameZones s) (execWritePattern o s) :=
  answered_zones fun tk u => by simp [serveWritePattern]

theorem execDefinePattern_zones (o : Origin) : WhenNext (SameZones s) (execDefinePattern o s) :=
  answered_zones fun tk u => by simp [serveDefinePattern]

theorem execDeletePattern_zones (o : Origin) : WhenNext (SameZones s) (execDeletePattern o s) :=
  answered_zones fun tk u => by simp [serveDeletePattern]

theorem execWriteKeys_zones (o : Origin) : WhenNext (SameZones s) (execWriteKeys o s) :=
  answered_zones fun tk u => by simp [serveWriteKeys]

theorem execDefineCue_zones (o : Origin) : WhenNext (SameZones s) (execDefineCue o s) :=
  answered_zones fun tk u => by simp [serveDefineCue]

theorem execDeleteCue_zones (o : Origin) : WhenNext (SameZones s) (execDeleteCue o s) :=
  answered_zones fun tk u => by simp [serveDeleteCue]

theorem execBind_zones (o : Origin) : WhenNext (SameZones s) (execBind o s) :=
  answered_zones fun tk u => by simp [serveBind]

theorem execUnbind_zones (o : Origin) : WhenNext (SameZones s) (execUnbind o s) :=
  answered_zones fun tk u => by simp [serveUnbind]

theorem execTimeQuery_zones (o : Origin) : WhenNext (SameZones s) (execTimeQuery o s) :=
  taken_zones fun tk u => by simp

theorem execSetClock_zones (o : Origin) : WhenNext (SameZones s) (execSetClock o s) :=
  answered_zones fun tk u => by simp [serveSetClock]

theorem execTrimClock_zones (o : Origin) : WhenNext (SameZones s) (execTrimClock o s) :=
  answered_zones fun tk u => by simp [serveTrimClock]

theorem execReadStatus_zones (o : Origin) : WhenNext (SameZones s) (execReadStatus o s) :=
  taken_zones fun tk u => by simp

theorem execSubscribe_zones (o : Origin) : WhenNext (SameZones s) (execSubscribe o s) :=
  answered_zones fun tk u => by simp [serveSubscribe]

theorem execReadCapture_zones (o : Origin) : WhenNext (SameZones s) (execReadCapture o s) :=
  answered_zones fun tk u => by simp [serveReadCapture]

theorem execOpenLayer_zones (o : Origin) : WhenNext (SameZones s) (execOpenLayer o s) :=
  answered_zones fun tk u => by simp [serveOpenLayer]

theorem execEditLayer_zones (o : Origin) : WhenNext (SameZones s) (execEditLayer o s) :=
  answered_zones fun tk u => by simp [serveEditLayer]

theorem execShowLayer_zones (o : Origin) : WhenNext (SameZones s) (execShowLayer o s) :=
  answered_zones fun tk u => by simp [serveShowLayer]

theorem execHideLayer_zones (o : Origin) : WhenNext (SameZones s) (execHideLayer o s) :=
  answered_zones fun tk u => by simp [serveHideLayer]

theorem execCloseLayer_zones (o : Origin) : WhenNext (SameZones s) (execCloseLayer o s) :=
  answered_zones fun tk u => by simp [serveCloseLayer]

theorem execGateClose_zones (o : Origin) : WhenNext (SameZones s) (execGateClose o s) :=
  answered_zones fun tk u => by
    simp only [serveGateClose, whenServed_bind, whenServed_pure]
    intro _ _
    split <;> rfl

theorem execGateOpen_zones (o : Origin) : WhenNext (SameZones s) (execGateOpen o s) :=
  answered_zones fun tk u => by
    simp only [serveGateOpen, whenServed_bind, whenServed_pure]
    intro _ _
    split <;> rfl

theorem execStartCue_zones (o : Origin) : WhenNext (SameZones s) (execStartCue o s) :=
  answered_zones fun tk u => by simp [serveStartCue]

theorem execStopCue_zones (o : Origin) : WhenNext (SameZones s) (execStopCue o s) :=
  answered_zones fun tk u => by simp [serveStopCue]

theorem execStreamFrame_zones (o : Origin) : WhenNext (SameZones s) (execStreamFrame o s) :=
  taken_zones fun tk u => by simp

theorem execHoldZone_zones (o : Origin) : WhenNext (SameZones s) (execHoldZone o s) :=
  answered_zones fun tk u => by simp [serveHoldZone]

theorem execReleaseZone_zones (o : Origin) : WhenNext (SameZones s) (execReleaseZone o s) :=
  answered_zones fun tk u => by simp [serveReleaseZone]

theorem execSetFlags_zones (o : Origin) : WhenNext (SameZones s) (execSetFlags o s) :=
  answered_zones fun tk u => by simp [serveSetFlags]

theorem execTrigger_zones (o : Origin) : WhenNext (SameZones s) (execTrigger o s) :=
  answered_zones fun tk u => by simp [serveTrigger]

theorem execClearHealth_zones (o : Origin) : WhenNext (SameZones s) (execClearHealth o s) :=
  answered_zones fun tk u => by simp [serveClearHealth]

theorem execForget_zones (o : Origin) : WhenNext (SameZones s) (execForget o s) :=
  answered_zones fun tk u => by simp [serveForget]

theorem execEnterRun_zones (o : Origin) : WhenNext (SameZones s) (execEnterRun o s) :=
  answered_zones fun tk u => by
    simp only [serveEnterRun, whenServed_bind, whenServed_pure]
    intro _ _
    split <;> rfl

theorem execEnterSetup_zones (o : Origin) : WhenNext (SameZones s) (execEnterSetup o s) :=
  answered_zones fun tk u => by
    simp only [serveEnterSetup, whenServed_bind, whenServed_pure]
    intro _ _
    split <;> simp

theorem execSleep_zones (o : Origin) : WhenNext (SameZones s) (execSleep o s) :=
  answered_zones fun tk u => by simp [serveSleep]

/-! Events: each has its effect, or changes nothing. -/

theorem execFrameReceived_zones (ch : Chan) (fmt : FrameFormat) (ident : Nat) (data : List Byte) :
    WhenNext (SameZones s) (execFrameReceived ch fmt ident data s) := by
  unfold execFrameReceived
  split
  · exact liveWhen_zones (by simp)
  · exact unchanged_zones

theorem execFrameStart_zones : WhenNext (SameZones s) (execFrameStart s) := by
  unfold execFrameStart
  split
  · exact unchanged_zones
  · exact liveWhen_zones (by simp)

theorem execCueNaturalEnd_zones (c : CueNo) : WhenNext (SameZones s) (execCueNaturalEnd c s) :=
  atLastFrame_zones s c _ fun cue => by simp

theorem execCueReleaseEnd_zones (c : CueNo) : WhenNext (SameZones s) (execCueReleaseEnd c s) :=
  atLastFrame_zones s c _ fun cue => by simp

theorem execStreamStale_zones (q : QueueNo) : WhenNext (SameZones s) (execStreamStale q s) := by
  unfold execStreamStale
  split
  · exact unchanged_zones
  · exact liveWhen_zones (by simp)

theorem execComposeComplete_zones : WhenNext (SameZones s) (execComposeComplete s) := by
  unfold execComposeComplete
  split
  · exact unchanged_zones
  · exact live_zones (by simp)

theorem execQuietThreshold_zones (l : LoopNo) : WhenNext (SameZones s) (execQuietThreshold l s) := by
  unfold execQuietThreshold
  split
  · exact unchanged_zones
  · exact liveWhen_zones (by simp)

theorem execLoopReturnReceived_zones (l : LoopNo) (ret : LoopReturn) :
    WhenNext (SameZones s) (execLoopReturnReceived l ret s) := by
  unfold execLoopReturnReceived
  split
  · exact unchanged_zones
  · exact live_zones (by simp)

theorem execLoopReturnTimeout_zones (l : LoopNo) : WhenNext (SameZones s) (execLoopReturnTimeout l s) := by
  unfold execLoopReturnTimeout
  split
  · exact unchanged_zones
  · exact liveWhen_zones (by simp)

theorem execLoopFailed_zones (l : LoopNo) (ret : Option LoopReturn) :
    WhenNext (SameZones s) (execLoopFailed l ret s) := by
  unfold execLoopFailed
  split
  · exact unchanged_zones
  · exact liveWhen_zones (by simp)

theorem execLineRawChange_zones (t : LineNo) (level : Bool) : WhenNext (SameZones s) (execLineRawChange t level s) := by
  unfold execLineRawChange
  dsimp only
  split
  · exact unchanged_zones
  · split <;> exact whenNext_next.mpr rfl

theorem execLineChangeAccepted_zones (t : LineNo) : WhenNext (SameZones s) (execLineChangeAccepted t s) := by
  unfold execLineChangeAccepted
  split
  · exact unchanged_zones
  · exact liveWhen_zones (by simp)

theorem execFrameTransmitStart_zones (ch : Chan) : WhenNext (SameZones s) (execFrameTransmitStart ch s) := by
  unfold execFrameTransmitStart
  split
  · exact unchanged_zones
  · exact liveWhen_zones (by simp)

theorem execFrameTransmitted_zones (ch : Chan) : WhenNext (SameZones s) (execFrameTransmitted ch s) := by
  unfold execFrameTransmitted
  split
  · exact unchanged_zones
  · exact liveWhen_zones (by simp)

theorem execLoopBurstEnd_zones (l : LoopNo) : WhenNext (SameZones s) (execLoopBurstEnd l s) := by
  unfold execLoopBurstEnd
  dsimp only
  split
  · exact unchanged_zones
  · exact liveWhen_zones (by simp)

end

/-- The commands that write the zone table: the resets (R5), SET_ZONE (R13) and CLEAR_ZONE (R14). -/
def setsZones : Instr → Bool
  | .powerOn .. => true
  | .resetPinRelease .. => true
  | .setZone .. => true
  | .clearZone .. => true
  | .restart .. => true
  | _ => false

/-- Every other command leaves the zone table as it is. -/
theorem exec_sameZones (c : Instr) (hc : setsZones c = false) (s : State) : WhenNext (SameZones s) (exec c s) := by
  cases c with
  | powerOn strap raw => cases hc
  | resetPinAssert => exact live_zones (resetWork_zones s)
  | resetPinRelease strap => cases hc
  | frameReceived ch fmt ident data => exact execFrameReceived_zones s ch fmt ident data
  | requestUnknownKind o => exact execRequestUnknownKind_zones s o
  | setOrigin o => exact execSetOrigin_zones s o
  | setZone o => cases hc
  | clearZone o => cases hc
  | setBin o => exact execSetBin_zones s o
  | setLampBin o => exact execSetLampBin_zones s o
  | setChain o => exact execSetChain_zones s o
  | setLine o => exact execSetLine_zones s o
  | setFlagOwner o => exact execSetFlagOwner_zones s o
  | setGlare o => exact execSetGlare_zones s o
  | setFrame o => exact execSetFrame_zones s o
  | setWatch o => exact execSetWatch_zones s o
  | writePattern o => exact execWritePattern_zones s o
  | definePattern o => exact execDefinePattern_zones s o
  | deletePattern o => exact execDeletePattern_zones s o
  | writeKeys o => exact execWriteKeys_zones s o
  | defineCue o => exact execDefineCue_zones s o
  | deleteCue o => exact execDeleteCue_zones s o
  | bind o => exact execBind_zones s o
  | unbind o => exact execUnbind_zones s o
  | timeQuery o => exact execTimeQuery_zones s o
  | setClock o => exact execSetClock_zones s o
  | trimClock o => exact execTrimClock_zones s o
  | readStatus o => exact execReadStatus_zones s o
  | subscribe o => exact execSubscribe_zones s o
  | readCapture o => exact execReadCapture_zones s o
  | openLayer o => exact execOpenLayer_zones s o
  | editLayer o => exact execEditLayer_zones s o
  | showLayer o => exact execShowLayer_zones s o
  | hideLayer o => exact execHideLayer_zones s o
  | closeLayer o => exact execCloseLayer_zones s o
  | gateClose o => exact execGateClose_zones s o
  | gateOpen o => exact execGateOpen_zones s o
  | startCue o => exact execStartCue_zones s o
  | stopCue o => exact execStopCue_zones s o
  | streamFrame o => exact execStreamFrame_zones s o
  | holdZone o => exact execHoldZone_zones s o
  | releaseZone o => exact execReleaseZone_zones s o
  | setFlags o => exact execSetFlags_zones s o
  | trigger o => exact execTrigger_zones s o
  | clearHealth o => exact execClearHealth_zones s o
  | forget o => exact execForget_zones s o
  | enterRun o => exact execEnterRun_zones s o
  | enterSetup o => exact execEnterSetup_zones s o
  | sleep o => exact execSleep_zones s o
  | restart o => cases hc
  | trimCorrection => exact liveWhen_zones rfl
  | frameStart => exact execFrameStart_zones s
  | cueNaturalEnd c => exact execCueNaturalEnd_zones s c
  | cueReleaseEnd c => exact execCueReleaseEnd_zones s c
  | streamStale q => exact execStreamStale_zones s q
  | holdoffEnd l => exact liveWhen_zones (by simp)
  | composeComplete => exact execComposeComplete_zones s
  | quietThreshold l => exact execQuietThreshold_zones s l
  | loopReturnReceived l ret => exact execLoopReturnReceived_zones s l ret
  | loopReturnTimeout l => exact execLoopReturnTimeout_zones s l
  | loopFailed l ret => exact execLoopFailed_zones s l ret
  | gateExpiry o => exact liveWhen_zones (by simp)
  | lineRawChange t level => exact execLineRawChange_zones s t level
  | lineChangeAccepted t => exact execLineChangeAccepted_zones s t
  | settle => exact liveWhen_zones (by simp)
  | wakeCompletion => exact liveWhen_zones (by simp)
  | frameTransmitStart ch => exact execFrameTransmitStart_zones s ch
  | frameTransmitted ch => exact execFrameTransmitted_zones s ch
  | channelError ch kind => exact liveWhen_zones (by simp)
  | channelRecovery ch => exact liveWhen_zones (by simp)
  | loopBurstEnd l => exact execLoopBurstEnd_zones s l

/-! ## Commands that write it -/

section
variable {s : State} (hs : ZonesSound s)
include hs

theorem execSetZone_sound (o : Origin) : WhenNext ZonesSound (execSetZone o s) := by
  refine whenNext_takeRequest hs hs (fun _ => hs) fun rq => answer_keeps (fun _ => hs) fun t ht => ?_
  obtain ⟨z, x, hx, hfree, hzones⟩ := serveSetZone_served (s := s.popIntake o) hs ⟨o, rq⟩ rq.data t ht
  exact (ZonesSound.set (s := s.popIntake o) hs hx hfree).congr hzones

theorem execClearZone_sound (o : Origin) : WhenNext ZonesSound (execClearZone o s) := by
  refine whenNext_takeRequest hs hs (fun _ => hs) fun rq => answer_keeps (fun _ => hs) ?_
  simp only [serveClearZone, whenServed_bind, whenServed_pure]
  exact fun _ _ z _ _ _ => (ZonesSound.clear (s := s.popIntake o) hs z).congr rfl

theorem execRestart_sound (o : Origin) : WhenNext ZonesSound (execRestart o s) := by
  refine whenNext_takeRequest hs hs (fun _ => hs) fun rq => answer_keeps (fun _ => hs) ?_
  simp only [serveRestart, whenServed_bind, whenServed_pure]
  exact fun _ _ => zonesSound_of_none rfl

theorem execResetPinRelease_sound (strap : Fin 8) : WhenNext ZonesSound (execResetPinRelease strap s) := by
  unfold execResetPinRelease
  split
  · exact whenNext_next.mpr (zonesSound_of_none rfl)
  · exact whenNext_next.mpr hs

/-- Every command keeps the law of the zone table. -/
theorem exec_zonesSound (c : Instr) : WhenNext ZonesSound (exec c s) := by
  by_cases hc : setsZones c = false
  · exact fun t ht => hs.congr (exec_sameZones c hc s t ht)
  · cases c with
    | powerOn strap raw => exact whenNext_next.mpr (zonesSound_of_none rfl)
    | resetPinRelease strap => exact execResetPinRelease_sound hs strap
    | setZone o => exact execSetZone_sound hs o
    | clearZone o => exact execClearZone_sound hs o
    | restart o => exact execRestart_sound hs o
    | _ => exact absurd rfl hc

end

/-- Settles O7: no command breaks the law of the zone table, which reads neither the queue nor the clocks. -/
theorem stepsKeepLampsInOneZone : Obligations.StepsKeepLampsInOneZone :=
  keptByStep_of_exec (fun _ _ hs => hs.congr rfl) (fun _ hs => hs.congr rfl) fun c _ hs => exec_zonesSound hs c

end Sys2Proof.Machine

/-! PROOF. What the laws of layers and stream queues read of the state, and the operations that leave all of it as it is:
one lemma for each, in the order of the model. -/

namespace Sys2Proof.Machine

/-- What the laws of layers and of stream queues read: the layers, the queues, the compose in flight, the origin records,
and whether the part is in SETUP. -/
def layerParts (s : State) :
    Vector Layer 16 × Vector StreamQueue 2 × Option Compose × Vector OriginRec 4 × Bool :=
  (s.lt.layers, s.ss.queues, s.co.inFlight, s.ot.recs, s.inSetup)

/-- Two states agree in those parts when they agree in each. -/
theorem layerParts_eq_iff {s t : State} : layerParts t = layerParts s ↔
    t.lt.layers = s.lt.layers ∧ t.ss.queues = s.ss.queues ∧ t.co.inFlight = s.co.inFlight ∧ t.ot.recs = s.ot.recs ∧
      t.inSetup = s.inSetup := by
  simp only [layerParts, Prod.mk.injEq]

section
variable (s : State)

/-! ## Record updates -/

@[simp] theorem setPort_parts (o : Origin) (p : Port) : layerParts (s.setPort o p) = layerParts s := rfl
@[simp] theorem setCue_parts (c : CueNo) (x : Option Cue) : layerParts (s.setCue c x) = layerParts s := rfl
@[simp] theorem setStartQueue_parts (q : List StartEntry) : layerParts (s.setStartQueue q) = layerParts s := rfl
@[simp] theorem setGate_parts (o : Origin) (g : Gate) : layerParts (s.setGate o g) = layerParts s := rfl
@[simp] theorem setHold_parts (z : ZoneNo) (h : Option Hold) : layerParts (s.setHold z h) = layerParts s := rfl
@[simp] theorem setSlot_parts (n : SlotNo) (x : Option Slot) : layerParts (s.setSlot n x) = layerParts s := rfl
@[simp] theorem setFlagBits_parts (flags : BitVec 32) : layerParts (s.setFlagBits flags) = layerParts s := rfl
@[simp] theorem setLineRec_parts (t : LineNo) (x : Line) : layerParts (s.setLineRec t x) = layerParts s := rfl
@[simp] theorem setCapture_parts (t : LineNo) (x : Capture) : layerParts (s.setCapture t x) = layerParts s := rfl
@[simp] theorem setWriter_parts (f : FlagNo) (w : Writer) : layerParts (s.setWriter f w) = layerParts s := rfl
@[simp] theorem setBind_parts (i : BindNo) (e : Option BindEntry) : layerParts (s.setBind i e) = layerParts s := rfl
@[simp] theorem setWakeList_parts (l : List WakeEntry) : layerParts (s.setWakeList l) = layerParts s := rfl
@[simp] theorem setLoop_parts (l : LoopNo) (x : Loop) : layerParts (s.setLoop l x) = layerParts s := rfl
@[simp] theorem setHealth_parts (lam : LampNo) (h : Health) : layerParts (s.setHealth lam h) = layerParts s := rfl
@[simp] theorem setLimit_parts (l : LoopNo) (x : Limit) : layerParts (s.setLimit l x) = layerParts s := rfl
@[simp] theorem setWatchRec_parts (w : WatchNo) (x : Watch) : layerParts (s.setWatchRec w x) = layerParts s := rfl
@[simp] theorem setChan_parts (ch : Chan) (c : Channel) : layerParts (s.setChan ch c) = layerParts s := by
  cases ch <;> rfl

/-! ## Replies, notices, ports, clocks -/

@[simp] theorem popIntake_parts (o : Origin) : layerParts (s.popIntake o) = layerParts s := rfl
@[simp] theorem reply_parts (tk : Taken) (c : Code) (clamped replaced : Bool) (result : List Byte) :
    layerParts (s.reply tk c clamped replaced result) = layerParts s := rfl
@[simp] theorem refuse_parts (tk : Taken) (c : Code) : layerParts (s.refuse tk c) = layerParts s := rfl
@[simp] theorem done_parts (tk : Taken) (result : List Byte) : layerParts (s.done tk result) = layerParts s := rfl

@[simp] theorem notify_parts (o : Origin) (n : Notice) : layerParts (s.notify o n) = layerParts s := by
  rw [notify_frame]; rfl

@[simp] theorem notifyAll_parts (n : Notice) : layerParts (s.notifyAll n) = layerParts s := by
  rw [notifyAll_frame]; rfl

@[simp] theorem wakeEvent_parts : layerParts s.wakeEvent = layerParts s := by
  unfold State.wakeEvent
  split
  · rename_i h
    exact layerParts_eq_iff.mpr ⟨rfl, rfl, rfl, rfl, by simp only [State.inSetup, h]; rfl⟩
  · rfl

@[simp] theorem offer_parts (o : Origin) (rq : Intake) : layerParts (s.offer o rq) = layerParts s := by
  unfold State.offer
  dsimp only
  split <;> rfl

@[simp] theorem receive_parts (ch : Chan) (o : Origin) (data : List Byte) :
    layerParts (s.receive ch o data) = layerParts s := by
  unfold State.receive State.countReceived
  dsimp only
  split <;> simp

@[simp] theorem beginSend_parts (ch : Chan) (o : Origin) : layerParts (s.beginSend ch o) = layerParts s := rfl

@[simp] theorem finishSend_parts (ch : Chan) (o : Origin) : layerParts (s.finishSend ch o) = layerParts s := by
  simp [State.finishSend]

@[simp] theorem abandonSend_parts (ch : Chan) : layerParts (s.abandonSend ch) = layerParts s := rfl

@[simp] theorem channelErr_parts (ch : Chan) (kind : ErrorKind) : layerParts (s.channelErr ch kind) = layerParts s := by
  unfold State.channelErr
  dsimp only
  split <;> simp

@[simp] theorem microsecond_parts : layerParts s.microsecond = layerParts s := rfl
@[simp] theorem raiseFrame_parts (tf : Time) : layerParts (s.raiseFrame tf) = layerParts s := rfl
@[simp] theorem setScene_parts (c : Time) : layerParts (s.setScene c) = layerParts s := rfl

/-! ## Cues -/

@[simp] theorem endCue_parts (c : CueNo) (cue : Cue) (why : EndReason) :
    layerParts (s.endCue c cue why) = layerParts s := by
  simp [State.endCue]

@[simp] theorem schedule_parts (c : CueNo) (cue : Cue) (start : Time) (o : Origin) :
    layerParts (s.schedule c cue start o) = layerParts s := by
  unfold State.schedule
  dsimp only
  split <;> simp

@[simp] theorem stop_parts (c : CueNo) (cue : Cue) : layerParts (s.stop c cue) = layerParts s := by
  unfold State.stop
  split
  · rfl
  · simp
  · split <;> simp
  · simp

@[simp] theorem unbindWhere_parts (p : BindEntry → Bool) : layerParts (s.unbindWhere p) = layerParts s := rfl

@[simp] theorem emptyCue_parts (c : CueNo) (cue : Cue) (why : EndReason) :
    layerParts (s.emptyCue c cue why) = layerParts s := by
  unfold State.emptyCue
  dsimp only
  split <;> simp

@[simp] theorem endCuesWhere_parts (p : Cue → Bool) (why : EndReason) :
    layerParts (s.endCuesWhere p why) = layerParts s := by
  refine foldl_keeps layerParts (fun u c => ?_) _ s
  split
  · rfl
  · split <;> simp

@[simp] theorem endAllCues_parts (why : EndReason) : layerParts (s.endAllCues why) = layerParts s := by
  simp [State.endAllCues]

@[simp] theorem actStart_parts (c : CueNo) (cue : Cue) (stamp : Time) (o : Origin) :
    layerParts (s.actStart c cue stamp o) = layerParts s := by
  unfold State.actStart
  split <;> simp

@[simp] theorem act_parts (e : BindEntry) (stamp : Time) : layerParts (s.act e stamp) = layerParts s := by
  unfold State.act
  split
  · split
    · rfl
    · split
      · simp
      · simp
      · split <;> simp
  · rfl

@[simp] theorem evaluate_parts (tf : Time) : layerParts (s.evaluate tf) = layerParts s := rfl

@[simp] theorem forgetCue_parts (o : Origin) (c : CueNo) : layerParts (s.forgetCue o c) = layerParts s := by
  unfold State.forgetCue
  split
  · rfl
  · repeat' split
    all_goals simp

@[simp] theorem forgetCues_parts (o : Origin) : layerParts (s.forgetCues o) = layerParts s :=
  foldl_keeps layerParts (fun u c => forgetCue_parts u o c) _ s

/-! ## Holds, lines, flags, codes -/

@[simp] theorem takeHold_parts (tk : Taken) (z : ZoneNo) (tier : Tier) :
    layerParts (takeHold tk z tier s) = layerParts s := by
  unfold takeHold
  dsimp only
  split
  · simp
  · repeat' split
    all_goals simp

@[simp] theorem mirrorTo_parts (f : Option FlagNo) (v : Bool) : layerParts (s.mirrorTo f v) = layerParts s := by
  cases f <;> rfl

@[simp] theorem replaceLine_parts (t : LineNo) (x : Line) : layerParts (s.replaceLine t x) = layerParts s := by
  simp [State.replaceLine]

@[simp] theorem giveFlag_parts (f : FlagNo) (w : Writer) : layerParts (s.giveFlag f w) = layerParts s := by
  unfold State.giveFlag
  split <;> rfl

@[simp] theorem unbindSame_parts (o : Origin) (code mask : Byte) :
    layerParts (s.unbindSame o code mask) = layerParts s := by
  unfold State.unbindSame
  split <;> rfl

@[simp] theorem matchCode_parts (src : CodeSource) (code : Byte) (stamp : Time) :
    layerParts (s.matchCode src code stamp) = layerParts s := by
  simp only [State.matchCode, notifyAll_parts]
  exact foldl_keeps layerParts (fun u e => act_parts u e stamp) _ s

@[simp] theorem seeUnmatched_parts (src : CodeSource) (code : Byte) (stamp : Time) :
    layerParts (s.seeUnmatched src code stamp) = layerParts s := notifyAll_parts ..

@[simp] theorem addWake_parts (t : LineNo) (e : EdgeKind) (stamp : Time) :
    layerParts (s.addWake t e stamp) = layerParts s := by
  unfold State.addWake
  split <;> simp

@[simp] theorem handleEdge_parts (t : LineNo) (e : EdgeKind) (stamp : Time) :
    layerParts (s.handleEdge t e stamp) = layerParts s := by
  unfold State.handleEdge
  cases s.ps.state with
  | asleep => dsimp only; split <;> simp
  | _ => simp

@[simp] theorem takeEdge_parts (t : LineNo) (e : EdgeKind) : layerParts (s.takeEdge t e) = layerParts s := by
  simp [State.takeEdge]

@[simp] theorem acceptChange_parts (t : LineNo) (level : Bool) :
    layerParts (s.acceptChange t level) = layerParts s := by
  unfold State.acceptChange
  dsimp only
  repeat' split
  all_goals simp

@[simp] theorem matchWakeList_parts : layerParts s.matchWakeList = layerParts s := by
  rw [State.matchWakeList, foldl_keeps layerParts fun u w => matchCode_parts .., setWakeList_parts]

@[simp] theorem forgetHolds_parts (o : Origin) : layerParts (s.forgetHolds o) = layerParts s := rfl
@[simp] theorem releaseHolds_parts : layerParts s.releaseHolds = layerParts s := rfl
@[simp] theorem forgetFlags_parts (o : Origin) : layerParts (s.forgetFlags o) = layerParts s := rfl
@[simp] theorem clearMask_parts (o : Origin) : layerParts (s.clearMask o) = layerParts s := rfl

/-! ## Loops -/

@[simp] theorem changeLoop_parts (l : LoopNo) (x : Loop) (cause : LoopCause) :
    layerParts (s.changeLoop l x cause) = layerParts s := by
  simp [State.changeLoop]

@[simp] theorem clearQueried_parts (l : LoopNo) : layerParts (s.clearQueried l) = layerParts s := rfl

@[simp] theorem followSettings_parts (l : LoopNo) : layerParts (s.followSettings l) = layerParts s := by
  unfold State.followSettings
  dsimp only
  repeat' split
  all_goals simp

@[simp] theorem storeChain_parts (l : LoopNo) (c : Chain) (enable : Bool) :
    layerParts (s.storeChain l c enable) = layerParts s := rfl

@[simp] theorem endHoldoff_parts (l : LoopNo) : layerParts (s.endHoldoff l) = layerParts s := by
  simp [State.endHoldoff]

@[simp] theorem loopAtFrame_parts (l : LoopNo) : layerParts (s.loopAtFrame l) = layerParts s := by
  unfold State.loopAtFrame
  dsimp only
  repeat' split
  all_goals simp

@[simp] theorem loopsAtFrame_parts : layerParts s.loopsAtFrame = layerParts s :=
  foldl_keeps layerParts loopAtFrame_parts _ s

@[simp] theorem failLoop_parts (l : LoopNo) (cause : LoopCause) : layerParts (s.failLoop l cause) = layerParts s :=
  changeLoop_parts ..

@[simp] theorem applyStatus_parts (lam : LampNo) (st : StatusWord) : layerParts (s.applyStatus lam st) = layerParts s := by
  unfold State.applyStatus
  dsimp only
  split <;> simp

@[simp] theorem applyQuery_parts (l : LoopNo) (q : Nat) (st : StatusWord) :
    layerParts (s.applyQuery l q st) = layerParts s := by
  unfold State.applyQuery
  split <;> simp

@[simp] theorem countFailure_parts (l : LoopNo) : layerParts (s.countFailure l) = layerParts s := by
  unfold State.countFailure
  dsimp only
  split <;> simp

@[simp] theorem actOn_parts (l : LoopNo) (v : Verdict) : layerParts (s.actOn l v) = layerParts s := by
  cases v <;> simp [State.actOn]

@[simp] theorem loopAtCompletion_parts (codes : LoopNo → List Rgb) (l : LoopNo) :
    layerParts (s.loopAtCompletion codes l) = layerParts s := by
  unfold State.loopAtCompletion
  dsimp only
  repeat' split
  all_goals simp

@[simp] theorem loopsAtCompletion_parts (codes : LoopNo → List Rgb) :
    layerParts (s.loopsAtCompletion codes) = layerParts s :=
  foldl_keeps layerParts (fun u l => loopAtCompletion_parts u codes l) _ s

@[simp] theorem settleLoops_parts : layerParts s.settleLoops = layerParts s := rfl
@[simp] theorem wakeLoops_parts : layerParts s.wakeLoops = layerParts s := rfl
@[simp] theorem clearShorts_parts (first count : Nat) : layerParts (s.clearShorts first count) = layerParts s := rfl

/-! ## Limits, watches, the frame timer -/

@[simp] theorem notifyOwner_parts (o : Option Origin) (n : Notice) : layerParts (s.notifyOwner o n) = layerParts s := by
  cases o <;> simp [State.notifyOwner]

@[simp] theorem settleLimit_parts (loops : Vector LoopOut 6) (l : LoopNo) :
    layerParts (s.settleLimit loops l) = layerParts s := by
  unfold State.settleLimit
  dsimp only
  split <;> simp

@[simp] theorem formLines_parts : layerParts s.formLines = layerParts s := rfl

@[simp] theorem evalWatch_parts (c : Compose) (drives : Vector Rgb 384) (w : WatchNo) :
    layerParts (s.evalWatch c drives w) = layerParts s := by
  unfold State.evalWatch
  dsimp only
  repeat' split
  all_goals simp

@[simp] theorem evalWatches_parts (c : Compose) (drives : Vector Rgb 384) :
    layerParts (s.evalWatches c drives) = layerParts s := by
  rw [State.evalWatches, formLines_parts]
  exact foldl_keeps layerParts (fun u w => evalWatch_parts u c drives w) _ s

@[simp] theorem darkWatches_parts : layerParts s.darkWatches = layerParts s := rfl
@[simp] theorem stopFrames_parts : layerParts s.stopFrames = layerParts s := rfl
@[simp] theorem zeroClocks_parts : layerParts s.zeroClocks = layerParts s := rfl
@[simp] theorem holdReset_parts : layerParts s.holdReset = layerParts s := rfl

end

/-! ## Commands that leave these parts as they are -/

/-- The two states agree in what the laws of layers and queues read. -/
def SameParts (s t : State) : Prop := layerParts t = layerParts s

section
variable {s n : State}

theorem unchanged_parts : WhenNext (SameParts s) (.next s) := whenNext_next.mpr rfl

theorem live_parts (h : layerParts n = layerParts s) : WhenNext (SameParts s) (s.live n) := whenNext_live rfl fun _ => h

theorem liveWhen_parts {c : Bool} (h : layerParts n = layerParts s) : WhenNext (SameParts s) (s.liveWhen c n) :=
  whenNext_liveWhen rfl fun _ _ => h

theorem taken_parts {k : Option Kind} {o : Origin} {serve : Taken → State → State}
    (h : ∀ tk u, layerParts (serve tk u) = layerParts u) : WhenNext (SameParts s) (takeRequest k o s serve) :=
  whenNext_takeRequest rfl rfl (fun _ => rfl) fun rq => h ⟨o, rq⟩ (s.popIntake o)

theorem answered_parts {k : Option Kind} {o : Origin} {serve : Taken → State → Served}
    (h : ∀ tk u, WhenServed (fun t => layerParts t = layerParts u) (serve tk u)) :
    WhenNext (SameParts s) (takeRequest k o s fun tk u => answer tk u (serve tk u)) :=
  taken_parts fun tk u => answer_keeps (P := fun t => layerParts t = layerParts u) (fun _ => rfl) (h tk u)

end

/-- The commands that write one of those parts. -/
def setsLayerParts : Instr → Bool
  | .powerOn .. => true
  | .resetPinAssert => true
  | .resetPinRelease .. => true
  | .setOrigin .. => true
  | .deletePattern .. => true
  | .openLayer .. => true
  | .editLayer .. => true
  | .showLayer .. => true
  | .hideLayer .. => true
  | .closeLayer .. => true
  | .streamFrame .. => true
  | .forget .. => true
  | .enterRun .. => true
  | .enterSetup .. => true
  | .sleep .. => true
  | .restart .. => true
  | .frameStart => true
  | .cueNaturalEnd .. => true
  | .streamStale .. => true
  | .composeComplete => true
  | .gateExpiry .. => true
  | .settle => true
  | .wakeCompletion => true
  | _ => false

section
variable (s : State)

theorem execSetZone_parts (o : Origin) : WhenNext (SameParts s) (execSetZone o s) :=
  answered_parts fun tk u => by
    simp only [serveSetZone, whenServed_bind, whenServed_pure]; intros; rfl

theorem execClearZone_parts (o : Origin) : WhenNext (SameParts s) (execClearZone o s) :=
  answered_parts fun tk u => by
    simp only [serveClearZone, whenServed_bind, whenServed_pure]; intros; rfl

theorem execSetBin_parts (o : Origin) : WhenNext (SameParts s) (execSetBin o s) :=
  answered_parts fun tk u => by
    simp only [serveSetBin, whenServed_bind, whenServed_pure]; intros; rfl

theorem execSetLampBin_parts (o : Origin) : WhenNext (SameParts s) (execSetLampBin o s) :=
  answered_parts fun tk u => by
    simp only [serveSetLampBin, whenServed_bind, whenServed_pure]; intros; rfl

theorem execSetChain_parts (o : Origin) : WhenNext (SameParts s) (execSetChain o s) :=
  answered_parts fun tk u => by simp [serveSetChain]

theorem execSetLine_parts (o : Origin) : WhenNext (SameParts s) (execSetLine o s) :=
  answered_parts fun tk u => by simp [serveSetLine]

theorem execSetFlagOwner_parts (o : Origin) : WhenNext (SameParts s) (execSetFlagOwner o s) :=
  answered_parts fun tk u => by simp [serveSetFlagOwner]

theorem execSetGlare_parts (o : Origin) : WhenNext (SameParts s) (execSetGlare o s) :=
  answered_parts fun tk u => by
    simp only [serveSetGlare, whenServed_bind, whenServed_pure]; intros; rfl

theorem execSetFrame_parts (o : Origin) : WhenNext (SameParts s) (execSetFrame o s) :=
  answered_parts fun tk u => by
    simp only [serveSetFrame, whenServed_bind, whenServed_pure]; intros; rfl

theorem execSetWatch_parts (o : Origin) : WhenNext (SameParts s) (execSetWatch o s) :=
  answered_parts fun tk u => by simp [serveSetWatch]

theorem execWritePattern_parts (o : Origin) : WhenNext (SameParts s) (execWritePattern o s) :=
  answered_parts fun tk u => by
    simp only [serveWritePattern, whenServed_bind, whenServed_pure]; intros; rfl

theorem execDefinePattern_parts (o : Origin) : WhenNext (SameParts s) (execDefinePattern o s) :=
  answered_parts fun tk u => by simp [serveDefinePattern]

theorem execWriteKeys_parts (o : Origin) : WhenNext (SameParts s) (execWriteKeys o s) :=
  answered_parts fun tk u => by
    simp only [serveWriteKeys, whenServed_bind, whenServed_pure]; intros; rfl

theorem execDefineCue_parts (o : Origin) : WhenNext (SameParts s) (execDefineCue o s) :=
  answered_parts fun tk u => by simp [serveDefineCue]

theorem execDeleteCue_parts (o : Origin) : WhenNext (SameParts s) (execDeleteCue o s) :=
  answered_parts fun tk u => by simp [serveDeleteCue]

theorem execBind_parts (o : Origin) : WhenNext (SameParts s) (execBind o s) :=
  answered_parts fun tk u => by simp [serveBind]

theorem execUnbind_parts (o : Origin) : WhenNext (SameParts s) (execUnbind o s) :=
  answered_parts fun tk u => by simp [serveUnbind]

theorem execSetClock_parts (o : Origin) : WhenNext (SameParts s) (execSetClock o s) :=
  answered_parts fun tk u => by simp [serveSetClock]

theorem execTrimClock_parts (o : Origin) : WhenNext (SameParts s) (execTrimClock o s) :=
  answered_parts fun tk u => by
    simp only [serveTrimClock, whenServed_bind, whenServed_pure]; intros; rfl

theorem execSubscribe_parts (o : Origin) : WhenNext (SameParts s) (execSubscribe o s) :=
  answered_parts fun tk u => by simp [serveSubscribe]

theorem execReadCapture_parts (o : Origin) : WhenNext (SameParts s) (execReadCapture o s) :=
  answered_parts fun tk u => by simp [serveReadCapture]

theorem execGateClose_parts (o : Origin) : WhenNext (SameParts s) (execGateClose o s) :=
  answered_parts fun tk u => by
    simp only [serveGateClose, whenServed_bind, whenServed_pure]
    intro _ _
    split <;> rfl

theorem execGateOpen_parts (o : Origin) : WhenNext (SameParts s) (execGateOpen o s) :=
  answered_parts fun tk u => by
    simp only [serveGateOpen, whenServed_bind, whenServed_pure]
    intro _ _
    split <;> rfl

theorem execStartCue_parts (o : Origin) : WhenNext (SameParts s) (execStartCue o s) :=
  answered_parts fun tk u => by simp [serveStartCue]

theorem execStopCue_parts (o : Origin) : WhenNext (SameParts s) (execStopCue o s) :=
  answered_parts fun tk u => by simp [serveStopCue]

theorem execHoldZone_parts (o : Origin) : WhenNext (SameParts s) (execHoldZone o s) :=
  answered_parts fun tk u => by simp [serveHoldZone]

theorem execReleaseZone_parts (o : Origin) : WhenNext (SameParts s) (execReleaseZone o s) :=
  answered_parts fun tk u => by simp [serveReleaseZone]

theorem execSetFlags_parts (o : Origin) : WhenNext (SameParts s) (execSetFlags o s) :=
  answered_parts fun tk u => by simp [serveSetFlags]

theorem execTrigger_parts (o : Origin) : WhenNext (SameParts s) (execTrigger o s) :=
  answered_parts fun tk u => by simp [serveTrigger]

theorem execClearHealth_parts (o : Origin) : WhenNext (SameParts s) (execClearHealth o s) :=
  answered_parts fun tk u => by simp [serveClearHealth]

theorem execFrameReceived_parts (ch : Chan) (fmt : FrameFormat) (ident : Nat) (data : List Byte) :
    WhenNext (SameParts s) (execFrameReceived ch fmt ident data s) := by
  unfold execFrameReceived
  split
  · exact liveWhen_parts (by simp)
  · exact unchanged_parts

theorem execCueReleaseEnd_parts (c : CueNo) : WhenNext (SameParts s) (execCueReleaseEnd c s) := by
  unfold execCueReleaseEnd atLastFrame
  split
  · exact liveWhen_parts (by simp)
  · exact unchanged_parts

theorem execQuietThreshold_parts (l : LoopNo) : WhenNext (SameParts s) (execQuietThreshold l s) := by
  unfold execQuietThreshold
  split
  · exact unchanged_parts
  · exact liveWhen_parts (by simp)

theorem execLoopReturnReceived_parts (l : LoopNo) (ret : LoopReturn) :
    WhenNext (SameParts s) (execLoopReturnReceived l ret s) := by
  unfold execLoopReturnReceived
  split
  · exact unchanged_parts
  · exact live_parts (by simp)

theorem execLoopReturnTimeout_parts (l : LoopNo) : WhenNext (SameParts s) (execLoopReturnTimeout l s) := by
  unfold execLoopReturnTimeout
  split
  · exact unchanged_parts
  · exact liveWhen_parts (by simp)

theorem execLoopFailed_parts (l : LoopNo) (ret : Option LoopReturn) :
    WhenNext (SameParts s) (execLoopFailed l ret s) := by
  unfold execLoopFailed
  split
  · exact unchanged_parts
  · exact liveWhen_parts (by simp)

theorem execLineRawChange_parts (t : LineNo) (level : Bool) : WhenNext (SameParts s) (execLineRawChange t level s) := by
  unfold execLineRawChange
  dsimp only
  split
  · exact unchanged_parts
  · split <;> exact whenNext_next.mpr rfl

theorem execLineChangeAccepted_parts (t : LineNo) : WhenNext (SameParts s) (execLineChangeAccepted t s) := by
  unfold execLineChangeAccepted
  split
  · exact unchanged_parts
  · exact liveWhen_parts (by simp)

theorem execFrameTransmitStart_parts (ch : Chan) : WhenNext (SameParts s) (execFrameTransmitStart ch s) := by
  unfold execFrameTransmitStart
  split
  · exact unchanged_parts
  · exact liveWhen_parts (by simp)

theorem execFrameTransmitted_parts (ch : Chan) : WhenNext (SameParts s) (execFrameTransmitted ch s) := by
  unfold execFrameTransmitted
  split
  · exact unchanged_parts
  · exact liveWhen_parts (by simp)

theorem execLoopBurstEnd_parts (l : LoopNo) : WhenNext (SameParts s) (execLoopBurstEnd l s) := by
  unfold execLoopBurstEnd
  dsimp only
  split
  · exact unchanged_parts
  · exact liveWhen_parts (by simp)

end

/-- Every other command leaves those parts as they are. -/
theorem exec_sameParts (c : Instr) (hc : setsLayerParts c = false) (s : State) : WhenNext (SameParts s) (exec c s) := by
  cases c with
  | powerOn _ _ | resetPinAssert | resetPinRelease _ | setOrigin _ | deletePattern _ | openLayer _ | editLayer _
  | showLayer _ | hideLayer _ | closeLayer _ | streamFrame _ | forget _ | enterRun _ | enterSetup _ | sleep _ | restart _
  | frameStart | cueNaturalEnd _ | streamStale _ | composeComplete | gateExpiry _ | settle | wakeCompletion => cases hc
  | frameReceived ch fmt ident data => exact execFrameReceived_parts s ch fmt ident data
  | requestUnknownKind o => exact taken_parts fun tk u => refuse_parts u tk _
  | setZone o => exact execSetZone_parts s o
  | clearZone o => exact execClearZone_parts s o
  | setBin o => exact execSetBin_parts s o
  | setLampBin o => exact execSetLampBin_parts s o
  | setChain o => exact execSetChain_parts s o
  | setLine o => exact execSetLine_parts s o
  | setFlagOwner o => exact execSetFlagOwner_parts s o
  | setGlare o => exact execSetGlare_parts s o
  | setFrame o => exact execSetFrame_parts s o
  | setWatch o => exact execSetWatch_parts s o
  | writePattern o => exact execWritePattern_parts s o
  | definePattern o => exact execDefinePattern_parts s o
  | writeKeys o => exact execWriteKeys_parts s o
  | defineCue o => exact execDefineCue_parts s o
  | deleteCue o => exact execDeleteCue_parts s o
  | bind o => exact execBind_parts s o
  | unbind o => exact execUnbind_parts s o
  | timeQuery o => exact taken_parts fun tk u => done_parts u tk _
  | setClock o => exact execSetClock_parts s o
  | trimClock o => exact execTrimClock_parts s o
  | readStatus o => exact taken_parts fun tk u => done_parts u tk _
  | subscribe o => exact execSubscribe_parts s o
  | readCapture o => exact execReadCapture_parts s o
  | gateClose o => exact execGateClose_parts s o
  | gateOpen o => exact execGateOpen_parts s o
  | startCue o => exact execStartCue_parts s o
  | stopCue o => exact execStopCue_parts s o
  | holdZone o => exact execHoldZone_parts s o
  | releaseZone o => exact execReleaseZone_parts s o
  | setFlags o => exact execSetFlags_parts s o
  | trigger o => exact execTrigger_parts s o
  | clearHealth o => exact execClearHealth_parts s o
  | trimCorrection => exact liveWhen_parts rfl
  | cueReleaseEnd c => exact execCueReleaseEnd_parts s c
  | holdoffEnd l => exact liveWhen_parts (by simp)
  | quietThreshold l => exact execQuietThreshold_parts s l
  | loopReturnReceived l ret => exact execLoopReturnReceived_parts s l ret
  | loopReturnTimeout l => exact execLoopReturnTimeout_parts s l
  | loopFailed l ret => exact execLoopFailed_parts s l ret
  | lineRawChange t level => exact execLineRawChange_parts s t level
  | lineChangeAccepted t => exact execLineChangeAccepted_parts s t
  | frameTransmitStart ch => exact execFrameTransmitStart_parts s ch
  | frameTransmitted ch => exact execFrameTransmitted_parts s ch
  | channelError ch kind => exact liveWhen_parts (by simp)
  | channelRecovery ch => exact liveWhen_parts (by simp)
  | loopBurstEnd l => exact execLoopBurstEnd_parts s l

end Sys2Proof.Machine

/-! PROOF. The stack of a compose (R59) and the void marks it leaves at a lamp (R65, R66). -/

namespace Sys2Proof.Machine

/-! ## The stack order -/

theorem mem_stack {c : Compose} {i : LayerNo} : i ∈ c.stack ↔ 0 < c.layers[i].presence := by
  simp [Compose.stack, List.mem_flatMap]

/-- One tier after another, and within a tier one number after another (R59). -/
theorem stack_pairwise (c : Compose) :
    c.stack.Pairwise fun i j => c.layers[i].tier < c.layers[j].tier ∨ c.layers[i].tier = c.layers[j].tier ∧ i < j := by
  refine List.pairwise_flatMap.mpr ⟨fun t _ => ?_, ?_⟩
  · refine List.Pairwise.imp_of_mem (fun {i j} hi hj hij => .inr ⟨?_, hij⟩) ((List.pairwise_lt_finRange 16).filter _)
    have hti := (List.mem_filter.mp hi).2
    have htj := (List.mem_filter.mp hj).2
    simp only [Bool.and_eq_true, beq_iff_eq] at hti htj
    rw [hti.2, htj.2]
  · refine (List.pairwise_lt_finRange 6).imp fun {t u} htu i hi j hj => .inl ?_
    have hti := (List.mem_filter.mp hi).2
    have htj := (List.mem_filter.mp hj).2
    simp only [Bool.and_eq_true, beq_iff_eq] at hti htj
    rwa [hti.2, htj.2]

/-! ## Layers that are skipped -/

theorem inHole_iff {h : Option LampRange} {lam : LampNo} :
    inHole h lam = true ↔ ∃ r, h = some r ∧ r.first ≤ lam.val ∧ lam.val < r.first + r.count := by
  cases h <;> simp [inHole, inRange]

theorem skipped_iff (c : Compose) (z : ZoneNo) (lam : LampNo) (y : ComposeLayer) : skipped c z lam y = true ↔
    y.ed.zones.getLsbD z.val = false ∨
    (∃ h, (y.ed.hole1 = some h ∨ y.ed.hole2 = some h) ∧ h.first ≤ lam.val ∧ lam.val < h.first + h.count) ∨
    ∃ o, c.holders[z] = some o ∧ y.owner ≠ some o := by
  have hholder : (c.holders[z].isSome && y.owner != c.holders[z]) = true ↔ ∃ o, c.holders[z] = some o ∧ y.owner ≠ some o := by
    cases c.holders[z] <;> simp
  rw [skipped, Bool.or_eq_true, Bool.or_eq_true, Bool.or_eq_true, inHole_iff, inHole_iff, hholder, or_assoc, or_assoc]
  simp only [Bool.not_eq_true', or_and_right, exists_or, or_assoc]

/-! ## What one layer does to the void mark -/

/-- The layer voids a lamp of the zone: not skipped there, void, of alpha above 0 (R66). -/
def voidsAt (c : Compose) (z : ZoneNo) (lam : LampNo) (i : LayerNo) : Bool :=
  !skipped c z lam c.layers[i] && c.layers[i].isVoid && alphaOf c.layers[i].ed.opacity 255 c.layers[i].presence != 0

/-- The layer covers the lamp whole: not skipped there, not void, a REPLACE of full alpha (R66). -/
def repairsAt (c : Compose) (z : ZoneNo) (lam : LampNo) (q : Nat) (i : LayerNo) : Bool :=
  !skipped c z lam c.layers[i] && !c.layers[i].isVoid && c.layers[i].ed.blend == .replace &&
    alphaOf c.layers[i].ed.opacity (sourceColour c c.layers[i] z q).coverage c.layers[i].presence == 65535

theorem layerAt_isVoid (c : Compose) (z : ZoneNo) (lam : LampNo) (q : Nat) (acc : Acc) (i : LayerNo) :
    (layerAt c z lam q acc i).isVoid = (voidsAt c z lam i || acc.isVoid && !repairsAt c z lam q i) := by
  unfold layerAt voidsAt repairsAt
  dsimp only
  generalize c.layers[i] = y
  cases skipped c z lam y with
  | true => simp
  | false =>
    cases y.isVoid with
    | true => by_cases ha : alphaOf y.ed.opacity 255 y.presence = 0 <;> simp [ha, Acc.voided]
    | false =>
      by_cases ha : alphaOf y.ed.opacity (sourceColour c y z q).coverage y.presence = 0 <;> simp [ha, Acc.blended]

theorem layerAt_voiders (c : Compose) (z : ZoneNo) (lam : LampNo) (q : Nat) (acc : Acc) (i j : LayerNo) :
    (layerAt c z lam q acc i).voiders.getLsbD j.val =
      (acc.voiders.getLsbD j.val || decide (j = i) && voidsAt c z lam i) := by
  unfold layerAt voidsAt
  dsimp only
  generalize c.layers[i] = y
  cases skipped c z lam y with
  | true => simp
  | false =>
    cases y.isVoid with
    | true =>
      by_cases ha : alphaOf y.ed.opacity 255 y.presence = 0
      · simp [ha]
      · have hb : (alphaOf y.ed.opacity 255 y.presence != 0) = true := bne_iff_ne.mpr ha
        simp [ha, hb, Acc.voided, Fin.ext_iff, eq_comm (a := j.val)]
    | false =>
      by_cases ha : alphaOf y.ed.opacity (sourceColour c y z q).coverage y.presence = 0 <;> simp [ha, Acc.blended]

/-! ## What a whole stack does -/

theorem stackAt_concat (c : Compose) (order : List LayerNo) (i : LayerNo) (z : ZoneNo) (lam : LampNo) (q : Nat) :
    stackAt c (order ++ [i]) z lam q = layerAt c z lam q (stackAt c order z lam q) i :=
  List.foldl_concat ..

/-- The last layer either voids the lamp, or leaves a mark that it does not repair (R66). -/
theorem stackAt_isVoid (c : Compose) (z : ZoneNo) (lam : LampNo) (q : Nat) (order : List LayerNo) :
    (stackAt c order z lam q).isVoid = true ↔
      ∃ before i after, order = before ++ i :: after ∧ voidsAt c z lam i = true ∧ ∀ j ∈ after, repairsAt c z lam q j = false := by
  induction order using List.reverseRecOn with
  | nil => simp [stackAt, Acc.start]
  | append_singleton order k ih =>
    rw [stackAt_concat, layerAt_isVoid, Bool.or_eq_true, Bool.and_eq_true, Bool.not_eq_true', ih]
    constructor
    · rintro (hk | ⟨⟨before, i, after, rfl, hi, hafter⟩, hk⟩)
      · exact ⟨order, k, [], rfl, hk, by simp⟩
      · refine ⟨before, i, after ++ [k], by simp, hi, fun j hj => ?_⟩
        rcases List.mem_append.mp hj with hj | hj
        · exact hafter j hj
        · exact List.mem_singleton.mp hj ▸ hk
    · rintro ⟨before, i, after, heq, hi, hafter⟩
      induction after using List.reverseRecOn with
      | nil =>
        obtain ⟨-, rfl⟩ := List.append_inj' heq rfl |>.imp_right List.singleton_inj.mp
        exact .inl hi
      | append_singleton after j _ =>
        rw [← List.cons_append, ← List.append_assoc] at heq
        obtain ⟨rfl, rfl⟩ := List.append_inj' heq rfl |>.imp_right List.singleton_inj.mp
        exact .inr ⟨⟨before, i, after, rfl, hi, fun m hm => hafter m (by simp [hm])⟩, hafter k (by simp)⟩

theorem stackAt_voiders (c : Compose) (z : ZoneNo) (lam : LampNo) (q : Nat) (order : List LayerNo) (i : LayerNo) :
    (stackAt c order z lam q).voiders.getLsbD i.val = true ↔ i ∈ order ∧ voidsAt c z lam i = true := by
  induction order using List.reverseRecOn with
  | nil => simp [stackAt, Acc.start]
  | append_singleton order k ih =>
    rw [stackAt_concat, layerAt_voiders, Bool.or_eq_true, Bool.and_eq_true, decide_eq_true_eq, ih, List.mem_append,
      List.mem_singleton, or_and_right]
    exact or_congr_right (and_congr_right fun h => by rw [h])

/-- Settles O22: stack order, skipping and void marks, each from its own lemma. -/
theorem voidMarkFollowsTheStack : Obligations.VoidMarkFollowsTheStack :=
  ⟨fun c => ⟨fun _ => mem_stack, stack_pairwise c⟩, skipped_iff,
    fun c z lam q order => ⟨stackAt_isVoid c z lam q order, stackAt_voiders c z lam q order⟩⟩

/-- A layer of presence 0 is in no stack, so it voids no lamp (R59, R67). -/
theorem layerVoided_of_presence_zero {c : Compose} {i : LayerNo} (h : c.layers[i].presence = 0) :
    layerVoided c.lamps i = false := by
  have hout : ∀ lam, (lampOut c c.stack lam).voiders.getLsbD i.val = false := by
    intro lam
    unfold lampOut
    split
    · simp [LampOut.dark]
    · split
      · simp [LampOut.dark]
      · split
        · simp [LampOut.dark]
        · rw [← Bool.not_eq_true, stackAt_voiders, mem_stack, h]
          exact fun hv => absurd hv.1 (Nat.lt_irrefl 0)
  simp only [layerVoided, Compose.lamps, List.any_eq_false, Bool.not_eq_true, Vector.mem_toList_iff, Vector.mem_iff_getElem]
  rintro y ⟨j, hj, rfl⟩
  rw [tabulate_read]
  exact hout _

end Sys2Proof.Machine

/-! PROOF. What the operations on layers keep of a layer: who holds it, that free contents stay free contents, and which
stream queue its sources name. -/

namespace Sys2Proof.Machine

/-! ## Folds -/

/-- A fold of steps that are each related to what they start from is related to what it starts from. -/
theorem foldl_related {α : Type} {R : State → State → Prop} (refl : ∀ s, R s s)
    (trans : ∀ {s t u}, R s t → R t u → R s u) {f : State → α → State} (h : ∀ s a, R s (f s a)) (l : List α) (s : State) :
    R s (l.foldl f s) := by
  induction l generalizing s with
  | nil => exact refl s
  | cons a l ih => exact trans (h s a) (ih _)

/-! ## One layer -/

/-- From one record to the next the layer stays with its owner, FREE or not. A FREE layer has no owner in every state that
the laws allow. -/
def SameHolding (l l' : Layer) : Prop :=
  (l.state = .free → l.owner = none) → (l'.state = .free ↔ l.state = .free) ∧ l'.owner = l.owner

/-- The layer stays with its owner, free contents stay as they are, and presence stays in range. -/
structure LayerKept (l l' : Layer) : Prop where
  holding : SameHolding l l'
  freed : l = Layer.freed → l' = Layer.freed
  presence : l.presence ≤ 65535 → l'.presence ≤ 65535

/-- The layer's sources name the same queue besides (R25). -/
structure LayerMoved (l l' : Layer) : Prop extends LayerKept l l' where
  names : ∀ q, namesQueue l' q ↔ namesQueue l q

theorem SameHolding.trans {l m n : Layer} (h : SameHolding l m) (g : SameHolding m n) : SameHolding l n := by
  intro hl
  obtain ⟨h1, h2⟩ := h hl
  obtain ⟨g1, g2⟩ := g fun hm => h2 ▸ hl (h1.mp hm)
  exact ⟨g1.trans h1, g2.trans h2⟩

theorem LayerKept.trans {l m n : Layer} (h : LayerKept l m) (g : LayerKept m n) : LayerKept l n :=
  ⟨h.holding.trans g.holding, fun e => g.freed (h.freed e), fun e => g.presence (h.presence e)⟩

theorem LayerMoved.trans {l m n : Layer} (h : LayerMoved l m) (g : LayerMoved m n) : LayerMoved l n :=
  ⟨h.toLayerKept.trans g.toLayerKept, fun q => (g.names q).trans (h.names q)⟩

theorem LayerMoved.refl (l : Layer) : LayerMoved l l :=
  ⟨⟨fun _ => ⟨Iff.rfl, rfl⟩, id, id⟩, fun _ => Iff.rfl⟩

theorem LayerKept.refl (l : Layer) : LayerKept l l := (LayerMoved.refl l).toLayerKept

/-- A layer that is not FREE and stays so, with its owner. -/
theorem LayerKept.of_held {l l' : Layer} (h : l.state ≠ .free) (h' : l'.state ≠ .free) (ho : l'.owner = l.owner)
    (hp : l'.presence = l.presence) : LayerKept l l' :=
  ⟨fun _ => ⟨iff_of_false h' h, ho⟩, fun e => absurd (e ▸ rfl) h, fun e => hp ▸ e⟩

/-- A change of a layer that touches neither its state nor its owner. -/
theorem LayerKept.of_same {l l' : Layer} (hs : l'.state = l.state) (ho : l'.owner = l.owner)
    (hf : l = Layer.freed → l' = Layer.freed) (hp : l.presence ≤ 65535 → l'.presence ≤ 65535) : LayerKept l l' :=
  ⟨fun _ => ⟨by rw [hs], ho⟩, hf, hp⟩

/-! ## Every layer of a state -/

def LayersKept (s t : State) : Prop := ∀ i : LayerNo, LayerKept s.lt.layers[i] t.lt.layers[i]
def LayersMoved (s t : State) : Prop := ∀ i : LayerNo, LayerMoved s.lt.layers[i] t.lt.layers[i]

theorem LayersMoved.kept {s t : State} (h : LayersMoved s t) : LayersKept s t := fun i => (h i).toLayerKept
theorem LayersMoved.refl (s : State) : LayersMoved s s := fun _ => LayerMoved.refl _
theorem LayersKept.refl (s : State) : LayersKept s s := fun _ => LayerKept.refl _

theorem LayersMoved.trans {s t u : State} (h : LayersMoved s t) (g : LayersMoved t u) : LayersMoved s u :=
  fun i => (h i).trans (g i)

theorem LayersKept.trans {s t u : State} (h : LayersKept s t) (g : LayersKept t u) : LayersKept s u :=
  fun i => (h i).trans (g i)

/-- Steps that leave the layers alone. -/
theorem LayersMoved.of_parts {s t : State} (h : layerParts t = layerParts s) : LayersMoved s t := by
  intro i
  rw [(layerParts_eq_iff.mp h).1]
  exact LayerMoved.refl _

theorem LayersMoved.mapLayers (s : State) {f : LayerNo → Layer → Layer} (h : ∀ i l, LayerMoved l (f i l)) :
    LayersMoved s (s.mapLayers f) := by
  intro i
  rw [mapLayers_layers, mapAt_get]
  exact h i _

theorem LayersKept.mapLayers (s : State) {f : LayerNo → Layer → Layer} (h : ∀ i l, LayerKept l (f i l)) :
    LayersKept s (s.mapLayers f) := by
  intro i
  rw [mapLayers_layers, mapAt_get]
  exact h i _

theorem LayersMoved.setLayer {s : State} {i : LayerNo} {l : Layer} (h : LayerMoved s.lt.layers[i] l) :
    LayersMoved s (s.setLayer i l) := by
  intro j
  rw [setLayer_layers, setAt_get]
  split
  · rename_i e; exact e ▸ h
  · exact LayerMoved.refl _

theorem LayersKept.setLayer {s : State} {i : LayerNo} {l : Layer} (h : LayerKept s.lt.layers[i] l) :
    LayersKept s (s.setLayer i l) := by
  intro j
  rw [setLayer_layers, setAt_get]
  split
  · rename_i e; exact e ▸ h
  · exact LayerKept.refl _

/-! ## Operations that keep the sources as well -/

theorem putValue_queue (ed : Editable) (tgt : Target) (v : Triple) :
    streamQueue? (putValue ed tgt v).source = streamQueue? ed.source := by
  cases tgt with
  | colour => cases h : ed.source <;> simp [putValue, h, streamQueue?]
  | _ => rfl

theorem heldFields_queue (s : State) (cue : Cue) (ed : Editable) :
    streamQueue? (s.heldFields cue ed).source = streamQueue? ed.source := by
  unfold State.heldFields
  induction s.soundTracks cue generalizing ed with
  | nil => rfl
  | cons tr rest ih => rw [List.foldl_cons, ih, putValue_queue]

theorem endedLayer_moved (s : State) (cue : Cue) (l : Layer) : LayerMoved l (s.endedLayer cue l) := by
  unfold State.endedLayer
  split
  · exact LayerMoved.refl l
  · rename_i st hst
    cases cue.ending with
    | hold =>
      refine ⟨.of_held hst hst rfl rfl, fun q => ?_⟩
      simp only [namesQueue, heldFields_queue]
    | restore => exact LayerMoved.refl l
    | hide =>
      refine ⟨.of_held hst ?_ rfl rfl, fun q => Iff.rfl⟩
      dsimp only
      split
      · nofun
      · exact hst

theorem naturalEnd_moved (s : State) (c : CueNo) (cue : Cue) : LayersMoved s (s.naturalEnd c cue) :=
  (LayersMoved.setLayer (endedLayer_moved s cue _)).trans (.of_parts (endCue_parts ..))

theorem endIfDue_moved (s : State) (tf : Time) (c : CueNo) : LayersMoved s (s.endIfDue tf c) := by
  unfold State.endIfDue
  split
  · exact .refl s
  · split
    · exact .of_parts (endCue_parts ..)
    · split
      · exact naturalEnd_moved s c _
      · exact .refl s

theorem cueEnds_moved (s : State) (tf : Time) : LayersMoved s (s.cueEnds tf) :=
  foldl_related LayersMoved.refl LayersMoved.trans (fun u c => endIfDue_moved u tf c) _ s

/-- A start on a layer that is not FREE shows it or leaves it (R105). -/
theorem startCueAt_moved {s : State} {cue : Cue} (h : s.lt.layers[cue.layer].state ≠ .free) (tf : Time) (c : CueNo)
    (start : Time) : LayersMoved s (s.startCueAt tf c cue start) := by
  have key : ∀ u : State, layerParts u = layerParts s →
      LayersMoved s (if cue.autoShow = true then u.setLayer cue.layer { u.lt.layers[cue.layer] with state := .shown } else u) := by
    intro u hu
    have hlayer : u.lt.layers[cue.layer] = s.lt.layers[cue.layer] := by rw [(layerParts_eq_iff.mp hu).1]
    split
    · exact (LayersMoved.of_parts hu).trans (.setLayer ⟨.of_held (hlayer ▸ h) (by nofun) rfl rfl, fun q => Iff.rfl⟩)
    · exact .of_parts hu
  unfold State.startCueAt
  dsimp only
  apply key
  split <;> simp

theorem resolve_moved (s : State) (tf : Time) (e : StartEntry) : LayersMoved s (s.resolve tf e) := by
  unfold State.resolve
  split
  · exact .refl s
  · rename_i cue _
    dsimp only
    split
    · exact .of_parts (endCue_parts ..)
    · rename_i h
      have hends := endCuesWhere_parts s (activeOn cue.layer) .preempted
      refine (LayersMoved.of_parts hends).trans (startCueAt_moved ?_ tf _ _)
      rw [(layerParts_eq_iff.mp hends).1]
      exact fun hf => h (.inl hf)

theorem dueStarts_moved (s : State) (tf : Time) : LayersMoved s (s.dueStarts tf) :=
  (LayersMoved.of_parts (setStartQueue_parts s (s.ce.queue.filter fun e => !startDue tf e))).trans
    (foldl_related LayersMoved.refl LayersMoved.trans (fun u e => resolve_moved u tf e) _ _)

theorem stepPresence_le (p : Nat) (full : Bool) (fadeIn fadeOut : Nat) {presence : Nat} (h : presence ≤ 65535) :
    stepPresence p full fadeIn fadeOut presence ≤ 65535 := by
  unfold stepPresence
  repeat' split
  all_goals omega

theorem stepPresences_moved (s : State) : LayersMoved s s.stepPresences := by
  refine LayersMoved.mapLayers s fun _ l => ?_
  split
  · exact .refl l
  · rename_i h
    refine ⟨.of_same rfl rfl (fun e => absurd (e ▸ rfl) h) (stepPresence_le _ _ _ _), fun _ => Iff.rfl⟩

theorem detachFrom_moved (n : SlotNo) (l : Layer) : LayerMoved l (detachFrom n l) := by
  refine ⟨.of_same rfl rfl (fun e => by subst e; rfl) id, fun q => ?_⟩
  cases hc : l.copy <;> simp [namesQueue, detachFrom, hc]

theorem deleteSlot_moved (s : State) (n : SlotNo) : LayersMoved s (s.deleteSlot n) :=
  (LayersMoved.of_parts (setSlot_parts s n none)).trans (.mapLayers _ fun _ l => detachFrom_moved n l)

theorem forgetSlots_moved (s : State) (o : Origin) : LayersMoved s (s.forgetSlots o) := by
  refine foldl_related LayersMoved.refl LayersMoved.trans (fun u n => ?_) _ s
  split
  · exact deleteSlot_moved u n
  · exact .refl u

theorem darkLayers_moved (s : State) : LayersMoved s s.darkLayers :=
  LayersMoved.mapLayers s fun _ l =>
    ⟨.of_same rfl rfl (fun e => by subst e; rfl) (fun _ => Nat.zero_le _), fun _ => Iff.rfl⟩

theorem ownedBy_iff {o : Origin} {l : Layer} : ownedBy o l = true ↔ l.state ≠ .free ∧ l.owner = some o := by
  simp [ownedBy]

/-- A copy filled from the live record names the queue the live record names. -/
theorem filledCopy_names (l : Layer) (q : QueueNo) :
    streamQueue? (filledCopy l).ed.source = some q → namesQueue l q := by
  unfold filledCopy namesQueue
  cases hc : l.copy with
  | none => exact .inl
  | some c => exact fun h => .inr ⟨c, rfl, h⟩

theorem names_filledCopy (l : Layer) (q : QueueNo) (c : Staged) (hc : c.ed = (filledCopy l).ed) :
    namesQueue { l with copy := some c } q ↔ namesQueue l q := by
  constructor
  · rintro (h | ⟨d, hd, h⟩)
    · exact .inl h
    · obtain rfl := Option.some.inj hd
      exact filledCopy_names l q (hc ▸ h)
  · rintro (h | ⟨d, hd, h⟩)
    · exact .inl h
    · exact .inr ⟨c, rfl, by rwa [hc, filledCopy, hd]⟩

theorem setShown_moved {s : State} {o : Origin} {i : LayerNo} (h : s.lt.layers[i].state ≠ .free) (shown : Bool) :
    LayersMoved s (s.setShown o i shown) := by
  refine LayersMoved.setLayer ?_
  cases s.gate o with
  | opened => exact ⟨.of_held h (by dsimp only [gated]; split <;> nofun) rfl rfl, fun _ => Iff.rfl⟩
  | closed _ | opening => exact ⟨.of_held h h rfl rfl, fun q => names_filledCopy _ q _ rfl⟩

/-! ## Operations that change the sources -/

theorem discardCopies_kept (s : State) (o : Origin) : LayersKept s (s.discardCopies o) := by
  refine LayersKept.mapLayers s fun _ l => ?_
  split
  · exact .of_same rfl rfl (fun e => by subst e; rfl) id
  · exact .refl l

theorem openGates_kept (s : State) : LayersKept s s.openGates :=
  LayersKept.mapLayers s fun _ _ => .of_same rfl rfl (fun e => by subst e; rfl) id

/-- A copy goes live under an OPENING gate alone, so on a layer with an owner (R35). -/
theorem applyCopy_kept {gates : Vector Gate 4} {l : Layer} (h : ownerOpening gates l = true) :
    LayerKept l (applyCopy l) := by
  unfold applyCopy
  cases hc : l.copy with
  | none => exact .refl l
  | some c =>
    have howner : l.owner ≠ none := by rintro e; simp [ownerOpening, e] at h
    refine ⟨fun hfree => ⟨iff_of_false ?_ fun e => howner (hfree e), rfl⟩, fun e => ?_, id⟩
    · dsimp only; split <;> nofun
    · subst e; cases hc

theorem applyGates_kept (s : State) : LayersKept s s.applyGates := by
  refine LayersKept.mapLayers s (f := fun _ l => if ownerOpening s.lt.gates l then applyCopy l else l) fun _ l => ?_
  split
  · exact applyCopy_kept (by assumption)
  · exact .refl l

theorem gated_kept {l : Layer} (g : Gate) {live : Layer → Layer} (staged : Staged → Staged) (h : l.state ≠ .free)
    (hl : LayerKept l (live l)) : LayerKept l (gated g live staged l) := by
  cases g with
  | opened => exact hl
  | closed _ | opening => exact .of_held h h rfl rfl

theorem makeEdit_kept {s : State} {i : LayerNo} (h : s.lt.layers[i].state ≠ .free) (o : Origin) (e : Edit) :
    LayersKept s (s.makeEdit o i e) := by
  have key : ∀ (u : State) (l : Layer), u.lt = s.lt → LayerKept s.lt.layers[i] l →
      LayersKept s (u.setLayer i l).releaseQueues := by
    intro u l hu hl j
    change LayerKept _ (setAt u.lt.layers i l)[j]
    rw [hu]
    exact LayersKept.setLayer (s := s) hl j
  unfold State.makeEdit
  dsimp only
  split
  · exact key _ _ rfl (gated_kept _ _ h (.of_held h h rfl rfl))
  · exact key _ _ rfl (gated_kept _ _ h (.of_held h h rfl rfl))

end Sys2Proof.Machine

/-! PROOF. Mark sets, folds over the records of a table, freeing layers, and the void flags that a compose completion
settles. -/

namespace Sys2Proof.Machine

/-! ## Mark sets -/

theorem foldl_marks_getLsbD {n : Nat} (f : Fin n → Bool) (l : List (Fin n)) (m : BitVec n) (i : Fin n) :
    (l.foldl (fun m i => if f i then m ||| BitVec.twoPow n i.val else m) m).getLsbD i.val =
      (m.getLsbD i.val || decide (i ∈ l) && f i) := by
  induction l generalizing m with
  | nil => simp
  | cons a l ih =>
    rw [List.foldl_cons, ih]
    by_cases hia : i = a
    · subst hia
      by_cases hf : f i = true <;> simp [hf]
    · have hne : a.val ≠ i.val := fun e => hia (Fin.ext e.symm)
      by_cases hf : f a = true <;> simp [hf, hia, hne.symm]

/-- A mark set holds just the marks that it is given. -/
theorem markSet_getLsbD {n : Nat} (f : Fin n → Bool) (i : Fin n) : (markSet f).getLsbD i.val = f i := by
  rw [markSet, foldl_marks_getLsbD]
  simp

/-! ## Folds over the records of a table -/

/-- A fold in which step `i` changes record `i` alone, by a change that reads no more of the state than `part`, changes each
record of its list once. -/
theorem foldl_records {n : Nat} {α β : Type} (table : State → Vector α n) (part : State → β) {f : State → Fin n → State}
    (g : β → Fin n → α → α) (hpart : ∀ s i, part (f s i) = part s)
    (hstep : ∀ s i j, (table (f s i))[j] = if j = i then g (part s) i (table s)[i] else (table s)[j])
    (l : List (Fin n)) (hl : l.Nodup) (s : State) (j : Fin n) :
    (table (l.foldl f s))[j] = if j ∈ l then g (part s) j (table s)[j] else (table s)[j] := by
  induction l generalizing s with
  | nil => simp
  | cons i l ih =>
    obtain ⟨hi, hl⟩ := List.nodup_cons.mp hl
    rw [List.foldl_cons, ih hl, hpart, hstep]
    by_cases hji : j = i
    · subst hji; simp [hi]
    · simp [hji]

/-- The same over all records of the table. -/
theorem foldl_all_records {n : Nat} {α β : Type} (table : State → Vector α n) (part : State → β)
    {f : State → Fin n → State} (g : β → Fin n → α → α) (hpart : ∀ s i, part (f s i) = part s)
    (hstep : ∀ s i j, (table (f s i))[j] = if j = i then g (part s) i (table s)[i] else (table s)[j])
    (s : State) (j : Fin n) : (table ((List.finRange n).foldl f s))[j] = g (part s) j (table s)[j] := by
  rw [foldl_records table part g hpart hstep _ (List.nodup_finRange n), if_pos (List.mem_finRange j)]

/-! ## Freeing layers -/

theorem freeLayersWhere_layer (s : State) (p : LayerNo → Layer → Bool) (i : LayerNo) :
    (s.freeLayersWhere p).lt.layers[i] = if p i s.lt.layers[i] = true then Layer.freed else s.lt.layers[i] :=
  mapAt_get ..

theorem freeLayersWhere_inFlight (s : State) (p : LayerNo → Layer → Bool) :
    (s.freeLayersWhere p).co.inFlight = s.co.inFlight.map (Compose.markGone (markSet fun i => p i s.lt.layers[i])) := rfl

/-- A layer is marked gone when it was, or when it is freed now (R67). -/
theorem markGone_gone (c : Compose) (f : LayerNo → Bool) (i : LayerNo) :
    (c.markGone (markSet f)).gone.getLsbD i.val = (c.gone.getLsbD i.val || f i) := by
  rw [Compose.markGone, BitVec.getLsbD_or, markSet_getLsbD]

/-! ## Void flags at a completion -/

/-- The void flag that a completion leaves on a layer (R31, R56, R67). -/
def settledVoid (c : Compose) (i : LayerNo) (l : Layer) : Layer :=
  { l with void := if c.gone.getLsbD i.val = true then l.void else !c.inSetup && layerVoided c.lamps i }

theorem settledVoid_gone {c : Compose} {i : LayerNo} (h : c.gone.getLsbD i.val = true) (l : Layer) :
    settledVoid c i l = l := by
  simp only [settledVoid, h, if_true]

theorem settledVoid_setup {c : Compose} {i : LayerNo} (h : ¬c.gone.getLsbD i.val = true) (hs : c.inSetup = true)
    (l : Layer) : settledVoid c i l = { l with void := false } := by
  simp only [settledVoid, if_neg h, hs, Bool.not_true, Bool.false_and]

theorem settledVoid_run {c : Compose} {i : LayerNo} (h : ¬c.gone.getLsbD i.val = true) (hs : ¬c.inSetup = true)
    (l : Layer) : settledVoid c i l = { l with void := layerVoided c.lamps i } := by
  simp only [settledVoid, if_neg h, hs, Bool.not_false, Bool.true_and]

theorem notifyOwner_frame (s : State) (o : Option Origin) (n : Notice) :
    s.notifyOwner o n = { s with mp := (s.notifyOwner o n).mp } := by
  cases o with
  | none => rfl
  | some o => exact (notify_frame s o n).trans (by rw [State.notifyOwner, notify_frame])

/-- Settling one void flag changes that layer's record and the ports. -/
theorem settleVoid_frame (s : State) (c : Compose) (i : LayerNo) :
    s.settleVoid c c.lamps i =
      { s with mp := (s.settleVoid c c.lamps i).mp
               lt := { s.lt with layers := setAt s.lt.layers i (settledVoid c i s.lt.layers[i]) } } := by
  unfold State.settleVoid
  dsimp only
  split
  · rw [settledVoid_gone (by assumption), setAt_self]
  · split
    · rw [settledVoid_setup (by assumption) (by assumption)]; rfl
    · rw [settledVoid_run (by assumption) (by assumption)]
      split
      · rename_i h
        rw [← h, setAt_self]
      · rw [notifyOwner_frame]; rfl

theorem settleVoid_layer (s : State) (c : Compose) (i j : LayerNo) :
    (s.settleVoid c c.lamps i).lt.layers[j] = if j = i then settledVoid c i s.lt.layers[i] else s.lt.layers[j] := by
  have h : (s.settleVoid c c.lamps i).lt.layers = setAt s.lt.layers i (settledVoid c i s.lt.layers[i]) := by
    rw [settleVoid_frame]
  simp only [h, setAt_get]

/-- Settling every void flag changes the layers and the ports alone. -/
theorem settleVoids_frame (s : State) (c : Compose) (l : List LayerNo) :
    let t := l.foldl (fun (u : State) i => u.settleVoid c c.lamps i) s
    t = { s with mp := t.mp, lt := { s.lt with layers := t.lt.layers } } := by
  refine foldl_related (R := fun s t => t = { s with mp := t.mp, lt := { s.lt with layers := t.lt.layers } })
    (fun _ => rfl) (fun {s t u} h g => ?_) (fun u i => ?_) l s
  · rw [g, h]
  · rw [settleVoid_frame]

/-- The void flags of a completion settled, the compose no longer in flight. -/
def voidsSettled (s : State) (c : Compose) : State :=
  (List.finRange 16).foldl (fun s i => s.settleVoid c c.lamps i) { s with co := { s.co with inFlight := none } }

/-- After the void flags a completion changes nothing that the laws of layers read. -/
theorem completeCompose_parts (s : State) (c : Compose) :
    layerParts (s.completeCompose c) = layerParts (voidsSettled s c) :=
  (evalWatches_parts ..).trans ((loopsAtCompletion_parts ..).trans
    (foldl_keeps layerParts (fun u l => settleLimit_parts u _ l) _ _))

theorem voidsSettled_frame (s : State) (c : Compose) :
    voidsSettled s c = { s with mp := (voidsSettled s c).mp
                                lt := { s.lt with layers := (voidsSettled s c).lt.layers }
                                co := { s.co with inFlight := none } } :=
  settleVoids_frame { s with co := { s.co with inFlight := none } } c (List.finRange 16)

/-- What a completion does to a layer: it settles the void flag, and nothing else (R67). -/
theorem completeCompose_layer (s : State) (c : Compose) (i : LayerNo) :
    (s.completeCompose c).lt.layers[i] = settledVoid c i s.lt.layers[i] := by
  simp only [(layerParts_eq_iff.mp (completeCompose_parts s c)).1]
  exact foldl_all_records (·.lt.layers) (fun _ => ()) (fun _ i l => settledVoid c i l) (fun _ _ => rfl)
    (fun u i j => settleVoid_layer u c i j) { s with co := { s.co with inFlight := none } } i

/-- What a completion leaves of the other parts that the laws of layers read. -/
theorem completeCompose_rest (s : State) (c : Compose) :
    (s.completeCompose c).ss.queues = s.ss.queues ∧ (s.completeCompose c).co.inFlight = none ∧
      (s.completeCompose c).ot.recs = s.ot.recs ∧ (s.completeCompose c).inSetup = s.inSetup := by
  obtain ⟨-, hq, hf, hr, hs⟩ := layerParts_eq_iff.mp (completeCompose_parts s c)
  rw [hq, hf, hr, hs, voidsSettled_frame]
  exact ⟨rfl, rfl, rfl, rfl⟩

end Sys2Proof.Machine

/-! PROOF. How a law of layers or queues goes along a step: by the parts it reads, or by one of the commands that write
them. What the Cue Engine's starts and ends, and a frame start up to its compose, leave as it is. -/

namespace Sys2Proof.Machine

/-! ## Laws that read those parts alone -/

/-- The law holds of every state that agrees with one that has it. -/
def ReadsParts (law : State → Prop) : Prop := ∀ s t, layerParts t = layerParts s → law s → law t

/-- A request keeps such a law when its owning block's work does. -/
theorem whenNext_request {law : State → Prop} (hlaw : ReadsParts law) {s : State} (hs : law s) {k : Option Kind}
    {o : Origin} {serve : Taken → State → Served} (hserve : ∀ tk u, law u → WhenServed law (serve tk u)) :
    WhenNext law (takeRequest k o s fun tk u => answer tk u (serve tk u)) :=
  whenNext_takeRequest hs (hlaw s _ rfl hs) (fun _ => hlaw s _ rfl hs) fun rq =>
    answer_keeps (fun _ => hlaw s _ rfl hs) (hserve ⟨o, rq⟩ _ (hlaw s _ rfl hs))

/-- Every step keeps such a law when the commands that write those parts do. -/
theorem keptByStep_of_parts {law : State → Prop} (hlaw : ReadsParts law)
    (hexec : ∀ c s, setsLayerParts c = true → law s → WhenNext law (exec c s)) : KeptByStep law := by
  refine keptByStep_of_exec (fun s q => hlaw _ _ rfl) (fun s => hlaw _ _ (microsecond_parts s)) fun c s hs => ?_
  cases hc : setsLayerParts c with
  | true => exact hexec c s hc hs
  | false => exact fun t ht => hlaw _ _ (exec_sameParts c hc s t ht) hs

/-- A reset, of whatever straps and lines, leaves those parts as power-on does. -/
theorem fresh_parts (strap : Fin 8) (raw : LineNo → Bool) (pending : List Instr) (n : Nat) :
    layerParts (State.fresh strap raw pending n) = layerParts State.reset := rfl

theorem restarted_parts (s : State) : layerParts s.restarted = layerParts State.reset := rfl

/-! ## The Cue Engine's starts and ends -/

/-- Nothing differs but ports, cue records and layers. -/
def CueFrame (s t : State) : Prop :=
  t = { s with mp := { s.mp with ports := t.mp.ports }
               ce := { s.ce with cues := t.ce.cues }
               lt := { s.lt with layers := t.lt.layers } }

theorem CueFrame.refl (s : State) : CueFrame s s := rfl

theorem CueFrame.trans {s t u : State} (h : CueFrame s t) (g : CueFrame t u) : CueFrame s u := by
  unfold CueFrame at *
  rw [g, h]

theorem CueFrame.notify (s : State) (o : Origin) (n : Notice) : CueFrame s (s.notify o n) := by
  have h := notify_frame s o n
  generalize s.notify o n = t at h ⊢
  rw [h]
  rfl

theorem CueFrame.setCue (s : State) (c : CueNo) (x : Option Cue) : CueFrame s (s.setCue c x) := rfl
theorem CueFrame.setLayer (s : State) (i : LayerNo) (l : Layer) : CueFrame s (s.setLayer i l) := rfl

theorem CueFrame.endCue (s : State) (c : CueNo) (cue : Cue) (why : EndReason) : CueFrame s (s.endCue c cue why) :=
  (CueFrame.setCue ..).trans (.notify ..)

theorem CueFrame.endCuesWhere (s : State) (p : Cue → Bool) (why : EndReason) : CueFrame s (s.endCuesWhere p why) := by
  refine foldl_related CueFrame.refl CueFrame.trans (fun u c => ?_) _ s
  split
  · exact .refl u
  · split
    · exact .endCue ..
    · exact .refl u

theorem CueFrame.startCueAt (s : State) (tf : Time) (c : CueNo) (cue : Cue) (start : Time) :
    CueFrame s (s.startCueAt tf c cue start) := by
  have key : ∀ u : State, CueFrame s u →
      CueFrame s (if cue.autoShow = true then u.setLayer cue.layer { u.lt.layers[cue.layer] with state := .shown } else u) := by
    intro u hu
    split
    · exact hu.trans (.setLayer ..)
    · exact hu
  unfold State.startCueAt
  dsimp only
  apply key
  split
  · exact (CueFrame.setCue ..).trans (.notify ..)
  · exact .setCue ..

theorem CueFrame.resolve (s : State) (tf : Time) (e : StartEntry) : CueFrame s (s.resolve tf e) := by
  unfold State.resolve
  split
  · exact .refl s
  · dsimp only
    split
    · exact .endCue ..
    · exact (CueFrame.endCuesWhere ..).trans (.startCueAt ..)

theorem CueFrame.naturalEnd (s : State) (c : CueNo) (cue : Cue) : CueFrame s (s.naturalEnd c cue) :=
  (CueFrame.setLayer ..).trans (.endCue ..)

theorem CueFrame.endIfDue (s : State) (tf : Time) (c : CueNo) : CueFrame s (s.endIfDue tf c) := by
  unfold State.endIfDue
  split
  · exact .refl s
  · repeat' split
    · exact .endCue ..
    · exact .naturalEnd ..
    · exact .refl s

theorem CueFrame.cueEnds (s : State) (tf : Time) : CueFrame s (s.cueEnds tf) :=
  foldl_related CueFrame.refl CueFrame.trans (fun u c => .endIfDue u tf c) _ s

theorem CueFrame.dueStarts (s : State) (tf : Time) :
    CueFrame (s.setStartQueue (s.ce.queue.filter fun e => !startDue tf e)) (s.dueStarts tf) :=
  foldl_related CueFrame.refl CueFrame.trans (fun u e => .resolve u tf e) _ _

/-- What the laws of layers read besides the layers stays. -/
theorem CueFrame.rest {s t : State} (h : CueFrame s t) :
    t.ss = s.ss ∧ t.co = s.co ∧ t.ot = s.ot ∧ t.ps = s.ps := by
  rw [h]
  exact ⟨rfl, rfl, rfl, rfl⟩

/-! ## A frame start up to its compose -/

/-- A frame start's work on layers, cues and streams (R88). -/
def beforeLoops (s : State) (tf : Time) : State :=
  (((((s.raiseFrame tf).applyGates.dueStarts tf).cueEnds tf).evaluate tf).stepPresences.promote tf).judgeStale

/-- The state on whose tables the compose of a frame start is begun (R88). -/
def beforeCompose (s : State) (tf : Time) : State := (beforeLoops s tf).loopsAtFrame

theorem frameStart_eq (s : State) (tf : Time) : s.frameStart tf = (beforeCompose s tf).beginCompose tf := rfl

theorem beforeCompose_parts (s : State) (tf : Time) : layerParts (beforeCompose s tf) = layerParts (beforeLoops s tf) :=
  loopsAtFrame_parts _

/-- The work between the ends of cues and the loops, as the laws of layers see it. -/
theorem tracksAndStreams_rest (u : State) (tf : Time) :
    let t := ((u.evaluate tf).stepPresences.promote tf).judgeStale
    t.lt.layers = u.stepPresences.lt.layers ∧ t.co = u.co ∧ t.ot = u.ot ∧ t.ps = u.ps := ⟨rfl, rfl, rfl, rfl⟩

theorem applyGates_rest (u : State) (tf : Time) :
    let t := (u.raiseFrame tf).applyGates
    t.co = u.co ∧ t.ot = u.ot ∧ t.ps = u.ps := ⟨rfl, rfl, rfl⟩

theorem beforeCompose_kept (s : State) (tf : Time) : LayersKept s (beforeCompose s tf) := by
  intro i
  rw [(layerParts_eq_iff.mp (beforeCompose_parts s tf)).1, beforeLoops, (tracksAndStreams_rest _ tf).1]
  exact ((((applyGates_kept (s.raiseFrame tf)).trans (dueStarts_moved _ tf).kept).trans (cueEnds_moved _ tf).kept).trans
    (stepPresences_moved _).kept) i

/-- Before its compose a frame start leaves the compose in flight, the origin records and the part state. -/
theorem beforeLoops_rest (s : State) (tf : Time) :
    (beforeLoops s tf).co = s.co ∧ (beforeLoops s tf).ot = s.ot ∧ (beforeLoops s tf).ps = s.ps := by
  obtain ⟨-, hco, hot, hps⟩ := (CueFrame.dueStarts (s.raiseFrame tf).applyGates tf).rest
  obtain ⟨-, hco', hot', hps'⟩ := (CueFrame.cueEnds ((s.raiseFrame tf).applyGates.dueStarts tf) tf).rest
  obtain ⟨-, hco'', hot'', hps''⟩ := tracksAndStreams_rest (((s.raiseFrame tf).applyGates.dueStarts tf).cueEnds tf) tf
  obtain ⟨gco, got, gps⟩ := applyGates_rest s tf
  exact ⟨hco''.trans (hco'.trans (hco.trans gco)), hot''.trans (hot'.trans (hot.trans got)),
    hps''.trans (hps'.trans (hps.trans gps))⟩

theorem beforeCompose_rest (s : State) (tf : Time) :
    (beforeCompose s tf).co.inFlight = s.co.inFlight ∧ (beforeCompose s tf).ot.recs = s.ot.recs ∧
      (beforeCompose s tf).inSetup = s.inSetup := by
  obtain ⟨-, -, hf, hr, hs⟩ := layerParts_eq_iff.mp (beforeCompose_parts s tf)
  obtain ⟨hco, hot, hps⟩ := beforeLoops_rest s tf
  exact ⟨by rw [hf, hco], by rw [hr, hot], by rw [hs, State.inSetup, hps]; rfl⟩

end Sys2Proof.Machine

/-! PROOF. FREE layers keep the free contents, and presences their range (R16, R17, R29, R67). -/

namespace Sys2Proof.Machine

/-! ## The law -/

theorem LayersSound.reads : ReadsParts LayersSound := by
  intro s t h hs i
  obtain ⟨hl, -, hf, -, -⟩ := layerParts_eq_iff.mp h
  simp only [hl, hf]
  exact hs i

/-- A FREE layer has no owner. -/
theorem LayersSound.free_owner {s : State} (h : LayersSound s) {i : LayerNo} (hf : s.lt.layers[i].state = .free) :
    s.lt.layers[i].owner = none := by
  rw [(h i).1 hf]; rfl

/-- Steps that keep every layer, and put no other compose in flight, keep the law. -/
theorem LayersSound.of_kept {s t : State} (h : LayersSound s) (hk : LayersKept s t)
    (hflight : ∀ c, t.co.inFlight = some c → s.co.inFlight = some c) : LayersSound t := by
  intro i
  obtain ⟨hfree, howner, hpres, hgone⟩ := h i
  obtain ⟨hstate, ho⟩ := (hk i).holding fun hf => h.free_owner hf
  exact ⟨fun hf => (hk i).freed (hfree (hstate.mp hf)), fun hf => ho ▸ howner fun e => hf (hstate.mpr e),
    (hk i).presence hpres, fun c hc hf => hgone c (hflight c hc) (hstate.mp hf)⟩

theorem LayersSound.of_moved {s t : State} (h : LayersSound s) (hk : LayersMoved s t) (hf : t.co = s.co) : LayersSound t :=
  h.of_kept hk.kept fun c hc => by rwa [hf] at hc

/-- Freeing layers keeps the law: each freed layer is marked gone in the compose in flight (R67). -/
theorem LayersSound.freeLayersWhere {s : State} (h : LayersSound s) (p : LayerNo → Layer → Bool) :
    LayersSound (s.freeLayersWhere p) := by
  intro i
  obtain ⟨hfree, howner, hpres, hgone⟩ := h i
  rw [freeLayersWhere_layer, freeLayersWhere_inFlight]
  have hflight : ∀ c, s.co.inFlight.map (Compose.markGone (markSet fun i => p i s.lt.layers[i])) = some c →
      (p i s.lt.layers[i] = true ∨ s.lt.layers[i].state = .free) →
      c.gone.getLsbD i.val = true ∨ c.layers[i].presence = 0 := by
    intro c hc hi
    obtain ⟨d, hd, rfl⟩ := Option.map_eq_some_iff.mp hc
    rw [markGone_gone, Bool.or_eq_true]
    rcases hi with hp | hf
    · exact .inl (.inr hp)
    · exact (hgone d hd hf).imp_left .inl
  split
  · rename_i hp
    exact ⟨fun _ => rfl, fun e => absurd rfl e, Nat.zero_le _, fun c hc _ => hflight c hc (.inl hp)⟩
  · exact ⟨hfree, howner, hpres, fun c hc hf => hflight c hc (.inr hf)⟩

/-- A layer that is FREE when a compose begins has no presence in it (R16, R59). -/
theorem LayersSound.beginCompose {s : State} (h : LayersSound s) (tf : Time) : LayersSound (s.beginCompose tf) := by
  intro i
  obtain ⟨hfree, howner, hpres, -⟩ := h i
  refine ⟨hfree, howner, hpres, fun c hc hf => .inr ?_⟩
  obtain rfl := Option.some.inj hc
  have hl : (s.composeInputs tf).layers[i] = s.composeLayer tf i := tabulate_get ..
  rw [hl, State.composeLayer, hfree hf]
  rfl

/-- A FREE layer that is not marked gone is in no stack, so no completion marks it void (R67). -/
theorem completeCompose_kept {s : State} (h : LayersSound s) {c : Compose} (hc : s.co.inFlight = some c) :
    LayersKept s (s.completeCompose c) := by
  intro i
  rw [completeCompose_layer]
  refine .of_same rfl rfl (fun e => ?_) id
  have hfree : s.lt.layers[i].state = .free := by rw [e]; rfl
  rcases (h i).2.2.2 c hc hfree with hg | hp
  · rw [settledVoid_gone hg, e]
  · rw [settledVoid, layerVoided_of_presence_zero hp, Bool.and_false, e]
    split <;> rfl

/-! ## Commands that write layers -/

theorem ownLayer_passes {tk : Taken} {n : Nat} {s : State} {i : LayerNo} (h : ownLayer tk n s = .ok i) :
    s.lt.layers[i].state ≠ .free ∧ s.lt.layers[i].owner = some tk.origin := by
  unfold ownLayer at h
  cases hset : s.inSetup with
  | true => rw [hset] at h; cases h
  | false =>
    cases hn : fin? 16 n with
    | none => rw [hset, hn] at h; cases h
    | some j =>
      cases ho : ownedBy tk.origin s.lt.layers[j] with
      | false => rw [hset, hn, found_some_bind, require_false_bind, ho] at h; cases h
      | true =>
        rw [hset, hn, found_some_bind, require_false_bind, ho] at h
        obtain rfl : j = i := Except.ok.inj h
        exact ownedBy_iff.mp ho

section
variable {s : State} (hs : LayersSound s)
include hs

theorem execSetOrigin_layers (o : Origin) : WhenNext LayersSound (execSetOrigin o s) := by
  refine whenNext_request LayersSound.reads hs fun tk u hu => ?_
  simp only [serveSetOrigin, whenServed_bind, whenServed_pure]
  intros
  exact hu.of_moved (.refl u) rfl

theorem execDeletePattern_layers (o : Origin) : WhenNext LayersSound (execDeletePattern o s) := by
  refine whenNext_request LayersSound.reads hs fun tk u hu => ?_
  simp only [serveDeletePattern, whenServed_bind, whenServed_pure]
  intros n _ _ _ _ _
  exact hu.of_moved (deleteSlot_moved u n) rfl

theorem execOpenLayer_layers (o : Origin) : WhenNext LayersSound (execOpenLayer o s) := by
  refine whenNext_request LayersSound.reads hs fun tk u hu => ?_
  simp only [serveOpenLayer, whenServed_bind, whenServed_pure]
  intro _ _ t _ _ _ _ _ _ _ i _
  refine LayersSound.reads (u.setLayer i (Layer.granted tk.origin t)) _ rfl fun j => ?_
  rw [setLayer_layers, setAt_get]
  split
  · exact ⟨nofun, fun _ => rfl, Nat.zero_le _, fun _ _ => nofun⟩
  · exact hu j

theorem execEditLayer_layers (o : Origin) : WhenNext LayersSound (execEditLayer o s) := by
  refine whenNext_request LayersSound.reads hs fun tk u hu => ?_
  simp only [serveEditLayer, whenServed_bind, whenServed_pure, require_eq_ok, Bool.not_eq_false']
  intro _ _ i _ _ _ _ howned e _ _ _ _ _ _ _ _ _
  have hmake := hu.of_kept (makeEdit_kept (ownedBy_iff.mp howned).1 tk.origin e) fun c hc => by rwa [makeEdit_co] at hc
  exact LayersSound.reads _ _ (reply_parts ..) hmake

theorem execShowLayer_layers (o : Origin) : WhenNext LayersSound (execShowLayer o s) := by
  refine whenNext_request LayersSound.reads hs fun tk u hu => ?_
  simp only [serveShowLayer, whenServed_bind, whenServed_pure]
  exact fun i hi => LayersSound.reads _ _ (done_parts ..) (hu.of_moved (setShown_moved (ownLayer_passes hi).1 true) rfl)

theorem execHideLayer_layers (o : Origin) : WhenNext LayersSound (execHideLayer o s) := by
  refine whenNext_request LayersSound.reads hs fun tk u hu => ?_
  simp only [serveHideLayer, whenServed_bind, whenServed_pure]
  exact fun i hi => LayersSound.reads _ _ (done_parts ..) (hu.of_moved (setShown_moved (ownLayer_passes hi).1 false) rfl)

theorem execCloseLayer_layers (o : Origin) : WhenNext LayersSound (execCloseLayer o s) := by
  refine whenNext_request LayersSound.reads hs fun tk u hu => ?_
  simp only [serveCloseLayer, whenServed_bind, whenServed_pure]
  exact fun i _ => LayersSound.reads _ _ (endCuesWhere_parts ..)
    ((LayersSound.reads _ _ (done_parts u tk []) hu).freeLayersWhere _)

theorem execStreamFrame_layers (o : Origin) : WhenNext LayersSound (execStreamFrame o s) := by
  have hpop : ∀ {t : State}, layerParts t = layerParts s → LayersSound t := fun h => LayersSound.reads s _ h hs
  refine whenNext_takeRequest hs (hpop rfl) (fun _ => hpop rfl) fun rq => ?_
  unfold serveStreamFrame
  split
  · exact hpop rfl
  · exact hs.of_moved (fun _ => LayerMoved.refl _) rfl

theorem LayersSound.forget (o : Origin) : LayersSound (s.forget o) := by
  have h1 : LayersSound ((s.discardCopies o).setGate o .opened) :=
    hs.of_kept (discardCopies_kept s o) fun _ => id
  have h2 := (LayersSound.reads _ _ (forgetCues_parts ((s.discardCopies o).setGate o .opened) o) h1).freeLayersWhere
    fun _ l => ownedBy o l
  have h3 := h2.of_moved (forgetSlots_moved _ o) (forgetSlots_co ..)
  refine LayersSound.reads _ _ ?_ h3
  simp only [State.forget, clearMask_parts, forgetFlags_parts, forgetHolds_parts, unbindWhere_parts]

theorem execForget_layers (o : Origin) : WhenNext LayersSound (execForget o s) := by
  refine whenNext_request LayersSound.reads hs fun tk u hu => ?_
  simp only [serveForget, whenServed_bind, whenServed_pure]
  exact fun q _ _ _ => (LayersSound.reads _ _ (done_parts ..) hu).forget q

/-- The part state is no matter to the law. -/
theorem LayersSound.setPartState (p : PartState) : LayersSound (s.setPartState p) :=
  hs.of_moved (fun _ => LayerMoved.refl _) rfl

theorem execEnterRun_layers (o : Origin) : WhenNext LayersSound (execEnterRun o s) := by
  refine whenNext_request LayersSound.reads hs fun tk u hu => ?_
  simp only [serveEnterRun, whenServed_bind, whenServed_pure]
  intro _ _
  split
  · exact LayersSound.reads _ _ (done_parts ..) (hu.setPartState .run)
  · exact LayersSound.reads _ _ (done_parts ..) hu

theorem LayersSound.openGates : LayersSound s.openGates := hs.of_kept (openGates_kept s) fun _ => id
theorem LayersSound.darkLayers : LayersSound s.darkLayers := hs.of_moved (darkLayers_moved s) rfl
theorem LayersSound.emptyQueues : LayersSound s.emptyQueues := hs.of_moved (fun _ => LayerMoved.refl _) rfl

theorem LayersSound.enterSetup : LayersSound s.enterSetup := by
  have h1 := LayersSound.reads _ _ (endAllCues_parts s .stopped) hs
  have h2 := h1.openGates.freeLayersWhere fun _ l => l.state != .free
  exact (LayersSound.reads _ _ (releaseHolds_parts _) h2).setPartState .setup

theorem execEnterSetup_layers (o : Origin) : WhenNext LayersSound (execEnterSetup o s) := by
  refine whenNext_request LayersSound.reads hs fun tk u hu => ?_
  simp only [serveEnterSetup, whenServed_bind, whenServed_pure]
  intro _ _
  split
  · exact LayersSound.reads _ _ (done_parts ..) hu
  · exact (LayersSound.reads _ _ (done_parts u tk []) hu).enterSetup

theorem execSleep_layers (o : Origin) : WhenNext LayersSound (execSleep o s) := by
  refine whenNext_request LayersSound.reads hs fun tk u hu => ?_
  simp only [serveSleep, whenServed_bind, whenServed_pure]
  intros
  exact LayersSound.reads _ _ (done_parts ..) (hu.setPartState .settling)

theorem execRestart_layers (o : Origin) : WhenNext LayersSound (execRestart o s) := by
  refine whenNext_request LayersSound.reads hs fun tk u _ => ?_
  simp only [serveRestart, whenServed_bind, whenServed_pure]
  intros
  exact LayersSound.reads _ _ (done_parts ..) (LayersSound.reads _ _ (restarted_parts u) layersSound_reset)

theorem LayersSound.frameStart (tf : Time) : LayersSound (s.frameStart tf) := by
  rw [frameStart_eq]
  refine LayersSound.beginCompose (hs.of_kept (beforeCompose_kept s tf) fun c hc => ?_) tf
  rwa [(beforeCompose_rest s tf).1] at hc

theorem LayersSound.naturalEnd (c : CueNo) (cue : Cue) : LayersSound (s.naturalEnd c cue) :=
  hs.of_moved (naturalEnd_moved s c cue) (naturalEnd_co ..)

theorem LayersSound.completeCompose {c : Compose} (hc : s.co.inFlight = some c) : LayersSound (s.completeCompose c) := by
  refine hs.of_kept (completeCompose_kept hs hc) fun d hd => ?_
  rw [(completeCompose_rest s c).2.1] at hd
  cases hd

theorem LayersSound.expireGate (o : Origin) : LayersSound (s.expireGate o) :=
  LayersSound.reads _ _ ((notify_parts ..).trans (setGate_parts ..)) (hs.of_kept (discardCopies_kept s o) fun _ => id)

theorem LayersSound.fallAsleep : LayersSound s.settleLoops.fallAsleep := by
  have h1 := (LayersSound.reads _ _ (settleLoops_parts s) hs).setPartState .asleep
  have h2 := LayersSound.reads _ _ (endAllCues_parts _ .sleep) h1
  exact LayersSound.reads _ _ ((darkWatches_parts _).trans (stopFrames_parts _)) h2.darkLayers.emptyQueues

theorem LayersSound.completeWake : LayersSound s.completeWake := by
  have h1 : LayersSound s.wakeUp := hs.of_moved (fun _ => LayerMoved.refl _) rfl
  have h2 := LayersSound.reads _ _ ((matchWakeList_parts s.wakeUp.wakeLoops).trans (wakeLoops_parts _)) h1
  exact h2.frameStart _

theorem LayersSound.abandonWork : LayersSound s.abandonWork.zeroClocks.holdReset :=
  hs.of_kept (t := s.abandonWork.zeroClocks.holdReset) (fun _ => LayerKept.refl _) nofun

end

theorem exec_layersSound (c : Instr) (s : State) (hc : setsLayerParts c = true) (hs : LayersSound s) :
    WhenNext LayersSound (exec c s) := by
  have hreset : ∀ strap raw, LayersSound (State.fresh strap raw s.pending s.freeCount) := fun strap raw =>
    LayersSound.reads _ _ (fresh_parts strap raw _ _) layersSound_reset
  cases c with
  | powerOn strap raw => exact whenNext_next.mpr (hreset _ _)
  | resetPinAssert => exact whenNext_live hs fun _ => hs.abandonWork
  | resetPinRelease strap =>
    refine whenNext_next.mpr ?_
    split
    · exact hreset _ _
    · exact hs
  | setOrigin o => exact execSetOrigin_layers hs o
  | deletePattern o => exact execDeletePattern_layers hs o
  | openLayer o => exact execOpenLayer_layers hs o
  | editLayer o => exact execEditLayer_layers hs o
  | showLayer o => exact execShowLayer_layers hs o
  | hideLayer o => exact execHideLayer_layers hs o
  | closeLayer o => exact execCloseLayer_layers hs o
  | streamFrame o => exact execStreamFrame_layers hs o
  | forget o => exact execForget_layers hs o
  | enterRun o => exact execEnterRun_layers hs o
  | enterSetup o => exact execEnterSetup_layers hs o
  | sleep o => exact execSleep_layers hs o
  | restart o => exact execRestart_layers hs o
  | frameStart =>
    change WhenNext LayersSound (execFrameStart s)
    unfold execFrameStart
    split
    · exact whenNext_next.mpr hs
    · exact whenNext_liveWhen hs fun _ _ => hs.frameStart _
  | cueNaturalEnd c =>
    change WhenNext LayersSound (execCueNaturalEnd c s)
    unfold execCueNaturalEnd atLastFrame
    split
    · exact whenNext_liveWhen hs fun _ _ => hs.naturalEnd c _
    · exact whenNext_next.mpr hs
  | streamStale q =>
    change WhenNext LayersSound (execStreamStale q s)
    unfold execStreamStale
    split
    · exact whenNext_next.mpr hs
    · exact whenNext_liveWhen hs fun _ _ => hs.of_moved (fun _ => LayerMoved.refl _) rfl
  | composeComplete =>
    change WhenNext LayersSound (execComposeComplete s)
    unfold execComposeComplete
    split
    · exact whenNext_next.mpr hs
    · exact whenNext_live hs fun _ => hs.completeCompose (by assumption)
  | gateExpiry o => exact whenNext_liveWhen hs fun _ _ => hs.expireGate o
  | settle => exact whenNext_liveWhen hs fun _ _ => hs.fallAsleep
  | wakeCompletion => exact whenNext_liveWhen hs fun _ _ => hs.completeWake
  | _ => cases hc

/-- Settles O10: every command that writes layers keeps them or frees them with their gone marks. -/
theorem stepsKeepFreeLayersBlank : Obligations.StepsKeepFreeLayersBlank :=
  keptByStep_of_parts LayersSound.reads exec_layersSound

end Sys2Proof.Machine

/-! PROOF. Held counts stay within the limits, and FREE layers cover the reserves (R18, R20, R136). -/

namespace Sys2Proof.Machine

/-! ## Counting the records of a table -/

theorem vec_toList {α : Type} {n : Nat} (v : Vector α n) : v.toList = (List.finRange n).map fun i => v[i] := by
  rw [← List.ofFn_eq_map, ← Vector.toList_ofFn]
  exact congrArg _ Vector.ofFn_getElem.symm

/-- A table in which `p` holds wherever `q` does counts no fewer. -/
theorem countP_table_le {α : Type} {n : Nat} {v w : Vector α n} {p q : α → Bool}
    (h : ∀ i : Fin n, q w[i] = true → p v[i] = true) : w.toList.countP q ≤ v.toList.countP p := by
  rw [vec_toList, vec_toList, List.countP_map, List.countP_map]
  exact List.countP_mono_left fun i _ => h i

theorem countP_table_congr {α : Type} {n : Nat} {v w : Vector α n} {p q : α → Bool}
    (h : ∀ i : Fin n, q w[i] = true ↔ p v[i] = true) : w.toList.countP q = v.toList.countP p :=
  Nat.le_antisymm (countP_table_le fun i => (h i).mp) (countP_table_le fun i => (h i).mpr)

/-- One record replaced: what the old record counted, and what the new one counts. -/
theorem countP_setAt {α : Type} {n : Nat} (v : Vector α n) (i : Fin n) (x : α) (p : α → Bool) :
    (setAt v i x).toList.countP p + (if p v[i] = true then 1 else 0) =
      v.toList.countP p + if p x = true then 1 else 0 := by
  have hpos : p v[i] = true → 0 < v.toList.countP p := fun h =>
    List.countP_pos_iff.mpr ⟨v[i], by simp, h⟩
  rw [setAt, Vector.toList_set, List.countP_set (by simp)]
  have hget : v.toList[i.val]'(by simp) = v[i] := by simp
  rw [hget]
  by_cases hp : p v[i] = true
  · have := hpos hp
    simp only [hp, if_true]
    omega
  · rw [if_neg hp]
    omega

/-- Each layer is FREE or held by one origin. -/
theorem held_add_free (ls : List Layer) (h : ∀ l ∈ ls, l.state = .free ↔ l.owner = none) :
    (Origin.all.map fun o => ls.countP (ownedBy o)).sum + ls.countP (fun l => l.state == .free) = ls.length := by
  induction ls with
  | nil => rfl
  | cons l ls ih =>
    have ih := ih fun l hl => h l (List.mem_cons_of_mem _ hl)
    have hl := h l List.mem_cons_self
    simp only [Origin.all, List.map, List.sum_cons, List.sum_nil, List.countP_cons, List.length_cons] at ih ⊢
    cases ho : l.owner with
    | none =>
      have hf : l.state = .free := hl.mpr ho
      simp [ownedBy, hf]
      omega
    | some o =>
      have hf : l.state ≠ .free := fun e => by rw [hl.mp e] at ho; cases ho
      cases o <;> simp [ownedBy, hf, ho] <;> omega

/-! ## The law -/

/-- The layers of a state and their owners agree: just the FREE layers have none. -/
def OwnersAgree (s : State) : Prop := ∀ i : LayerNo, s.lt.layers[i].state = .free ↔ s.lt.layers[i].owner = none

theorem OwnersAgree.total {s : State} (h : OwnersAgree s) :
    (Origin.all.map fun o => s.heldCount o).sum + s.freeCountOfLayers = 16 := by
  refine (held_add_free s.lt.layers.toList fun l hl => ?_).trans (by simp)
  rw [vec_toList] at hl
  obtain ⟨i, -, rfl⟩ := List.mem_map.mp hl
  exact h i

theorem inSetup_iff {s : State} : s.inSetup = true ↔ s.ps.state = .setup := by
  simp only [State.inSetup, beq_iff_eq]

theorem ReservesSound.reads : ReadsParts ReservesSound := by
  intro s t h hs
  obtain ⟨hl, -, -, hr, hset⟩ := layerParts_eq_iff.mp h
  have hsetup : t.ps.state = .setup ↔ s.ps.state = .setup := by
    rw [← inSetup_iff, ← inSetup_iff, hset]
  unfold ReservesSound State.heldCount State.freeCountOfLayers State.originRec at *
  simpa only [hl, hr, hsetup] using hs

/-- Steps that leave every layer with its owner keep the law. -/
theorem ReservesSound.of_holding {s t : State} (h : ReservesSound s)
    (hk : ∀ i : LayerNo, SameHolding s.lt.layers[i] t.lt.layers[i]) (hr : t.ot.recs = s.ot.recs)
    (hset : t.ps.state = .setup → s.ps.state = .setup) : ReservesSound t := by
  obtain ⟨hlimit, hreserve, hsum, hsetup, howner⟩ := h
  have hk : ∀ i : LayerNo, (t.lt.layers[i].state = .free ↔ s.lt.layers[i].state = .free) ∧
      t.lt.layers[i].owner = s.lt.layers[i].owner := fun i => hk i (howner i).mp
  have hheld : ∀ o, t.heldCount o = s.heldCount o := fun o =>
    countP_table_congr fun i => by rw [ownedBy_iff, ownedBy_iff, (hk i).2, ne_eq, (hk i).1]
  have hfree : t.freeCountOfLayers = s.freeCountOfLayers :=
    countP_table_congr fun i => by rw [beq_iff_eq, beq_iff_eq, (hk i).1]
  unfold ReservesSound
  simp only [hheld, hfree, State.originRec, hr]
  exact ⟨hlimit, hreserve, hsum, fun e i => (hk i).1.mpr (hsetup (hset e) i), fun i => by
    rw [(hk i).1, (hk i).2]; exact howner i⟩

/-- Steps that keep every layer, the records, and whether the part is in SETUP keep the law. -/
theorem ReservesSound.of_kept {s t : State} (h : ReservesSound s) (hk : LayersKept s t) (hr : t.ot.recs = s.ot.recs)
    (hset : t.inSetup = s.inSetup) : ReservesSound t :=
  h.of_holding (fun i => (hk i).holding) hr fun e => by
    rwa [← inSetup_iff, ← hset, inSetup_iff]

/-- Freeing layers keeps the law: what an origin loses the FREE layers gain (R18). -/
theorem ReservesSound.freeLayersWhere {s : State} (h : ReservesSound s) (p : LayerNo → Layer → Bool) :
    ReservesSound (s.freeLayersWhere p) := by
  obtain ⟨hlimit, hreserve, hsum, hsetup, howner⟩ := h
  have hcase : ∀ i : LayerNo, (s.freeLayersWhere p).lt.layers[i] = Layer.freed ∨
      (s.freeLayersWhere p).lt.layers[i] = s.lt.layers[i] := fun i => by
    rw [freeLayersWhere_layer]
    split
    · exact .inl rfl
    · exact .inr rfl
  have howner' : OwnersAgree (s.freeLayersWhere p) := fun i => by
    rcases hcase i with e | e <;> rw [e]
    · exact iff_of_true rfl rfl
    · exact howner i
  have hheld : ∀ o, (s.freeLayersWhere p).heldCount o ≤ s.heldCount o := fun o => countP_table_le fun i => by
    rcases hcase i with e | e <;> rw [e]
    · exact nofun
    · exact id
  have htotal := OwnersAgree.total (s := s) howner
  have htotal' := howner'.total
  refine ⟨fun o => (hheld o).trans (hlimit o), ?_, hsum, fun e i => ?_, howner'⟩
  · change (Origin.all.map fun o => (s.originRec o).reserve - (s.freeLayersWhere p).heldCount o).sum ≤ _
    simp only [Origin.all, List.map, List.sum_cons, List.sum_nil] at *
    have hb := hheld .body
    have hm := hheld .media
    have ha := hheld .assist
    have hv := hheld .service
    omega
  · rcases hcase i with e' | e' <;> rw [e']
    · rfl
    · exact hsetup e i

/-- The part state is no matter to the law, but that SETUP has no layer held. -/
theorem ReservesSound.setPartState {s : State} (h : ReservesSound s) {p : PartState}
    (hp : p = .setup → ∀ i : LayerNo, s.lt.layers[i].state = .free) : ReservesSound (s.setPartState p) :=
  let ⟨hlimit, hreserve, hsum, _, howner⟩ := h
  ⟨hlimit, hreserve, hsum, hp, howner⟩

/-! ## OPEN_LAYER and SET_ORIGIN -/

theorem freeLayer?_eq_some {s : State} {i : LayerNo} (h : s.freeLayer? = some i) : s.lt.layers[i].state = .free := by
  simpa using List.find?_some h

/-- A grant that neither limit nor the other origins' reserves refuse keeps the law (R18, R20). -/
theorem ReservesSound.grant {s : State} (h : ReservesSound s) {o : Origin} {i : LayerNo} (tier : Tier)
    (hrun : s.inSetup = false) (hlim : s.heldCount o ≠ (s.originRec o).limit) (hres : s.reservesRefuse o = false)
    (hi : s.lt.layers[i].state = .free) : ReservesSound (s.setLayer i (Layer.granted o tier)) := by
  obtain ⟨hlimit, hreserve, hsum, hsetup, howner⟩ := h
  have hheld : ∀ q, (s.setLayer i (Layer.granted o tier)).heldCount q = s.heldCount q + if q = o then 1 else 0 := by
    intro q
    have hset := countP_setAt s.lt.layers i (Layer.granted o tier) (ownedBy q)
    have hold : ownedBy q s.lt.layers[i] = false := by simp only [ownedBy, hi]; rfl
    have hnew : (ownedBy q (Layer.granted o tier) = true) ↔ q = o := by
      rw [ownedBy_iff]; simp [Layer.granted, eq_comm]
    rw [hold, if_neg Bool.false_ne_true, Nat.add_zero] at hset
    exact hset.trans (by simp only [hnew]; rfl)
  have hfree : (s.setLayer i (Layer.granted o tier)).freeCountOfLayers + 1 = s.freeCountOfLayers := by
    have hset := countP_setAt s.lt.layers i (Layer.granted o tier) fun l => l.state == .free
    simp only [hi, BEq.rfl, if_true] at hset
    exact hset
  refine ⟨fun q => ?_, ?_, hsum, fun e => ?_, fun j => ?_⟩
  · rw [hheld]
    split
    · rename_i e
      exact Nat.lt_of_le_of_ne (hlimit q) (e ▸ hlim)
    · exact hlimit q
  · simp only [State.reservesRefuse, Bool.and_eq_false_iff, decide_eq_false_iff_not, State.shortfall] at hres
    simp only [hheld]
    change (Origin.all.map fun q => (s.originRec q).reserve - (s.heldCount q + if q = o then 1 else 0)).sum ≤ _
    cases o <;> simp [Origin.all] at hreserve hres ⊢ <;> omega
  · have : s.ps.state = .setup := e
    simp [State.inSetup, this] at hrun
  · rw [setLayer_layers, setAt_get]
    split
    · exact iff_of_false nofun nofun
    · exact howner j

/-- In SETUP no layer is held, so a new record keeps the law when the reserves still sum to 16 at most (R136). -/
theorem ReservesSound.setRec {s t : State} (h : ReservesSound s) (hs : s.ps.state = .setup) {o : Origin} {r : OriginRec}
    (hsum : r.reserve + otherReserves s o ≤ 16) (ht : t.ot.recs = setAt s.ot.recs o.idx r) (hl : t.lt = s.lt) :
    ReservesSound t := by
  obtain ⟨-, -, -, hsetup, howner⟩ := h
  have hfree : ∀ i : LayerNo, t.lt.layers[i].state = .free := fun i => by rw [hl]; exact hsetup hs i
  have howner' : OwnersAgree t := fun i => by rw [hl]; exact howner i
  have hheld : ∀ q, t.heldCount q = 0 := fun q => List.countP_eq_zero.mpr fun l hm hq => by
    rw [vec_toList] at hm
    obtain ⟨i, -, rfl⟩ := List.mem_map.mp hm
    exact (ownedBy_iff.mp hq).1 (hfree i)
  have hrec : ∀ q, t.originRec q = if q = o then r else s.originRec q := by
    intro q
    rw [State.originRec, ht, setAt_get]
    by_cases e : q = o
    · simp [e]
    · rw [if_neg e, if_neg fun e' => e (idx_inj e')]; rfl
  have hreserves : (Origin.all.map fun q => (t.originRec q).reserve).sum ≤ 16 := by
    simp only [hrec, otherReserves] at hsum ⊢
    cases o <;> simp [Origin.all] at hsum ⊢ <;> omega
  have htotal := howner'.total
  refine ⟨fun q => by rw [hheld]; exact Nat.zero_le _, ?_, hreserves, fun _ => hfree, howner'⟩
  simp only [hheld, Origin.all, List.map, List.sum_cons, List.sum_nil, Nat.sub_zero] at htotal hreserves ⊢
  omega

/-! ## Commands that write layers, records or the part state -/

theorem makeEdit_rest (u : State) (o : Origin) (i : LayerNo) (e : Edit) :
    (u.makeEdit o i e).ot = u.ot ∧ (u.makeEdit o i e).ps = u.ps := by
  unfold State.makeEdit
  dsimp only
  split <;> exact ⟨rfl, rfl⟩

theorem forgetSlots_rest (u : State) (o : Origin) : (u.forgetSlots o).ot = u.ot ∧ (u.forgetSlots o).ps = u.ps := by
  refine foldl_related (R := fun s t => t.ot = s.ot ∧ t.ps = s.ps) (fun _ => ⟨rfl, rfl⟩)
    (fun h g => ⟨g.1.trans h.1, g.2.trans h.2⟩) (fun v n => ?_) _ u
  split <;> exact ⟨rfl, rfl⟩

section
variable {s : State} (hs : ReservesSound s)
include hs

/-- Steps whose layers, records and part state are those of the state before. -/
theorem ReservesSound.of_same {t : State} (hl : t.lt.layers = s.lt.layers) (hr : t.ot = s.ot) (hp : t.ps = s.ps) :
    ReservesSound t :=
  hs.of_kept (fun i => by rw [hl]; exact .refl _) (by rw [hr]) (by rw [State.inSetup, hp]; rfl)

theorem execSetOrigin_reserves (o : Origin) : WhenNext ReservesSound (execSetOrigin o s) := by
  refine whenNext_request ReservesSound.reads hs fun tk u hu => ?_
  simp only [serveSetOrigin, whenServed_bind, whenServed_pure, require_eq_ok, decide_eq_false_iff_not, configChecks]
  intro _ hconfig q _ tier _ _ _ windows _ mark _ _ _ _ _ _ hsum _ _
  have hsetup : u.ps.state = .setup := by
    cases hm : tk.origin.mayConfigure with
    | false => rw [hm] at hconfig; cases hconfig
    | true =>
      cases hset : u.inSetup with
      | false => rw [hm, hset] at hconfig; cases hconfig
      | true => simpa [State.inSetup] using hset
  exact hu.setRec hsetup (Nat.not_lt.mp hsum) rfl rfl

theorem execDeletePattern_reserves (o : Origin) : WhenNext ReservesSound (execDeletePattern o s) := by
  refine whenNext_request ReservesSound.reads hs fun tk u hu => ?_
  simp only [serveDeletePattern, whenServed_bind, whenServed_pure]
  intro n _ _ _ _ _
  exact ReservesSound.reads _ _ (done_parts ..) (hu.of_kept (deleteSlot_moved u n).kept rfl rfl)

theorem execOpenLayer_reserves (o : Origin) : WhenNext ReservesSound (execOpenLayer o s) := by
  refine whenNext_request ReservesSound.reads hs fun tk u hu => ?_
  simp only [serveOpenLayer, whenServed_bind, whenServed_pure, require_eq_ok, found_eq_ok, beq_eq_false_iff_ne]
  intro _ hrun t _ _ _ _ hlim _ hres i hi
  exact ReservesSound.reads _ _ (done_parts ..) (hu.grant t hrun hlim hres (freeLayer?_eq_some hi))

theorem execEditLayer_reserves (o : Origin) : WhenNext ReservesSound (execEditLayer o s) := by
  refine whenNext_request ReservesSound.reads hs fun tk u hu => ?_
  simp only [serveEditLayer, whenServed_bind, whenServed_pure, require_eq_ok, Bool.not_eq_false']
  intro _ _ i _ _ _ _ howned e _ _ _ _ _ _ _ _ _
  obtain ⟨hot, hps⟩ := makeEdit_rest u tk.origin i e
  exact ReservesSound.reads _ _ (reply_parts ..)
    (hu.of_kept (makeEdit_kept (ownedBy_iff.mp howned).1 tk.origin e) (by rw [hot]) (by rw [State.inSetup, hps]; rfl))

theorem execShowLayer_reserves (o : Origin) : WhenNext ReservesSound (execShowLayer o s) := by
  refine whenNext_request ReservesSound.reads hs fun tk u hu => ?_
  simp only [serveShowLayer, whenServed_bind, whenServed_pure]
  exact fun i hi => ReservesSound.reads _ _ (done_parts ..)
    (hu.of_kept (setShown_moved (ownLayer_passes hi).1 true).kept rfl rfl)

theorem execHideLayer_reserves (o : Origin) : WhenNext ReservesSound (execHideLayer o s) := by
  refine whenNext_request ReservesSound.reads hs fun tk u hu => ?_
  simp only [serveHideLayer, whenServed_bind, whenServed_pure]
  exact fun i hi => ReservesSound.reads _ _ (done_parts ..)
    (hu.of_kept (setShown_moved (ownLayer_passes hi).1 false).kept rfl rfl)

theorem execCloseLayer_reserves (o : Origin) : WhenNext ReservesSound (execCloseLayer o s) := by
  refine whenNext_request ReservesSound.reads hs fun tk u hu => ?_
  simp only [serveCloseLayer, whenServed_bind, whenServed_pure]
  exact fun i _ => ReservesSound.reads _ _ (endCuesWhere_parts ..)
    ((ReservesSound.reads _ _ (done_parts u tk []) hu).freeLayersWhere _)

theorem execStreamFrame_reserves (o : Origin) : WhenNext ReservesSound (execStreamFrame o s) := by
  have hpop : ∀ {t : State}, layerParts t = layerParts s → ReservesSound t := fun h => ReservesSound.reads s _ h hs
  refine whenNext_takeRequest hs (hpop rfl) (fun _ => hpop rfl) fun rq => ?_
  unfold serveStreamFrame
  split
  · exact hpop rfl
  · exact hs.of_same rfl rfl rfl

theorem ReservesSound.discardCopies (o : Origin) : ReservesSound (s.discardCopies o) :=
  hs.of_kept (discardCopies_kept s o) rfl rfl

theorem ReservesSound.openGates : ReservesSound s.openGates := hs.of_kept (openGates_kept s) rfl rfl
theorem ReservesSound.darkLayers : ReservesSound s.darkLayers := hs.of_kept (darkLayers_moved s).kept rfl rfl
theorem ReservesSound.emptyQueues : ReservesSound s.emptyQueues := hs.of_same rfl rfl rfl

theorem ReservesSound.forget (o : Origin) : ReservesSound (s.forget o) := by
  have h1 := ReservesSound.reads _ _ ((forgetCues_parts _ o).trans (setGate_parts _ o .opened)) (hs.discardCopies o)
  have h2 := h1.freeLayersWhere fun _ l => ownedBy o l
  obtain ⟨hot, hps⟩ := forgetSlots_rest _ o
  have h3 := h2.of_kept (forgetSlots_moved _ o).kept (congrArg OriginBlock.recs hot)
    (congrArg (fun p : PartBlock => p.state == .setup) hps)
  refine ReservesSound.reads _ _ ?_ h3
  simp only [State.forget, clearMask_parts, forgetFlags_parts, forgetHolds_parts, unbindWhere_parts]

theorem execForget_reserves (o : Origin) : WhenNext ReservesSound (execForget o s) := by
  refine whenNext_request ReservesSound.reads hs fun tk u hu => ?_
  simp only [serveForget, whenServed_bind, whenServed_pure]
  exact fun q _ _ _ => (ReservesSound.reads _ _ (done_parts ..) hu).forget q

theorem execEnterRun_reserves (o : Origin) : WhenNext ReservesSound (execEnterRun o s) := by
  refine whenNext_request ReservesSound.reads hs fun tk u hu => ?_
  simp only [serveEnterRun, whenServed_bind, whenServed_pure]
  intro _ _
  split
  · exact ReservesSound.reads _ _ (done_parts ..) (hu.setPartState nofun)
  · exact ReservesSound.reads _ _ (done_parts ..) hu

/-- ENTER_SETUP frees every layer that is held, so that SETUP is entered with none (R189). -/
theorem ReservesSound.enterSetup : ReservesSound s.enterSetup := by
  have h1 := (ReservesSound.reads _ _ (endAllCues_parts s .stopped) hs).openGates
  have h2 := ReservesSound.reads _ _ (releaseHolds_parts _) (h1.freeLayersWhere fun _ l => l.state != .free)
  refine h2.setPartState fun _ i => ?_
  change ((s.endAllCues .stopped).openGates.freeLayersWhere fun _ l => l.state != .free).lt.layers[i].state = .free
  rw [freeLayersWhere_layer]
  split
  · rfl
  · simp_all

theorem execEnterSetup_reserves (o : Origin) : WhenNext ReservesSound (execEnterSetup o s) := by
  refine whenNext_request ReservesSound.reads hs fun tk u hu => ?_
  simp only [serveEnterSetup, whenServed_bind, whenServed_pure]
  intro _ _
  split
  · exact ReservesSound.reads _ _ (done_parts ..) hu
  · exact (ReservesSound.reads _ _ (done_parts u tk []) hu).enterSetup

theorem execSleep_reserves (o : Origin) : WhenNext ReservesSound (execSleep o s) := by
  refine whenNext_request ReservesSound.reads hs fun tk u hu => ?_
  simp only [serveSleep, whenServed_bind, whenServed_pure]
  intros
  exact ReservesSound.reads _ _ (done_parts ..) (hu.setPartState nofun)

theorem execRestart_reserves (o : Origin) : WhenNext ReservesSound (execRestart o s) := by
  refine whenNext_request ReservesSound.reads hs fun tk u _ => ?_
  simp only [serveRestart, whenServed_bind, whenServed_pure]
  intros
  exact ReservesSound.reads _ _ (done_parts ..) (ReservesSound.reads _ _ (restarted_parts u) reservesSound_reset)

theorem ReservesSound.beginCompose (tf : Time) : ReservesSound (s.beginCompose tf) := hs.of_same rfl rfl rfl

theorem ReservesSound.frameStart (tf : Time) : ReservesSound (s.frameStart tf) := by
  obtain ⟨-, hr, hset⟩ := beforeCompose_rest s tf
  rw [frameStart_eq]
  exact (hs.of_kept (beforeCompose_kept s tf) hr hset).beginCompose tf

theorem ReservesSound.naturalEnd (c : CueNo) (cue : Cue) : ReservesSound (s.naturalEnd c cue) := by
  obtain ⟨-, -, hot, hps⟩ := (CueFrame.naturalEnd s c cue).rest
  exact hs.of_kept (naturalEnd_moved s c cue).kept (congrArg OriginBlock.recs hot)
    (congrArg (fun p : PartBlock => p.state == .setup) hps)

theorem ReservesSound.completeCompose (c : Compose) : ReservesSound (s.completeCompose c) := by
  obtain ⟨-, -, hr, hset⟩ := completeCompose_rest s c
  refine hs.of_holding (fun i => ?_) hr fun e => by rwa [← inSetup_iff, ← hset, inSetup_iff]
  rw [completeCompose_layer]
  exact fun _ => ⟨Iff.rfl, rfl⟩

theorem ReservesSound.fallAsleep : ReservesSound s.settleLoops.fallAsleep := by
  have h1 : ReservesSound (s.settleLoops.setPartState .asleep) :=
    (ReservesSound.reads _ _ (settleLoops_parts s) hs).setPartState nofun
  have h2 := ReservesSound.reads _ _ (endAllCues_parts _ .sleep) h1
  exact ReservesSound.reads _ _ ((darkWatches_parts _).trans (stopFrames_parts _)) h2.darkLayers.emptyQueues

theorem ReservesSound.completeWake : ReservesSound s.completeWake := by
  have h1 : ReservesSound s.wakeUp := hs.of_holding (fun _ _ => ⟨Iff.rfl, rfl⟩) rfl nofun
  exact (ReservesSound.reads _ _ ((matchWakeList_parts s.wakeUp.wakeLoops).trans (wakeLoops_parts _)) h1).frameStart _

end

theorem exec_reservesSound (c : Instr) (s : State) (hc : setsLayerParts c = true) (hs : ReservesSound s) :
    WhenNext ReservesSound (exec c s) := by
  have hreset : ∀ strap raw, ReservesSound (State.fresh strap raw s.pending s.freeCount) := fun strap raw =>
    ReservesSound.reads _ _ (fresh_parts strap raw _ _) reservesSound_reset
  cases c with
  | powerOn strap raw => exact whenNext_next.mpr (hreset _ _)
  | resetPinAssert => exact whenNext_live hs fun _ => hs.of_kept (fun _ => .refl _) rfl rfl
  | resetPinRelease strap =>
    refine whenNext_next.mpr ?_
    split
    · exact hreset _ _
    · exact hs
  | setOrigin o => exact execSetOrigin_reserves hs o
  | deletePattern o => exact execDeletePattern_reserves hs o
  | openLayer o => exact execOpenLayer_reserves hs o
  | editLayer o => exact execEditLayer_reserves hs o
  | showLayer o => exact execShowLayer_reserves hs o
  | hideLayer o => exact execHideLayer_reserves hs o
  | closeLayer o => exact execCloseLayer_reserves hs o
  | streamFrame o => exact execStreamFrame_reserves hs o
  | forget o => exact execForget_reserves hs o
  | enterRun o => exact execEnterRun_reserves hs o
  | enterSetup o => exact execEnterSetup_reserves hs o
  | sleep o => exact execSleep_reserves hs o
  | restart o => exact execRestart_reserves hs o
  | frameStart =>
    change WhenNext ReservesSound (execFrameStart s)
    unfold execFrameStart
    split
    · exact whenNext_next.mpr hs
    · exact whenNext_liveWhen hs fun _ _ => hs.frameStart _
  | cueNaturalEnd c =>
    change WhenNext ReservesSound (execCueNaturalEnd c s)
    unfold execCueNaturalEnd atLastFrame
    split
    · exact whenNext_liveWhen hs fun _ _ => hs.naturalEnd c _
    · exact whenNext_next.mpr hs
  | streamStale q =>
    change WhenNext ReservesSound (execStreamStale q s)
    unfold execStreamStale
    split
    · exact whenNext_next.mpr hs
    · exact whenNext_liveWhen hs fun _ _ => hs.of_same rfl rfl rfl
  | composeComplete =>
    change WhenNext ReservesSound (execComposeComplete s)
    unfold execComposeComplete
    split
    · exact whenNext_next.mpr hs
    · exact whenNext_live hs fun _ => hs.completeCompose _
  | gateExpiry o =>
    exact whenNext_liveWhen hs fun _ _ =>
      ReservesSound.reads _ _ ((notify_parts ..).trans (setGate_parts ..)) (hs.discardCopies o)
  | settle => exact whenNext_liveWhen hs fun _ _ => hs.fallAsleep
  | wakeCompletion => exact whenNext_liveWhen hs fun _ _ => hs.completeWake
  | _ => cases hc

/-- Settles O11: layers change hands in OPEN_LAYER, whose checks cover the reserves, and where they are freed. -/
theorem stepsKeepTheReserves : Obligations.StepsKeepTheReserves :=
  keptByStep_of_parts ReservesSound.reads exec_reservesSound

end Sys2Proof.Machine

/-! PROOF. A stream queue is bound to the one layer that names it, and its pending frames rise in show time (R25, R47,
R50). -/

namespace Sys2Proof.Machine

/-! ## What a layer names -/

theorem usesStream_iff {l : Layer} : usesStream l = true ↔ ∃ q, namesQueue l q := by
  cases hc : l.copy <;>
    simp [usesStream, namesQueue, hc, Option.isSome_iff_exists, exists_or]

theorem not_namesQueue_freed (q : QueueNo) : ¬namesQueue Layer.freed q := by
  simp [namesQueue, Layer.freed, Editable.opened, streamQueue?]

/-- The layers of `t` name no queue that those of `s` do not. -/
def NamesShrink (s t : State) : Prop := ∀ (i : LayerNo) (q : QueueNo), namesQueue t.lt.layers[i] q → namesQueue s.lt.layers[i] q

theorem discardCopies_names (s : State) (o : Origin) : NamesShrink s (s.discardCopies o) := by
  intro i q
  change namesQueue (mapAt s.lt.layers _)[i] q → _
  rw [mapAt_get]
  split
  · rintro (h | ⟨c, hc, -⟩)
    · exact .inl h
    · cases hc
  · exact id

theorem openGates_names (s : State) : NamesShrink s s.openGates := by
  intro i q
  change namesQueue (mapAt s.lt.layers _)[i] q → _
  rw [mapAt_get]
  rintro (h | ⟨c, hc, -⟩)
  · exact .inl h
  · cases hc

theorem applyCopy_names (l : Layer) (q : QueueNo) : namesQueue (applyCopy l) q → namesQueue l q := by
  unfold applyCopy
  cases hc : l.copy with
  | none => exact id
  | some c =>
    rintro (h | ⟨d, hd, -⟩)
    · exact .inr ⟨c, hc, h⟩
    · cases hd

theorem applyGates_names (s : State) : NamesShrink s s.applyGates := by
  intro i q
  change namesQueue (mapAt s.lt.layers fun _ l => if ownerOpening s.lt.gates l then applyCopy l else l)[i] q → _
  rw [mapAt_get]
  split
  · exact applyCopy_names _ q
  · exact id

/-- An edited source names a queue that it named before, or the queue of a STREAM edit. -/
theorem applyEdit_names {e : Edit} {q p : QueueNo} {ed : Editable}
    (h : streamQueue? (applyEdit e q ed).source = some p) :
    streamQueue? ed.source = some p ∨ setsStream e = true ∧ p = q := by
  unfold applyEdit at h
  cases hs : e.source with
  | none => exact .inl (by simpa [hs] using h)
  | some a => cases a <;> simp_all [sourceOf, streamQueue?, setsStream]

theorem edited_names {e : Edit} {q p : QueueNo} (g : Gate) {l : Layer}
    (h : namesQueue (gated g (editLive e q) (editCopy e q) l) p) : namesQueue l p ∨ setsStream e = true ∧ p = q := by
  cases g with
  | opened =>
    rcases h with h | h
    · exact (applyEdit_names h).imp_left .inl
    · exact .inl (.inr h)
  | closed _ | opening =>
    rcases h with h | ⟨c, hc, h⟩
    · exact .inl (.inl h)
    · obtain rfl := Option.some.inj hc
      exact (applyEdit_names h).imp_left (filledCopy_names l p)

/-! ## The law -/

/-- The pending frames of a queue: 4 at most, each shown later than those before it (R47, R50). -/
def PendingSound (q : StreamQueue) : Prop :=
  q.pending.length ≤ 4 ∧ q.pending.Pairwise fun a b => timeLater b.show' a.show' = true

/-- The law but for queues that their layer no longer names: what holds between a change of sources and the release of the
queues (R25). -/
def StreamsLoose (s : State) : Prop :=
  (∀ (q : QueueNo) (i : LayerNo), namesQueue s.lt.layers[i] q → s.ss.queues[q].bound = some i) ∧
    (∀ (p q : QueueNo) (i : LayerNo), s.ss.queues[p].bound = some i → s.ss.queues[q].bound = some i → p = q) ∧
    ∀ q : QueueNo, PendingSound s.ss.queues[q]

theorem StreamsSound.loose {s : State} (h : StreamsSound s) : StreamsLoose s :=
  ⟨fun q i => (h.1 q i).mpr, h.2.1, h.2.2⟩

theorem StreamsLoose.shrink {s t : State} (h : StreamsLoose s) (hn : NamesShrink s t) (hq : t.ss.queues = s.ss.queues) :
    StreamsLoose t := by
  obtain ⟨hnames, hone, hpend⟩ := h
  unfold StreamsLoose
  rw [hq]
  exact ⟨fun q i hi => hnames q i (hn i q hi), hone, hpend⟩

theorem releaseQueues_queue (s : State) (q : QueueNo) : s.releaseQueues.ss.queues[q] =
    match s.ss.queues[q].bound with
    | none => s.ss.queues[q]
    | some l => if usesStream s.lt.layers[l] = true then s.ss.queues[q] else StreamQueue.freed :=
  (mapAt_get ..).trans (by cases s.ss.queues[q].bound <;> rfl)

/-- After a release a queue stays bound exactly to a layer that still has a STREAM source (R25). -/
theorem releaseQueues_bound (s : State) (q : QueueNo) (i : LayerNo) :
    s.releaseQueues.ss.queues[q].bound = some i ↔ s.ss.queues[q].bound = some i ∧ usesStream s.lt.layers[i] = true := by
  rw [releaseQueues_queue]
  cases hb : s.ss.queues[q].bound with
  | none => rw [hb]; exact ⟨nofun, fun e => nomatch e.1⟩
  | some l =>
    dsimp only
    by_cases hu : usesStream s.lt.layers[l] = true
    · rw [if_pos hu, hb]
      exact ⟨fun e => ⟨e, Option.some.inj e ▸ hu⟩, fun e => e.1⟩
    · rw [if_neg hu]
      exact ⟨nofun, fun e => absurd (Option.some.inj e.1 ▸ e.2) hu⟩

theorem StreamsLoose.release {s : State} (h : StreamsLoose s) : StreamsSound s.releaseQueues := by
  obtain ⟨hnames, hone, hpend⟩ := h
  refine ⟨fun q i => ?_, fun p q i hp hq => ?_, fun q => ?_⟩
  · rw [releaseQueues_bound, usesStream_iff]
    change _ ↔ namesQueue s.lt.layers[i] q
    refine ⟨fun ⟨hb, p, hp⟩ => ?_, fun hi => ⟨hnames q i hi, q, hi⟩⟩
    rwa [hone q p i hb (hnames p i hp)]
  · exact hone p q i ((releaseQueues_bound s p i).mp hp).1 ((releaseQueues_bound s q i).mp hq).1
  · rw [releaseQueues_queue]
    split
    · exact hpend q
    · split
      · exact hpend q
      · exact ⟨Nat.zero_le _, List.Pairwise.nil⟩

/-- Steps that keep what is named and what is bound, and pending frames sound, keep the law. -/
theorem StreamsSound.of_same {s t : State} (h : StreamsSound s)
    (hn : ∀ (i : LayerNo) (q : QueueNo), namesQueue t.lt.layers[i] q ↔ namesQueue s.lt.layers[i] q)
    (hb : ∀ q : QueueNo, t.ss.queues[q].bound = s.ss.queues[q].bound)
    (hp : ∀ q : QueueNo, PendingSound t.ss.queues[q]) : StreamsSound t := by
  refine ⟨fun q i => ?_, fun p q i => ?_, hp⟩
  · rw [hb, hn]; exact h.1 q i
  · rw [hb, hb]; exact h.2.1 p q i

theorem StreamsSound.of_names {s t : State} (h : StreamsSound s)
    (hn : ∀ (i : LayerNo) (q : QueueNo), namesQueue t.lt.layers[i] q ↔ namesQueue s.lt.layers[i] q) (hq : t.ss.queues = s.ss.queues) :
    StreamsSound t :=
  h.of_same hn (fun q => by rw [hq]) fun q => by rw [hq]; exact h.2.2 q

theorem StreamsSound.of_moved {s t : State} (h : StreamsSound s) (hk : LayersMoved s t) (hq : t.ss.queues = s.ss.queues) :
    StreamsSound t :=
  h.of_names (fun i q => (hk i).names q) hq

theorem StreamsSound.of_tables {s t : State} (h : StreamsSound s) (hl : t.lt.layers = s.lt.layers)
    (hq : t.ss.queues = s.ss.queues) : StreamsSound t :=
  h.of_names (fun i q => by rw [hl]) hq

theorem StreamsSound.reads : ReadsParts StreamsSound := fun _ _ h hs =>
  let ⟨hl, hq, _⟩ := layerParts_eq_iff.mp h
  hs.of_tables hl hq

/-! ## Operations on queues -/

/-- An accepted frame is shown later than all before it, and a fifth drops the earliest (R50). -/
theorem acceptFrame_pending {q : StreamQueue} (h : PendingSound q) {f : StreamFrame} (now : Time)
    (hf : showsLater q f.show' = true) : PendingSound (acceptFrame q f now) := by
  obtain ⟨hlen, hrise⟩ := h
  have hlater : ∀ g ∈ q.pending, timeLater f.show' g.show' = true :=
    List.all_eq_true.mp ((Bool.and_eq_true _ _).mp hf).2
  have happend : ∀ l : List StreamFrame, l.Sublist q.pending → l.length ≤ 3 →
      PendingSound { q with pending := l ++ [f], last := some now } := fun l hl h3 =>
    ⟨by simp; omega, List.pairwise_append.mpr ⟨hrise.sublist hl, List.pairwise_singleton _ _,
      fun a ha b hb => List.mem_singleton.mp hb ▸ hlater a (hl.subset ha)⟩⟩
  unfold acceptFrame
  dsimp only
  split
  · exact happend _ (List.tail_sublist _) (by simp; omega)
  · exact happend _ (List.Sublist.refl _) (by omega)

theorem promoteQueue_pending {q : StreamQueue} (h : PendingSound q) (tf : Time) : PendingSound (promoteQueue tf q) := by
  unfold promoteQueue
  split
  · exact ⟨(List.length_filter_le _ _).trans h.1, h.2.filter _⟩
  · exact h

theorem promoteQueue_bound (tf : Time) (q : StreamQueue) : (promoteQueue tf q).bound = q.bound := by
  unfold promoteQueue
  split <;> rfl

/-- A queue replaced by one with its binding and with sound pending frames keeps the law. -/
theorem StreamsSound.setQueue {s : State} (h : StreamsSound s) {q : QueueNo} {x : StreamQueue}
    (hb : x.bound = s.ss.queues[q].bound) (hp : PendingSound x) : StreamsSound (s.setQueue q x) := by
  have hq : ∀ p : QueueNo, (s.setQueue q x).ss.queues[p] = if p = q then x else s.ss.queues[p] := fun p => setAt_get ..
  refine h.of_same (fun _ _ => Iff.rfl) (fun p => ?_) fun p => ?_
  · rw [hq]
    split
    · rename_i e; exact e ▸ hb
    · rfl
  · rw [hq]
    split
    · exact hp
    · exact h.2.2 p

/-- Every queue replaced by one with its binding and with sound pending frames keeps the law. -/
theorem StreamsSound.mapQueues {s t : State} (h : StreamsSound s) {f : StreamQueue → StreamQueue}
    (hl : t.lt.layers = s.lt.layers) (hq : t.ss.queues = mapAt s.ss.queues fun _ q => f q)
    (hb : ∀ q, (f q).bound = q.bound) (hp : ∀ q, PendingSound q → PendingSound (f q)) : StreamsSound t := by
  have hget : ∀ p : QueueNo, t.ss.queues[p] = f s.ss.queues[p] := fun p => by rw [hq, mapAt_get]
  exact h.of_same (fun i q => by rw [hl]) (fun p => by rw [hget, hb]) fun p => by rw [hget]; exact hp _ (h.2.2 p)

/-! ## Operations on layers and queues -/

theorem StreamsLoose.freeLayersWhere {s : State} (h : StreamsLoose s) (p : LayerNo → Layer → Bool) :
    StreamsSound (s.freeLayersWhere p) := by
  refine StreamsLoose.release (h.shrink (fun i q => ?_) rfl)
  change namesQueue (mapAt s.lt.layers fun i l => if p i l = true then Layer.freed else l)[i] q → _
  rw [mapAt_get]
  split
  · exact fun e => absurd e (not_namesQueue_freed q)
  · exact id

theorem StreamsSound.discardCopies {s : State} (h : StreamsSound s) (o : Origin) : StreamsSound (s.discardCopies o) :=
  StreamsLoose.release (h.loose.shrink (discardCopies_names s o) rfl)

theorem StreamsSound.applyGates {s : State} (h : StreamsSound s) : StreamsSound s.applyGates :=
  (StreamsLoose.release (h.loose.shrink (t := s.mapLayers fun _ l => if ownerOpening s.lt.gates l then applyCopy l else l)
    (applyGates_names s) rfl)).of_tables rfl rfl

theorem heldQueue_some {s : State} {i : LayerNo} {q : QueueNo} (h : s.heldQueue i = some q) :
    s.ss.queues[q].bound = some i := by
  simpa using List.find?_some h

theorem heldQueue_none {s : State} {i : LayerNo} (h : s.heldQueue i = none) (q : QueueNo) :
    s.ss.queues[q].bound ≠ some i := by
  simpa using List.find?_eq_none.mp h q (List.mem_finRange q)

theorem freeQueue?_some {s : State} {q : QueueNo} (h : s.freeQueue? = some q) : s.ss.queues[q].bound = none := by
  simpa using List.find?_some h

theorem bindQueue_queue (s : State) (q p : QueueNo) (i : LayerNo) :
    (s.bindQueue q i).ss.queues[p] = if p = q then { StreamQueue.freed with bound := some i } else s.ss.queues[p] :=
  setAt_get ..

/-- A free queue bound to a layer that holds none: the layers' names still lie among the bindings (R25). -/
theorem StreamsSound.bindQueue {s : State} (h : StreamsSound s) {q : QueueNo} {i : LayerNo}
    (hi : s.heldQueue i = none) (hq : s.ss.queues[q].bound = none) : StreamsLoose (s.bindQueue q i) := by
  obtain ⟨hnames, hone, hpend⟩ := h.loose
  refine ⟨fun p j hj => ?_, fun p p' j => ?_, fun p => ?_⟩
  · have hb := hnames p j hj
    rw [bindQueue_queue, if_neg fun e => by rw [e, hq] at hb; cases hb]
    exact hb
  · rw [bindQueue_queue, bindQueue_queue]
    have hfree : ∀ {r : QueueNo}, some i = some j → s.ss.queues[r].bound = some j → False := fun e hr =>
      heldQueue_none hi _ (hr.trans e.symm)
    split <;> split
    · rename_i e e'; exact fun _ _ => e.trans e'.symm
    · exact fun hj hr => (hfree hj hr).elim
    · exact fun hr hj => (hfree hj hr).elim
    · exact hone p p' j
  · rw [bindQueue_queue]
    split
    · exact ⟨Nat.zero_le _, List.Pairwise.nil⟩
    · exact hpend p

/-- A layer written in a state whose bindings cover its names. -/
theorem StreamsLoose.setLayer {s : State} (h : StreamsLoose s) {i : LayerNo} {l : Layer}
    (hl : ∀ q, namesQueue l q → s.ss.queues[q].bound = some i) : StreamsLoose (s.setLayer i l) := by
  refine ⟨fun q j hj => ?_, h.2⟩
  rw [setLayer_layers, setAt_get] at hj
  split at hj
  · rename_i e; exact e ▸ hl q hj
  · exact h.1 q j hj

/-- An edit that has a queue where it needs one keeps the law (R21, R25). -/
theorem StreamsSound.makeEdit {s : State} (h : StreamsSound s) (o : Origin) (i : LayerNo) {e : Edit}
    (hroom : (setsStream e && (s.queueFor i).isNone) = false) : StreamsSound (s.makeEdit o i e) := by
  unfold State.makeEdit State.queueFor at *
  dsimp only
  have hold := fun q => h.loose.1 q i
  cases hheld : s.heldQueue i with
  | some q =>
    simp only [Option.isNone_some, Bool.and_false, Bool.false_eq_true, if_false, Option.some_or, Option.getD_some]
    refine (h.loose.setLayer fun p hp => ?_).release
    rcases edited_names _ hp with hp | ⟨-, rfl⟩
    · exact hold p hp
    · exact heldQueue_some hheld
  | none =>
    simp only [hheld, Option.isNone_none, Bool.and_true, Option.none_or] at hroom ⊢
    cases hset : setsStream e with
    | false =>
      simp only [Bool.false_eq_true, if_false]
      refine (h.loose.setLayer fun p hp => ?_).release
      rcases edited_names _ hp with hp | ⟨he, -⟩
      · exact hold p hp
      · rw [hset] at he; cases he
    | true =>
      rw [hset, Bool.true_and] at hroom
      obtain ⟨q, hq⟩ := Option.isSome_iff_exists.mp (Option.isNone_eq_false_iff.mp hroom)
      simp only [if_true, hq, Option.getD_some]
      have hloose := h.bindQueue hheld (freeQueue?_some hq)
      refine (hloose.setLayer fun p hp => ?_).release
      rcases edited_names _ hp with hp | ⟨-, rfl⟩
      · exact hloose.1 p i hp
      · rw [bindQueue_queue, if_pos rfl]

/-! ## Commands that write layers or queues -/

theorem forgetSlots_queues (u : State) (o : Origin) : (u.forgetSlots o).ss.queues = u.ss.queues := by
  unfold State.forgetSlots
  refine foldl_keeps (fun v : State => v.ss.queues) (fun v n => ?_) _ u
  split
  · rfl
  · rfl

theorem makeEdit_passes {tk : Taken} {a : EditLayerArgs} {u : State} {P : State → Prop}
    (h : ∀ (i : LayerNo) (e : Edit), (setsStream e && (u.queueFor i).isNone) = false → P (u.makeEdit tk.origin i e))
    (hP : ReadsParts P) : WhenServed P (serveEditLayer tk a u) := by
  simp only [serveEditLayer, whenServed_bind, whenServed_pure, require_eq_ok]
  intro _ _ i _ _ _ _ _ e _ _ _ _ _ _ _ _ hroom
  exact hP _ _ (reply_parts ..) (h i e hroom)

/-- The queue a stream frame is accepted into lets its show time in (R49). -/
theorem streamQueueFor_later {s : State} {tk : Taken} {a : StreamFrameArgs} {q : QueueNo}
    (h : s.streamQueueFor tk a = some q) : showsLater s.ss.queues[q] a.show' = true := by
  unfold State.streamQueueFor at h
  split at h
  · cases h
  · split at h
    · cases h
    · split at h
      · cases h
      · rename_i hno
        obtain rfl := Option.some.inj h
        simp only [Bool.or_eq_true, not_or, Bool.not_eq_true', Bool.not_eq_false] at hno
        exact hno.2

section
variable {s : State} (hs : StreamsSound s)
include hs

theorem execSetOrigin_streams (o : Origin) : WhenNext StreamsSound (execSetOrigin o s) := by
  refine whenNext_request StreamsSound.reads hs fun tk u hu => ?_
  simp only [serveSetOrigin, whenServed_bind, whenServed_pure]
  intros
  exact hu.of_tables rfl rfl

theorem execDeletePattern_streams (o : Origin) : WhenNext StreamsSound (execDeletePattern o s) := by
  refine whenNext_request StreamsSound.reads hs fun tk u hu => ?_
  simp only [serveDeletePattern, whenServed_bind, whenServed_pure]
  intro n _ _ _ _ _
  exact StreamsSound.reads _ _ (done_parts ..) (hu.of_moved (deleteSlot_moved u n) rfl)

/-- A FREE layer names no queue, and a layer just granted names none (R16, R20). -/
theorem execOpenLayer_streams (hl : LayersSound s) (o : Origin) : WhenNext StreamsSound (execOpenLayer o s) := by
  refine whenNext_takeRequest hs (StreamsSound.reads s _ rfl hs) (fun _ => StreamsSound.reads s _ rfl hs) fun rq =>
    answer_keeps (fun _ => StreamsSound.reads s _ rfl hs) ?_
  simp only [serveOpenLayer, whenServed_bind, whenServed_pure, found_eq_ok]
  intro _ _ t _ _ _ _ _ _ _ i hi
  have hfree : s.lt.layers[i] = Layer.freed := (hl i).1 (freeLayer?_eq_some hi)
  refine StreamsSound.reads _ _ (done_parts ..) (StreamsSound.of_names (t := (s.popIntake o).setLayer i _) hs
    (fun j q => ?_) rfl)
  rw [setLayer_layers, setAt_get]
  split
  · rename_i e
    rw [e, hfree]
    exact Iff.rfl
  · exact Iff.rfl

theorem execEditLayer_streams (o : Origin) : WhenNext StreamsSound (execEditLayer o s) :=
  whenNext_request StreamsSound.reads hs fun tk _ hu => makeEdit_passes (fun i _ => hu.makeEdit tk.origin i) StreamsSound.reads

theorem execShowLayer_streams (o : Origin) : WhenNext StreamsSound (execShowLayer o s) := by
  refine whenNext_request StreamsSound.reads hs fun tk u hu => ?_
  simp only [serveShowLayer, whenServed_bind, whenServed_pure]
  exact fun i hi => StreamsSound.reads _ _ (done_parts ..) (hu.of_moved (setShown_moved (ownLayer_passes hi).1 true) rfl)

theorem execHideLayer_streams (o : Origin) : WhenNext StreamsSound (execHideLayer o s) := by
  refine whenNext_request StreamsSound.reads hs fun tk u hu => ?_
  simp only [serveHideLayer, whenServed_bind, whenServed_pure]
  exact fun i hi => StreamsSound.reads _ _ (done_parts ..) (hu.of_moved (setShown_moved (ownLayer_passes hi).1 false) rfl)

theorem execCloseLayer_streams (o : Origin) : WhenNext StreamsSound (execCloseLayer o s) := by
  refine whenNext_request StreamsSound.reads hs fun tk u hu => ?_
  simp only [serveCloseLayer, whenServed_bind, whenServed_pure]
  exact fun i _ => StreamsSound.reads _ _ (endCuesWhere_parts ..)
    ((StreamsSound.reads _ _ (done_parts u tk []) hu).loose.freeLayersWhere _)

theorem execStreamFrame_streams (o : Origin) : WhenNext StreamsSound (execStreamFrame o s) := by
  have hpop : ∀ {t : State}, layerParts t = layerParts s → StreamsSound t := fun h => StreamsSound.reads s _ h hs
  refine whenNext_takeRequest hs (hpop rfl) (fun _ => hpop rfl) fun rq => ?_
  unfold serveStreamFrame
  split
  · exact hpop rfl
  · rename_i q hq
    exact (hpop (popIntake_parts s o)).setQueue (by unfold acceptFrame; rfl)
      (acceptFrame_pending (hs.2.2 q) _ (streamQueueFor_later hq))

theorem StreamsSound.forget (o : Origin) : StreamsSound (s.forget o) := by
  have h1 := StreamsSound.reads _ _ ((forgetCues_parts _ o).trans (setGate_parts _ o .opened)) (hs.discardCopies o)
  have h2 := h1.loose.freeLayersWhere fun _ l => ownedBy o l
  refine StreamsSound.reads _ _ ?_ (h2.of_moved (forgetSlots_moved _ o) (forgetSlots_queues _ o))
  simp only [State.forget, clearMask_parts, forgetFlags_parts, forgetHolds_parts, unbindWhere_parts]

theorem execForget_streams (o : Origin) : WhenNext StreamsSound (execForget o s) := by
  refine whenNext_request StreamsSound.reads hs fun tk u hu => ?_
  simp only [serveForget, whenServed_bind, whenServed_pure]
  exact fun q _ _ _ => (StreamsSound.reads _ _ (done_parts ..) hu).forget q

theorem StreamsSound.setPartState (p : PartState) : StreamsSound (s.setPartState p) := hs.of_tables rfl rfl
theorem StreamsSound.darkLayers : StreamsSound s.darkLayers := hs.of_moved (darkLayers_moved s) rfl

theorem StreamsSound.emptyQueues : StreamsSound s.emptyQueues :=
  hs.mapQueues (f := emptied) rfl rfl (fun _ => rfl) fun _ _ => ⟨Nat.zero_le _, List.Pairwise.nil⟩

theorem execEnterRun_streams (o : Origin) : WhenNext StreamsSound (execEnterRun o s) := by
  refine whenNext_request StreamsSound.reads hs fun tk u hu => ?_
  simp only [serveEnterRun, whenServed_bind, whenServed_pure]
  intro _ _
  split
  · exact StreamsSound.reads _ _ (done_parts ..) (hu.setPartState .run)
  · exact StreamsSound.reads _ _ (done_parts ..) hu

theorem StreamsSound.openGates : StreamsLoose s.openGates := hs.loose.shrink (openGates_names s) rfl

theorem StreamsSound.enterSetup : StreamsSound s.enterSetup := by
  have h1 := (StreamsSound.reads _ _ (endAllCues_parts s .stopped) hs).openGates
  exact (StreamsSound.reads _ _ (releaseHolds_parts _) (h1.freeLayersWhere fun _ l => l.state != .free)).setPartState .setup

theorem execEnterSetup_streams (o : Origin) : WhenNext StreamsSound (execEnterSetup o s) := by
  refine whenNext_request StreamsSound.reads hs fun tk u hu => ?_
  simp only [serveEnterSetup, whenServed_bind, whenServed_pure]
  intro _ _
  split
  · exact StreamsSound.reads _ _ (done_parts ..) hu
  · exact (StreamsSound.reads _ _ (done_parts u tk []) hu).enterSetup

theorem execSleep_streams (o : Origin) : WhenNext StreamsSound (execSleep o s) := by
  refine whenNext_request StreamsSound.reads hs fun tk u hu => ?_
  simp only [serveSleep, whenServed_bind, whenServed_pure]
  intros
  exact StreamsSound.reads _ _ (done_parts ..) (hu.setPartState .settling)

theorem execRestart_streams (o : Origin) : WhenNext StreamsSound (execRestart o s) := by
  refine whenNext_request StreamsSound.reads hs fun tk u _ => ?_
  simp only [serveRestart, whenServed_bind, whenServed_pure]
  intros
  exact StreamsSound.reads _ _ (done_parts ..) (StreamsSound.reads _ _ (restarted_parts u) streamsSound_reset)

theorem StreamsSound.dueStarts (tf : Time) : StreamsSound (s.dueStarts tf) :=
  hs.of_moved (dueStarts_moved s tf) (congrArg SourceBlock.queues (CueFrame.dueStarts s tf).rest.1)

theorem StreamsSound.cueEnds (tf : Time) : StreamsSound (s.cueEnds tf) :=
  hs.of_moved (cueEnds_moved s tf) (congrArg SourceBlock.queues (CueFrame.cueEnds s tf).rest.1)

theorem StreamsSound.stepPresences : StreamsSound s.stepPresences := hs.of_moved (stepPresences_moved s) rfl

theorem StreamsSound.promote (tf : Time) : StreamsSound (s.promote tf) :=
  hs.mapQueues rfl rfl (promoteQueue_bound tf) fun _ h => promoteQueue_pending h tf

theorem StreamsSound.judgeStale : StreamsSound s.judgeStale :=
  hs.mapQueues (f := fun q => { q with stale := isStale s.lt.layers s.sc.local' q }) rfl rfl (fun _ => rfl) fun _ h => h

theorem StreamsSound.beginCompose (tf : Time) : StreamsSound (s.beginCompose tf) := hs.of_tables rfl rfl

theorem StreamsSound.frameStart (tf : Time) : StreamsSound (s.frameStart tf) := by
  have h1 := (((StreamsSound.reads _ _ (raiseFrame_parts s tf) hs).applyGates).dueStarts tf).cueEnds tf
  have h2 := ((StreamsSound.reads _ _ (evaluate_parts _ tf) h1).stepPresences.promote tf).judgeStale
  exact (StreamsSound.reads _ _ (loopsAtFrame_parts _) h2).beginCompose tf

theorem StreamsSound.naturalEnd (c : CueNo) (cue : Cue) : StreamsSound (s.naturalEnd c cue) :=
  hs.of_moved (naturalEnd_moved s c cue) (congrArg SourceBlock.queues (CueFrame.naturalEnd s c cue).rest.1)

theorem StreamsSound.completeCompose (c : Compose) : StreamsSound (s.completeCompose c) :=
  hs.of_names (fun i q => by rw [completeCompose_layer]; exact Iff.rfl) (completeCompose_rest s c).1

theorem StreamsSound.fallAsleep : StreamsSound s.settleLoops.fallAsleep := by
  have h1 := (StreamsSound.reads _ _ (settleLoops_parts s) hs).setPartState .asleep
  have h2 := StreamsSound.reads _ _ (endAllCues_parts _ .sleep) h1
  exact StreamsSound.reads _ _ ((darkWatches_parts _).trans (stopFrames_parts _)) h2.darkLayers.emptyQueues

theorem StreamsSound.completeWake : StreamsSound s.completeWake := by
  have h1 : StreamsSound s.wakeUp := hs.of_tables rfl rfl
  exact (StreamsSound.reads _ _ ((matchWakeList_parts s.wakeUp.wakeLoops).trans (wakeLoops_parts _)) h1).frameStart _

end

theorem exec_streamsSound (c : Instr) (s : State) (hc : setsLayerParts c = true) (hl : LayersSound s)
    (hs : StreamsSound s) : WhenNext StreamsSound (exec c s) := by
  have hreset : ∀ strap raw, StreamsSound (State.fresh strap raw s.pending s.freeCount) := fun strap raw =>
    StreamsSound.reads _ _ (fresh_parts strap raw _ _) streamsSound_reset
  cases c with
  | powerOn strap raw => exact whenNext_next.mpr (hreset _ _)
  | resetPinAssert => exact whenNext_live hs fun _ => hs.of_tables rfl rfl
  | resetPinRelease strap =>
    refine whenNext_next.mpr ?_
    split
    · exact hreset _ _
    · exact hs
  | setOrigin o => exact execSetOrigin_streams hs o
  | deletePattern o => exact execDeletePattern_streams hs o
  | openLayer o => exact execOpenLayer_streams hs hl o
  | editLayer o => exact execEditLayer_streams hs o
  | showLayer o => exact execShowLayer_streams hs o
  | hideLayer o => exact execHideLayer_streams hs o
  | closeLayer o => exact execCloseLayer_streams hs o
  | streamFrame o => exact execStreamFrame_streams hs o
  | forget o => exact execForget_streams hs o
  | enterRun o => exact execEnterRun_streams hs o
  | enterSetup o => exact execEnterSetup_streams hs o
  | sleep o => exact execSleep_streams hs o
  | restart o => exact execRestart_streams hs o
  | frameStart =>
    change WhenNext StreamsSound (execFrameStart s)
    unfold execFrameStart
    split
    · exact whenNext_next.mpr hs
    · exact whenNext_liveWhen hs fun _ _ => hs.frameStart _
  | cueNaturalEnd c =>
    change WhenNext StreamsSound (execCueNaturalEnd c s)
    unfold execCueNaturalEnd atLastFrame
    split
    · exact whenNext_liveWhen hs fun _ _ => hs.naturalEnd c _
    · exact whenNext_next.mpr hs
  | streamStale q =>
    change WhenNext StreamsSound (execStreamStale q s)
    unfold execStreamStale
    split
    · exact whenNext_next.mpr hs
    · exact whenNext_liveWhen hs fun _ _ => hs.setQueue (x := { s.ss.queues[q] with stale := true }) rfl (hs.2.2 q)
  | composeComplete =>
    change WhenNext StreamsSound (execComposeComplete s)
    unfold execComposeComplete
    split
    · exact whenNext_next.mpr hs
    · exact whenNext_live hs fun _ => hs.completeCompose _
  | gateExpiry o =>
    exact whenNext_liveWhen hs fun _ _ =>
      StreamsSound.reads _ _ ((notify_parts ..).trans (setGate_parts ..)) (hs.discardCopies o)
  | settle => exact whenNext_liveWhen hs fun _ _ => hs.fallAsleep
  | wakeCompletion => exact whenNext_liveWhen hs fun _ _ => hs.completeWake
  | _ => cases hc

/-- Settles O12: wherever sources change, the queues that no source names any more are released. -/
theorem stepsKeepStreamQueuesBound : Obligations.StepsKeepStreamQueuesBound := by
  intro s t hl hs h
  refine (keptByStep_of_parts (law := fun s => LayersSound s ∧ StreamsSound s) (fun u v e huv => ?_)
    (fun c u hc hu v hv => ?_) s t ⟨hl, hs⟩ h).2
  · exact ⟨LayersSound.reads _ _ e huv.1, StreamsSound.reads _ _ e huv.2⟩
  · exact ⟨exec_layersSound c u hc hu.1 v hv, exec_streamsSound c u hc hu.1 hu.2 v hv⟩

end Sys2Proof.Machine

/-! PROOF. The presence step (R29). -/

namespace Sys2Proof.Machine

/-- Whole milliseconds stand on both sides of R29's quotient. -/
theorem fadeStep_eq (p f : Nat) : fadeStep p f = max 1 (65535 * p / f) := by
  rw [fadeStep, Nat.mul_div_mul_right _ _ (by decide : 0 < 1000)]

theorem stepPresence_up {p fadeIn : Nat} (fadeOut presence : Nat) (h : 0 < fadeIn) :
    stepPresence p true fadeIn fadeOut presence = min 65535 (presence + max 1 (65535 * p / fadeIn)) := by
  rw [stepPresence, if_pos rfl, if_neg (Nat.ne_of_gt h), fadeStep_eq]

theorem stepPresence_down {p fadeOut : Nat} (fadeIn presence : Nat) (h : 0 < fadeOut) :
    stepPresence p false fadeIn fadeOut presence = presence - max 1 (65535 * p / fadeOut) := by
  rw [stepPresence, if_neg Bool.false_ne_true, if_neg (Nat.ne_of_gt h), fadeStep_eq]

/-- A step up gains its whole amount, or reaches 65535; fade time 0 reaches it at once. -/
theorem le_stepPresence_up (p fadeIn fadeOut presence : Nat) :
    min 65535 (presence + max 1 (65535 * p / fadeIn)) ≤ stepPresence p true fadeIn fadeOut presence := by
  rcases Nat.eq_zero_or_pos fadeIn with rfl | h
  · exact Nat.min_le_left ..
  · rw [stepPresence_up fadeOut presence h]

/-- A step down loses its whole amount, or reaches 0; fade time 0 reaches it at once. -/
theorem stepPresence_down_le (p fadeIn fadeOut presence : Nat) :
    stepPresence p false fadeIn fadeOut presence ≤ presence - max 1 (65535 * p / fadeOut) := by
  rcases Nat.eq_zero_or_pos fadeOut with rfl | h
  · exact Nat.zero_le _
  · rw [stepPresence_down fadeIn presence h]

theorem iterate_up (p fadeIn fadeOut n : Nat) {presence : Nat} (hp : presence ≤ 65535) :
    min 65535 (presence + n * max 1 (65535 * p / fadeIn)) ≤ (stepPresence p true fadeIn fadeOut)^[n] presence ∧
      (stepPresence p true fadeIn fadeOut)^[n] presence ≤ 65535 := by
  induction n generalizing presence with
  | zero => simpa using hp
  | succ n ih =>
    have hstep := le_stepPresence_up p fadeIn fadeOut presence
    obtain ⟨hlow, hhigh⟩ := ih (stepPresence_le p true fadeIn fadeOut hp)
    rw [Function.iterate_succ_apply]
    refine ⟨?_, hhigh⟩
    rw [Nat.succ_mul]
    omega

theorem iterate_down (p fadeIn fadeOut n presence : Nat) :
    (stepPresence p false fadeIn fadeOut)^[n] presence ≤ presence - n * max 1 (65535 * p / fadeOut) := by
  induction n generalizing presence with
  | zero => simp
  | succ n ih =>
    have hstep := stepPresence_down_le p fadeIn fadeOut presence
    have hrest := ih (stepPresence p false fadeIn fadeOut presence)
    rw [Function.iterate_succ_apply, Nat.succ_mul]
    omega

/-- Settles O24: each step moves by R29's amount, so that enough of them reach the target. -/
theorem presenceReachesItsTarget : Obligations.PresenceReachesItsTarget := by
  intro p fadeIn fadeOut presence hp
  have hup := le_stepPresence_up p fadeIn fadeOut presence
  have hdown := stepPresence_down_le p fadeIn fadeOut presence
  refine ⟨⟨by omega, stepPresence_le _ _ _ _ hp, by omega⟩, ⟨rfl, rfl⟩, stepPresence_up fadeOut presence,
    stepPresence_down fadeIn presence, fun n hn => ?_, fun n hn => ?_⟩
  · obtain ⟨hlow, hhigh⟩ := iterate_up p fadeIn fadeOut n hp
    exact Nat.le_antisymm hhigh (by omega)
  · have hlow := iterate_down p fadeIn fadeOut n presence
    exact Nat.le_zero.mp (by omega)

end Sys2Proof.Machine

/-! PROOF. GATE_CLOSE, GATE_OPEN and the expiry of a gate (R32, R34, R36). -/

namespace Sys2Proof.Machine

theorem popIntake_inSetup {s : State} (h : Running s) (o : Origin) : (s.popIntake o).inSetup = false := by
  rcases h with h | h <;> simp [State.inSetup, State.popIntake, h]

/-! ## The two requests -/

section
variable {o : Origin} {s : State} {rq : Intake}

theorem exec_gateClose (h : Takes s o .gateClose rq) : exec (.gateClose o) s =
    .next (answer ⟨o, rq⟩ (s.popIntake o) (serveGateClose ⟨o, rq⟩ (leAt rq.data 2 2) (s.popIntake o))) :=
  takeRequest_takes (fun tk s => answer tk s (serveGateClose tk (leAt tk.req.data 2 2) s)) h

theorem exec_gateOpen (h : Takes s o .gateOpen rq) : exec (.gateOpen o) s =
    .next (answer ⟨o, rq⟩ (s.popIntake o) (serveGateOpen ⟨o, rq⟩ (s.popIntake o))) :=
  takeRequest_takes (fun tk s => answer tk s (serveGateOpen tk s)) h

/-- A timeout that 20 to 2000 does not hold is a clamp; 0 selects the default (R32). -/
theorem clampTimeout_ne (t : Nat) : (t ≠ 0 ∧ clampTimeout t ≠ t) ↔ (t ≠ 0 ∧ (t < 20 ∨ 2000 < t)) := by
  unfold clampTimeout
  refine and_congr_right fun h => ?_
  rw [if_neg h]
  omega

theorem exec_gateClose_closed (hrun : Running s) (h : Takes s o .gateClose rq) {d : Time} (hg : s.gate o = .closed d) :
    exec (.gateClose o) s = .next (served s o rq .done false false []) := by
  have hg' : (s.popIntake o).gate o = .closed d := hg
  rw [exec_gateClose h, serveGateClose, popIntake_inSetup hrun, require_false_bind]
  simp only [hg', pure, Except.pure, answer_ok, done_popIntake]

theorem exec_gateClose_shut (hrun : Running s) (h : Takes s o .gateClose rq) (hg : ∀ d, s.gate o ≠ .closed d) :
    exec (.gateClose o) s = .next (served
      (s.setGate o (.closed (s.sc.local' + BitVec.ofNat 48 (clampTimeout (leAt rq.data 2 2) * 1000)))) o rq .done
      (decide (leAt rq.data 2 2 ≠ 0 ∧ (leAt rq.data 2 2 < 20 ∨ 2000 < leAt rq.data 2 2))) false []) := by
  rw [exec_gateClose h, serveGateClose, popIntake_inSetup hrun, require_false_bind,
    ← decide_eq_decide.mpr (clampTimeout_ne (leAt rq.data 2 2)), ← reply_popIntake]
  split
  · rename_i d hd
    exact absurd hd (hg d)
  · rfl

theorem exec_gateOpen_closed (hrun : Running s) (h : Takes s o .gateOpen rq) {d : Time} (hg : s.gate o = .closed d) :
    exec (.gateOpen o) s = .next (served (s.setGate o .opening) o rq .done false false []) := by
  have hg' : (s.popIntake o).gate o = .closed d := hg
  rw [exec_gateOpen h, serveGateOpen, popIntake_inSetup hrun, require_false_bind, ← reply_popIntake]
  simp only [hg']
  rfl

theorem exec_gateOpen_kept (hrun : Running s) (h : Takes s o .gateOpen rq) (hg : ∀ d, s.gate o ≠ .closed d) :
    exec (.gateOpen o) s = .next (served s o rq .done false false []) := by
  rw [exec_gateOpen h, serveGateOpen, popIntake_inSetup hrun, require_false_bind, ← reply_popIntake]
  split
  · rename_i d hd
    exact absurd hd (hg d)
  · rfl

end

/-! ## Tables given record by record -/

/-- A table given record by record as another one changed by `f`. -/
theorem eq_mapAt {α β : Type} {n : Nat} {v : Vector β n} {w : Vector α n} {f : Fin n → α → β}
    (h : ∀ i : Fin n, v[i] = f i w[i]) : v = mapAt w f :=
  vec_ext fun i => (h i).trans (mapAt_get ..).symm

theorem eq_setAt {α : Type} {n : Nat} {v w : Vector α n} {i : Fin n} {x : α}
    (h : ∀ j : Fin n, v[j] = if j = i then x else w[j]) : v = setAt w i x :=
  vec_ext fun j => (h j).trans (setAt_get ..).symm

/-- The queues after a release, given one by one (R25). -/
theorem releaseQueues_eq {s : State} {queues : Vector StreamQueue 2}
    (h : ∀ q : QueueNo, queues[q] = match s.ss.queues[q].bound with
      | none => s.ss.queues[q]
      | some l => if usesStream s.lt.layers[l] = true then s.ss.queues[q] else ⟨none, none, [], none, false⟩) :
    s.releaseQueues = { s with ss := { s.ss with queues := queues } } := by
  have hq : queues = s.releaseQueues.ss.queues :=
    vec_ext fun q => (h q).trans (releaseQueues_queue s q).symm
  rw [hq]
  rfl

/-! ## Expiry -/

theorem execGateExpiry_waits {o : Origin} {s : State} (h : s.gateExpired o = false) :
    exec (.gateExpiry o) s = .next s := by
  change s.liveWhen (s.gateExpired o) (s.expireGate o) = .next s
  rw [h, liveWhen_false]

theorem execGateExpiry_expires {o : Origin} {s : State} (hr : s.ps.resetHeld = false) (h : s.gateExpired o = true) :
    exec (.gateExpiry o) s = .next (s.expireGate o) := by
  change s.liveWhen (s.gateExpired o) (s.expireGate o) = _
  rw [h, liveWhen_true _ hr]

theorem expireGate_eq {o : Origin} {s : State} {ls : Vector Layer 16} {queues : Vector StreamQueue 2}
    (hls : ∀ i : LayerNo, ls[i] =
      if s.lt.layers[i].owner = some o then { s.lt.layers[i] with copy := none } else s.lt.layers[i])
    (hqs : ∀ q : QueueNo, queues[q] = match s.ss.queues[q].bound with
      | none => s.ss.queues[q]
      | some l => if usesStream ls[l] = true then s.ss.queues[q] else ⟨none, none, [], none, false⟩) :
    s.expireGate o = (State.setGate { s with lt := { s.lt with layers := ls }, ss := { s.ss with queues := queues } } o
      .opened).notify o .gateExpired := by
  have hmap : ls = mapAt s.lt.layers fun _ l => if l.owner = some o then { l with copy := none } else l := eq_mapAt hls
  subst hmap
  rw [State.expireGate, State.discardCopies, releaseQueues_eq hqs]
  rfl

/-- Settles O46: each request by the gate's state, and the expiry by its deadline. -/
theorem gatesCloseOpenAndExpire : Obligations.GatesCloseOpenAndExpire := by
  refine ⟨fun o s rq hrun => ⟨fun h => ⟨fun ⟨_, hg⟩ => exec_gateClose_closed hrun h hg, exec_gateClose_shut hrun h⟩,
    fun h => ⟨fun ⟨_, hg⟩ => exec_gateOpen_closed hrun h hg, exec_gateOpen_kept hrun h⟩⟩, fun o s hr => ⟨fun hg => ?_,
    fun d hg => ⟨fun hd => ?_, fun hd ls queues hls hqs => ?_⟩⟩⟩
  · refine execGateExpiry_waits ?_
    unfold State.gateExpired
    split
    · rename_i d hd
      exact absurd hd (hg d)
    · rfl
  · refine execGateExpiry_waits ?_
    simp only [State.gateExpired, hg, timeDiff, ge_iff_le, decide_eq_false_iff_not]
    exact Int.not_le.mpr hd
  · rw [execGateExpiry_expires hr, expireGate_eq hls hqs]
    simp only [State.gateExpired, hg, timeDiff, ge_iff_le, decide_eq_true_eq]
    exact hd

end Sys2Proof.Machine

/-! PROOF. OPEN_LAYER, SHOW_LAYER, HIDE_LAYER and CLOSE_LAYER (R20, R27, R28, R33), and the ends of cues that a closed or a
preempted layer brings (R113). -/

namespace Sys2Proof.Machine

/-! ## The first record that a test holds for -/

theorem find_finRange_eq_some {n : Nat} {p : Fin n → Bool} {i : Fin n} :
    (List.finRange n).find? p = some i ↔ p i = true ∧ ∀ j < i, p j = false := by
  rw [List.find?_eq_some_iff_getElem]
  refine and_congr_right fun _ => ⟨fun ⟨k, hk, hki, hlow⟩ j hj => ?_, fun hlow => ?_⟩
  · have hkv : k = i.val := by simpa using congrArg Fin.val hki
    have := hlow j.val (by rw [hkv]; exact hj)
    simpa using this
  · exact ⟨i.val, by simp, by simp, fun j hj => by simpa using hlow ⟨j, by omega⟩ hj⟩

theorem foldl_fixed {α β : Type} {f : β → α → β} {l : List α} {b : β} (h : ∀ a ∈ l, f b a = b) : l.foldl f b = b := by
  induction l with
  | nil => rfl
  | cons a l ih =>
    rw [List.foldl_cons, h a List.mem_cons_self]
    exact ih fun x hx => h x (List.mem_cons_of_mem _ hx)

/-! ## Ends of cues by a test -/

theorem endCuesWhere_none {s : State} {p : Cue → Bool} (why : EndReason)
    (h : ∀ (c : CueNo) (cue : Cue), s.ce.cues[c] = some cue → p cue = false) : s.endCuesWhere p why = s := by
  refine foldl_fixed fun c _ => ?_
  split
  · rfl
  · rw [h c _ (by assumption)]; rfl

theorem endCue_cues (s : State) (c : CueNo) (cue : Cue) (why : EndReason) :
    (s.endCue c cue why).ce.cues = setAt s.ce.cues c (some { cue with run := .ready }) := by
  rw [State.endCue, notify_frame]; rfl

/-- One cue alone meets the test: it alone ends. -/
theorem endCuesWhere_one {s : State} {p : Cue → Bool} {c : CueNo} {cue : Cue} (why : EndReason)
    (hc : s.ce.cues[c] = some cue) (hp : p cue = true)
    (h : ∀ (d : CueNo) (y : Cue), s.ce.cues[d] = some y → p y = true → d = c) :
    s.endCuesWhere p why = s.endCue c cue why := by
  obtain ⟨before, after, hl⟩ := List.append_of_mem (List.mem_finRange c)
  have hnodup := List.nodup_finRange 24
  rw [hl] at hnodup
  obtain ⟨-, hnodup, hdisj⟩ := List.nodup_append.mp hnodup
  have hskip : ∀ (u : State) (d : CueNo), u.ce.cues[d] = s.ce.cues[d] → d ≠ c →
      (match u.ce.cues[d] with
        | none => u
        | some cue => if p cue = true then u.endCue d cue why else u) = u := by
    intro u d hu hd
    split
    · rfl
    · rename_i y hy
      rw [if_neg fun e => hd (h d y (hu ▸ hy) e)]
  unfold State.endCuesWhere
  rw [hl, List.foldl_append, foldl_fixed fun d hd => hskip s d rfl (hdisj d hd c List.mem_cons_self), List.foldl_cons, hc]
  dsimp only
  rw [if_pos hp]
  refine foldl_fixed fun d hd => ?_
  have hdc : d ≠ c := fun e => (List.nodup_cons.mp hnodup).1 (e ▸ hd)
  refine hskip _ d ?_ hdc
  simp only [endCue_cues, setAt_get, if_neg hdc]

theorem activeOn_iff {i : LayerNo} {cue : Cue} : activeOn i cue = true ↔ cue.run.active = true ∧ cue.layer = i := by
  simp [activeOn]

/-! ## OPEN_LAYER -/

section
variable {o : Origin} {s : State} {rq : Intake}

theorem exec_openLayer (h : Takes s o .openLayer rq) : exec (.openLayer o) s =
    .next (answer ⟨o, rq⟩ (s.popIntake o) (serveOpenLayer ⟨o, rq⟩ (byteAt rq.data 2) (s.popIntake o))) :=
  takeRequest_takes (fun tk s => answer tk s (serveOpenLayer tk (byteAt tk.req.data 2) s)) h

/-- The shortfalls of the origins other than `o` (R18, R20). -/
def otherShortfalls (s : State) (o : Origin) : Nat :=
  ((Origin.all.filter (· != o)).map fun q => (s.originRec q).reserve - s.heldCount q).sum

/-- Check 5 of R20. -/
theorem reservesRefuse_iff : s.reservesRefuse o = true ↔
    (s.originRec o).reserve ≤ s.heldCount o ∧ s.freeCountOfLayers ≤ otherShortfalls s o := by
  have hsum : (Origin.all.map fun q => if q = o then 0 else s.shortfall q).sum = otherShortfalls s o := by
    cases o <;> simp [otherShortfalls, Origin.all, State.shortfall]
  simp only [State.reservesRefuse, hsum, Bool.and_eq_true, decide_eq_true_eq]
  omega

theorem freeLayer?_of_lowest {i : LayerNo} (hi : s.lt.layers[i].state = .free)
    (hlow : ∀ j : LayerNo, j < i → s.lt.layers[j].state ≠ .free) : s.freeLayer? = some i :=
  find_finRange_eq_some.mpr ⟨beq_iff_eq.mpr hi, fun j hj => beq_eq_false_iff_ne.mpr (hlow j hj)⟩

theorem serveOpenLayer_checks (hrun : Running s) (tier : Tier) :
    serveOpenLayer ⟨o, rq⟩ tier.val (s.popIntake o) =
      (require (decide (tier > (s.originRec o).maxTier)) .noRight >>= fun _ =>
        require (s.heldCount o == (s.originRec o).limit) .noRoom >>= fun _ =>
        require (s.reservesRefuse o) .noRoom >>= fun _ =>
        found s.freeLayer? .noRoom >>= fun i =>
        .ok (((s.setLayer i (Layer.granted o tier)).popIntake o).done ⟨o, rq⟩ [oneByte i.val])) := by
  rw [serveOpenLayer, popIntake_inSetup hrun, require_false_bind, fin?_val]
  rfl

theorem exec_openLayer_badValue (hrun : Running s) (h : Takes s o .openLayer rq) (hb : 5 < byteAt rq.data 2) :
    exec (.openLayer o) s = .next (turnedAway s o rq .badValue) := by
  rw [exec_openLayer h, serveOpenLayer, popIntake_inSetup hrun, require_false_bind, fin?_ge hb, found_none_bind,
    answer_error, refuse_popIntake]

theorem exec_openLayer_noRight (hrun : Running s) (h : Takes s o .openLayer rq) {tier : Tier}
    (ht : byteAt rq.data 2 = tier.val) (hr : (s.originRec o).maxTier < tier) :
    exec (.openLayer o) s = .next (turnedAway s o rq .noRight) := by
  rw [exec_openLayer h, ht, serveOpenLayer_checks hrun, decide_eq_true hr, require_true_bind, answer_error,
    refuse_popIntake]

theorem exec_openLayer_noRoom (hrun : Running s) (h : Takes s o .openLayer rq) {tier : Tier}
    (ht : byteAt rq.data 2 = tier.val) (hr : tier ≤ (s.originRec o).maxTier)
    (hfull : s.heldCount o = (s.originRec o).limit ∨
      (s.originRec o).reserve ≤ s.heldCount o ∧ s.freeCountOfLayers ≤ otherShortfalls s o) :
    exec (.openLayer o) s = .next (turnedAway s o rq .noRoom) := by
  rw [exec_openLayer h, ht, serveOpenLayer_checks hrun, decide_eq_false (Fin.not_lt.mpr hr), require_false_bind]
  cases hlim : s.heldCount o == (s.originRec o).limit with
  | true => rw [require_true_bind, answer_error, refuse_popIntake]
  | false =>
    rw [require_false_bind, reservesRefuse_iff.mpr (hfull.resolve_left (beq_eq_false_iff_ne.mp hlim)), require_true_bind,
      answer_error, refuse_popIntake]

theorem exec_openLayer_granted (hrun : Running s) (h : Takes s o .openLayer rq) {tier : Tier}
    (ht : byteAt rq.data 2 = tier.val) (hr : tier ≤ (s.originRec o).maxTier)
    (hlim : s.heldCount o ≠ (s.originRec o).limit)
    (hroom : s.heldCount o < (s.originRec o).reserve ∨ otherShortfalls s o < s.freeCountOfLayers) {i : LayerNo}
    (hi : s.lt.layers[i].state = .free) (hlow : ∀ j : LayerNo, j < i → s.lt.layers[j].state ≠ .free) :
    exec (.openLayer o) s = .next (served (s.setLayer i (Layer.granted o tier)) o rq .done false false [oneByte i.val]) := by
  have hres : s.reservesRefuse o = false := by
    rw [← Bool.not_eq_true, reservesRefuse_iff]
    omega
  rw [exec_openLayer h, ht, serveOpenLayer_checks hrun, decide_eq_false (Fin.not_lt.mpr hr), require_false_bind,
    beq_eq_false_iff_ne.mpr hlim, require_false_bind, hres, require_false_bind, freeLayer?_of_lowest hi hlow,
    found_some_bind, answer_ok, done_popIntake]

/-! ## The own layer -/

theorem ownLayer_own (hrun : Running s) {i : LayerNo} (hown : s.lt.layers[i].state ≠ .free ∧ s.lt.layers[i].owner = some o) :
    ownLayer ⟨o, rq⟩ i.val (s.popIntake o) = .ok i := by
  have ho : ownedBy o (s.popIntake o).lt.layers[i] = true := ownedBy_iff.mpr hown
  rw [ownLayer, popIntake_inSetup hrun, require_false_bind, fin?_val, found_some_bind, ho]
  rfl

theorem ownLayer_foreign (hrun : Running s) {i : LayerNo}
    (hown : ¬(s.lt.layers[i].state ≠ .free ∧ s.lt.layers[i].owner = some o)) :
    ownLayer ⟨o, rq⟩ i.val (s.popIntake o) = .error .notOwner := by
  have ho : ownedBy o (s.popIntake o).lt.layers[i] = false := Bool.eq_false_iff.mpr fun e => hown (ownedBy_iff.mp e)
  rw [ownLayer, popIntake_inSetup hrun, require_false_bind, fin?_val, found_some_bind, ho]
  rfl

/-! ## SHOW_LAYER and HIDE_LAYER -/

theorem exec_showLayer (h : Takes s o .showLayer rq) : exec (.showLayer o) s =
    .next (answer ⟨o, rq⟩ (s.popIntake o) (serveShowLayer ⟨o, rq⟩ (byteAt rq.data 2) (s.popIntake o))) :=
  takeRequest_takes (fun tk s => answer tk s (serveShowLayer tk (byteAt tk.req.data 2) s)) h

theorem exec_hideLayer (h : Takes s o .hideLayer rq) : exec (.hideLayer o) s =
    .next (answer ⟨o, rq⟩ (s.popIntake o) (serveHideLayer ⟨o, rq⟩ (byteAt rq.data 2) (s.popIntake o))) :=
  takeRequest_takes (fun tk s => answer tk s (serveHideLayer tk (byteAt tk.req.data 2) s)) h

/-- A layer shown or hidden, live or in its staged copy (R27, R33). -/
theorem setShown_eq (o : Origin) (i : LayerNo) (shown : Bool) : s.setShown o i shown = s.setLayer i
    (if s.gate o = .opened then { s.lt.layers[i] with state := if shown then .shown else .held }
    else { s.lt.layers[i] with copy := some { filledCopy s.lt.layers[i] with shown := shown } }) := by
  unfold State.setShown
  cases s.gate o <;> rfl

theorem exec_showLayer_foreign (hrun : Running s) (h : Takes s o .showLayer rq) {i : LayerNo}
    (hi : byteAt rq.data 2 = i.val) (hown : ¬(s.lt.layers[i].state ≠ .free ∧ s.lt.layers[i].owner = some o)) :
    exec (.showLayer o) s = .next (turnedAway s o rq .notOwner) := by
  rw [exec_showLayer h, hi, serveShowLayer, ownLayer_foreign hrun hown]
  exact congrArg _ (refuse_popIntake ..)

theorem exec_showLayer_own (hrun : Running s) (h : Takes s o .showLayer rq) {i : LayerNo}
    (hi : byteAt rq.data 2 = i.val) (hown : s.lt.layers[i].state ≠ .free ∧ s.lt.layers[i].owner = some o) :
    exec (.showLayer o) s = .next (served (s.setShown o i true) o rq .done false false []) := by
  rw [exec_showLayer h, hi, serveShowLayer, ownLayer_own hrun hown]
  exact congrArg _ (done_popIntake (s.setShown o i true) o rq [])

theorem exec_hideLayer_foreign (hrun : Running s) (h : Takes s o .hideLayer rq) {i : LayerNo}
    (hi : byteAt rq.data 2 = i.val) (hown : ¬(s.lt.layers[i].state ≠ .free ∧ s.lt.layers[i].owner = some o)) :
    exec (.hideLayer o) s = .next (turnedAway s o rq .notOwner) := by
  rw [exec_hideLayer h, hi, serveHideLayer, ownLayer_foreign hrun hown]
  exact congrArg _ (refuse_popIntake ..)

theorem exec_hideLayer_own (hrun : Running s) (h : Takes s o .hideLayer rq) {i : LayerNo}
    (hi : byteAt rq.data 2 = i.val) (hown : s.lt.layers[i].state ≠ .free ∧ s.lt.layers[i].owner = some o) :
    exec (.hideLayer o) s = .next (served (s.setShown o i false) o rq .done false false []) := by
  rw [exec_hideLayer h, hi, serveHideLayer, ownLayer_own hrun hown]
  exact congrArg _ (done_popIntake (s.setShown o i false) o rq [])

/-! ## CLOSE_LAYER -/

theorem exec_closeLayer (h : Takes s o .closeLayer rq) : exec (.closeLayer o) s =
    .next (answer ⟨o, rq⟩ (s.popIntake o) (serveCloseLayer ⟨o, rq⟩ (byteAt rq.data 2) (s.popIntake o))) :=
  takeRequest_takes (fun tk s => answer tk s (serveCloseLayer tk (byteAt tk.req.data 2) s)) h

theorem exec_closeLayer_foreign (hrun : Running s) (h : Takes s o .closeLayer rq) {i : LayerNo}
    (hi : byteAt rq.data 2 = i.val) (hown : ¬(s.lt.layers[i].state ≠ .free ∧ s.lt.layers[i].owner = some o)) :
    exec (.closeLayer o) s = .next (turnedAway s o rq .notOwner) := by
  rw [exec_closeLayer h, hi, serveCloseLayer, ownLayer_foreign hrun hown]
  exact congrArg _ (refuse_popIntake ..)

theorem exec_closeLayer_own (hrun : Running s) (h : Takes s o .closeLayer rq) {i : LayerNo}
    (hi : byteAt rq.data 2 = i.val) (hown : s.lt.layers[i].state ≠ .free ∧ s.lt.layers[i].owner = some o) :
    exec (.closeLayer o) s = .next
      (((served s o rq .done false false []).freeLayersWhere fun j _ => j == i).endCuesWhere (activeOn i) .layerGone) := by
  rw [exec_closeLayer h, hi, serveCloseLayer, ownLayer_own hrun hown, ← done_popIntake]
  rfl

theorem markSet_single (i : LayerNo) : (markSet fun j : LayerNo => j == i) = BitVec.twoPow 16 i.val := by
  refine BitVec.eq_of_getLsbD_eq fun j hj => ?_
  rw [markSet_getLsbD _ ⟨j, hj⟩, BitVec.getLsbD_twoPow, Bool.eq_iff_iff]
  simp only [beq_iff_eq, Fin.ext_iff, Bool.and_eq_true, decide_eq_true_eq]
  omega

/-- One layer freed: its record, the queue it held, its gone mark in a compose in flight (R25, R28, R67). -/
theorem freeLayersWhere_single (hs : StreamsSound s) (i : LayerNo) {queues : Vector StreamQueue 2}
    (hq : ∀ q : QueueNo, queues[q] =
      if s.ss.queues[q].bound = some i then ⟨none, none, [], none, false⟩ else s.ss.queues[q]) :
    (s.freeLayersWhere fun j _ => j == i) =
      { s with lt := { s.lt with layers := setAt s.lt.layers i Layer.freed }
               ss := { s.ss with queues := queues }
               co := { s.co with inFlight := s.co.inFlight.map fun c =>
                 { c with gone := c.gone ||| BitVec.twoPow 16 i.val } } } := by
  have hlayers : (mapAt s.lt.layers fun j l => if (j == i) = true then Layer.freed else l) =
      setAt s.lt.layers i Layer.freed := by
    refine eq_setAt fun j => ?_
    simp only [mapAt_get, beq_iff_eq]
  unfold State.freeLayersWhere
  dsimp only
  rw [markSet_single, releaseQueues_eq (queues := queues) fun q => ?_]
  · rw [State.mapLayers, hlayers]
    rfl
  · rw [hq]
    dsimp only [mapLayers_ss, mapLayers_layers]
    cases hb : s.ss.queues[q].bound with
    | none => rw [if_neg nofun]
    | some j =>
      have hnames := (hs.1 q j).mp hb
      simp only [hlayers, setAt_get, Option.some.injEq]
      by_cases hj : j = i
      · rw [if_pos hj, if_pos hj, if_neg]
        exact fun hu => (usesStream_iff.mp hu).elim not_namesQueue_freed
      · rw [if_neg hj, if_neg hj, if_pos (usesStream_iff.mpr ⟨q, hnames⟩)]

end

/-- Settles O44: the checks of OPEN_LAYER in turn, the own layer's state, and what a closed layer takes with it. -/
theorem layersAreOpenedShownAndClosed : Obligations.LayersAreOpenedShownAndClosed := by
  intro o s rq hrun
  refine ⟨fun h => ⟨exec_openLayer_badValue hrun h, fun tier ht => ⟨exec_openLayer_noRight hrun h ht, fun hr =>
    ⟨exec_openLayer_noRoom hrun h ht hr, fun hlim hroom i => exec_openLayer_granted hrun h ht hr hlim hroom⟩⟩⟩, fun i hi =>
    ⟨fun h => ⟨exec_showLayer_foreign hrun h hi, fun hown => ?_⟩, fun h => ⟨exec_hideLayer_foreign hrun h hi, fun hown => ?_⟩,
    fun h hstreams hcues => ⟨exec_closeLayer_foreign hrun h hi, fun hown queues hq => ?_⟩⟩⟩
  · rw [exec_showLayer_own hrun h hi hown, setShown_eq]; rfl
  · rw [exec_hideLayer_own hrun h hi hown, setShown_eq]; rfl
  · have hserved : StreamsSound (served s o rq .done false false []) := StreamsSound.reads s _ rfl hstreams
    obtain ⟨-, -, -, -, hone⟩ := hcues
    rw [exec_closeLayer_own hrun h hi hown]
    refine ⟨fun hnone => ?_, fun c cue hc hact hlayer => ?_⟩
    · rw [endCuesWhere_none .layerGone fun c cue hc => Bool.eq_false_iff.mpr fun hp => ?_,
        freeLayersWhere_single hserved i hq]
      · rfl
      · obtain ⟨hact, hlayer⟩ := activeOn_iff.mp hp
        exact hnone c cue hc hact hlayer
    · rw [endCuesWhere_one (s := (served s o rq .done false false []).freeLayersWhere fun j _ => j == i) .layerGone hc
        (activeOn_iff.mpr ⟨hact, hlayer⟩) fun d y hd hp => ?_, State.endCue, hlayer, freeLayersWhere_single hserved i hq]
      · rfl
      · obtain ⟨hy, hyl⟩ := activeOn_iff.mp hp
        exact hone d c y cue hd hc hy hact (hyl.trans hlayer.symm)

end Sys2Proof.Machine

/-! PROOF. What folds over a table's records tell the origins, and ENTER_RUN, ENTER_SETUP and SLEEP (R188, R189, R190). -/

namespace Sys2Proof.Machine

/-! ## Notices read the ports alone -/

theorem notify_mp_congr {u v : State} (h : u.mp = v.mp) (o : Origin) (n : Notice) :
    (u.notify o n).mp = (v.notify o n).mp := by
  unfold State.notify State.port
  rw [h]
  dsimp only
  repeat' split
  all_goals simp only [State.setPort, h]

theorem notifyAll_mp_congr {u v : State} (h : u.mp = v.mp) (n : Notice) : (u.notifyAll n).mp = (v.notifyAll n).mp := by
  simp only [State.notifyAll, Origin.all, List.foldl]
  exact notify_mp_congr (notify_mp_congr (notify_mp_congr (notify_mp_congr h _ _) _ _) _ _) _ _

theorem notify_mp (s : State) (o : Origin) (n : Notice) :
    (s.notify o n).mp = { s.mp with ports := (s.notify o n).mp.ports } := by
  conv_lhs => rw [notify_frame]

/-- A fold in which step `i` changes record `i` alone and tells what it tells by that record tells what a fold tells that reads
every record as it was at the start. -/
theorem foldl_told {n : Nat} {α β : Type} (table : State → Vector α n) (part : State → β) {f tell : State → Fin n → State}
    {start : State} (hpart : ∀ s i, part (f s i) = part s)
    (hstep : ∀ s i j, j ≠ i → (table (f s i))[j] = (table s)[j])
    (htell : ∀ u v i, part u = part start → (table u)[i] = (table start)[i] → u.mp = v.mp → (f u i).mp = (tell v i).mp)
    (l : List (Fin n)) (hl : l.Nodup) (u v : State) (hu : part u = part start)
    (hrec : ∀ i ∈ l, (table u)[i] = (table start)[i]) (hmp : u.mp = v.mp) : (l.foldl f u).mp = (l.foldl tell v).mp := by
  induction l generalizing u v with
  | nil => exact hmp
  | cons i l ih =>
    obtain ⟨hi, hl⟩ := List.nodup_cons.mp hl
    refine ih hl _ _ ((hpart u i).trans hu) (fun j hj => ?_) (htell u v i hu (hrec i List.mem_cons_self) hmp)
    exact (hstep u i j fun e => hi (e ▸ hj)).trans (hrec j (List.mem_cons_of_mem _ hj))

/-! ## Ends of all cues that meet a test -/

/-- A cue as an end of those that meet the test leaves it. -/
def endedBy (p : Cue → Bool) (cue : Cue) : Cue := if p cue then { cue with run := .ready } else cue

/-- One step of such an end. -/
def endIf (p : Cue → Bool) (why : EndReason) (s : State) (c : CueNo) : State :=
  match s.ce.cues[c] with
  | none => s
  | some cue => if p cue then s.endCue c cue why else s

theorem endCuesWhere_eq (s : State) (p : Cue → Bool) (why : EndReason) :
    s.endCuesWhere p why = List.foldl (α := State) (β := Fin 24) (endIf p why) s (List.finRange 24) := rfl

theorem endIf_cues (p : Cue → Bool) (why : EndReason) (s : State) (c : CueNo) :
    (endIf p why s c).ce.cues = setAt s.ce.cues c (s.ce.cues[c].map (endedBy p)) := by
  unfold endIf
  cases hc : s.ce.cues[c] with
  | none => exact (hc ▸ setAt_self s.ce.cues c).symm
  | some cue =>
    rw [Option.map_some, endedBy]
    by_cases hp : p cue = true
    · rw [if_pos hp]
      simp only [if_pos hp, endCue_cues]
    · rw [if_neg hp]
      simp only [if_neg hp]
      exact (hc ▸ setAt_self s.ce.cues c).symm

theorem endIf_cue (p : Cue → Bool) (why : EndReason) (s : State) (c d : CueNo) :
    (endIf p why s c).ce.cues[d] = if d = c then s.ce.cues[c].map (endedBy p) else s.ce.cues[d] := by
  rw [endIf_cues, setAt_get]

/-- The cues after the end of all that meet a test. -/
theorem endCuesWhere_cue (s : State) (p : Cue → Bool) (why : EndReason) (c : CueNo) :
    (s.endCuesWhere p why).ce.cues[c] = s.ce.cues[c].map (endedBy p) := by
  simp only [endCuesWhere_eq]
  exact foldl_all_records (f := endIf p why) (·.ce.cues) (fun _ => ()) (fun _ _ x => x.map (endedBy p)) (fun _ _ => rfl)
    (endIf_cue p why) s c

/-- The notices of those ends, in ascending cue number (R113, R115). -/
theorem endCuesWhere_mp (s : State) (p : Cue → Bool) (why : EndReason) :
    (s.endCuesWhere p why).mp = (endsTold s.ce.cues (fun _ cue => p cue) why s).mp := by
  refine foldl_told (fun u => u.ce.cues) (fun _ => ()) (start := s) (fun _ _ => rfl) (fun u c d hd => ?_)
    (fun u v c _ hc hmp => ?_) _ (List.nodup_finRange 24) s s rfl (fun _ _ => rfl) rfl
  · exact (endIf_cue p why u c d).trans (if_neg hd)
  · dsimp only at hc ⊢
    rw [hc]
    cases s.ce.cues[c] with
    | none => exact hmp
    | some cue =>
      dsimp only
      split
      · exact notify_mp_congr (show (u.setCue c _).mp = v.mp from hmp) _ _
      · exact hmp

/-- Such an end changes the ports and the cue records alone. -/
theorem endCuesWhere_frame (s : State) (p : Cue → Bool) (why : EndReason) {cues : Vector (Option Cue) 24}
    (hcues : ∀ c : CueNo, cues[c] = s.ce.cues[c].map (endedBy p)) :
    s.endCuesWhere p why = { s with mp := (endsTold s.ce.cues (fun _ cue => p cue) why s).mp
                                    ce := { s.ce with cues := cues } } := by
  have hlayers := (layerParts_eq_iff.mp (endCuesWhere_parts s p why)).1
  have hmp := endCuesWhere_mp s p why
  have hce : (s.endCuesWhere p why).ce.cues = cues :=
    vec_ext fun c => (endCuesWhere_cue s p why c).trans (hcues c).symm
  have hframe := CueFrame.endCuesWhere s p why
  have hports : (s.endCuesWhere p why).mp = { s.mp with ports := (s.endCuesWhere p why).mp.ports } := by
    conv_lhs => rw [hframe]
  rw [hframe, ← hports, hmp, hce, hlayers]

/-! ## The checks of ENTER_RUN and ENTER_SETUP -/

theorem mayConfigure_iff {o : Origin} : o.mayConfigure = true ↔ Configures o := by
  cases o <;> simp [Origin.mayConfigure, Configures]

section
variable {o : Origin} {s : State} {rq : Intake}

theorem stateChecks_noRight (h : ¬Configures o) : stateChecks ⟨o, rq⟩ (s.popIntake o) = .error .noRight := by
  rw [stateChecks, Bool.eq_false_iff.mpr fun e => h (mayConfigure_iff.mp e)]
  rfl

theorem stateChecks_settling (h : Configures o) (hs : s.ps.state = .settling) :
    stateChecks ⟨o, rq⟩ (s.popIntake o) = .error .wrongState := by
  have : (s.popIntake o).ps.state = .settling := hs
  rw [stateChecks, mayConfigure_iff.mpr h, this]
  rfl

theorem stateChecks_pass (h : Configures o) (hs : s.ps.state ≠ .settling) :
    stateChecks ⟨o, rq⟩ (s.popIntake o) = .ok () := by
  have : ((s.popIntake o).ps.state == .settling) = false := beq_eq_false_iff_ne.mpr hs
  rw [stateChecks, mayConfigure_iff.mpr h, this]
  rfl

/-! ## ENTER_RUN -/

theorem exec_enterRun (h : Takes s o .enterRun rq) : exec (.enterRun o) s =
    .next (answer ⟨o, rq⟩ (s.popIntake o) (serveEnterRun ⟨o, rq⟩ (s.popIntake o))) :=
  takeRequest_takes (fun tk s => answer tk s (serveEnterRun tk s)) h

theorem exec_enterRun_noRight (h : Takes s o .enterRun rq) (ho : ¬Configures o) :
    exec (.enterRun o) s = .next (turnedAway s o rq .noRight) := by
  rw [exec_enterRun h, serveEnterRun, stateChecks_noRight ho]
  exact congrArg _ (refuse_popIntake ..)

theorem exec_enterRun_settling (h : Takes s o .enterRun rq) (ho : Configures o) (hs : s.ps.state = .settling) :
    exec (.enterRun o) s = .next (turnedAway s o rq .wrongState) := by
  rw [exec_enterRun h, serveEnterRun, stateChecks_settling ho hs]
  exact congrArg _ (refuse_popIntake ..)

theorem exec_enterRun_run (h : Takes s o .enterRun rq) (ho : Configures o) (hs : s.ps.state = .run) :
    exec (.enterRun o) s = .next (served s o rq .done false false []) := by
  have hset : (s.popIntake o).inSetup = false := popIntake_inSetup (.inl hs) o
  rw [exec_enterRun h, serveEnterRun, stateChecks_pass ho (by rw [hs]; nofun), hset, ← done_popIntake]
  rfl

theorem exec_enterRun_setup (h : Takes s o .enterRun rq) (ho : Configures o) (hs : s.ps.state = .setup) :
    exec (.enterRun o) s = .next (served { s with ps := { s.ps with state := .run } } o rq .done false false []) := by
  have hset : (s.popIntake o).inSetup = true := inSetup_iff.mpr hs
  rw [exec_enterRun h, serveEnterRun, stateChecks_pass ho (by rw [hs]; nofun), hset, ← done_popIntake]
  rfl

/-! ## ENTER_SETUP -/

theorem exec_enterSetup (h : Takes s o .enterSetup rq) : exec (.enterSetup o) s =
    .next (answer ⟨o, rq⟩ (s.popIntake o) (serveEnterSetup ⟨o, rq⟩ (s.popIntake o))) :=
  takeRequest_takes (fun tk s => answer tk s (serveEnterSetup tk s)) h

theorem exec_enterSetup_noRight (h : Takes s o .enterSetup rq) (ho : ¬Configures o) :
    exec (.enterSetup o) s = .next (turnedAway s o rq .noRight) := by
  rw [exec_enterSetup h, serveEnterSetup, stateChecks_noRight ho]
  exact congrArg _ (refuse_popIntake ..)

theorem exec_enterSetup_settling (h : Takes s o .enterSetup rq) (ho : Configures o) (hs : s.ps.state = .settling) :
    exec (.enterSetup o) s = .next (turnedAway s o rq .wrongState) := by
  rw [exec_enterSetup h, serveEnterSetup, stateChecks_settling ho hs]
  exact congrArg _ (refuse_popIntake ..)

theorem exec_enterSetup_setup (h : Takes s o .enterSetup rq) (ho : Configures o) (hs : s.ps.state = .setup) :
    exec (.enterSetup o) s = .next (served s o rq .done false false []) := by
  have hset : (s.popIntake o).inSetup = true := inSetup_iff.mpr hs
  rw [exec_enterSetup h, serveEnterSetup, stateChecks_pass ho (by rw [hs]; nofun), hset, ← done_popIntake]
  rfl

theorem exec_enterSetup_run (h : Takes s o .enterSetup rq) (ho : Configures o) (hs : s.ps.state = .run) :
    exec (.enterSetup o) s = .next (served s o rq .done false false []).enterSetup := by
  have hset : (s.popIntake o).inSetup = false := popIntake_inSetup (.inl hs) o
  rw [exec_enterSetup h, serveEnterSetup, stateChecks_pass ho (by rw [hs]; nofun), hset, ← done_popIntake]
  rfl

/-- Gates opened and every held layer freed: what that leaves where FREE layers are blank (R16, R25, R37, R67). -/
theorem openGates_freeAll (hl : LayersSound s) {queues : Vector StreamQueue 2} {m : BitVec 16}
    (hq : ∀ q : QueueNo, queues[q] =
      if s.ss.queues[q].bound = none then s.ss.queues[q] else ⟨none, none, [], none, false⟩)
    (hm : ∀ i : LayerNo, m.getLsbD i.val = true ↔ s.lt.layers[i].state ≠ .free) :
    (s.openGates.freeLayersWhere fun _ l => l.state != .free) =
      { s with lt := ⟨Vector.replicate 16 Layer.freed, Vector.replicate 4 .opened⟩
               ss := { s.ss with queues := queues }
               co := { s.co with inFlight := s.co.inFlight.map fun c => { c with gone := c.gone ||| m } } } := by
  have hget : ∀ i : LayerNo, s.openGates.lt.layers[i] = { s.lt.layers[i] with copy := none } := fun i => mapAt_get ..
  have hlayers : (mapAt s.openGates.lt.layers fun _ l => if (l.state != .free) = true then Layer.freed else l) =
      Vector.replicate 16 Layer.freed := by
    refine vec_ext fun i => ?_
    rw [mapAt_get, hget, Fin.getElem_fin (Vector.replicate _ _), Vector.getElem_replicate]
    by_cases hf : s.lt.layers[i].state = .free
    · rw [(hl i).1 hf]; rfl
    · exact if_pos (bne_iff_ne.mpr hf)
  have hgone : (markSet fun i : LayerNo => s.openGates.lt.layers[i].state != .free) = m := by
    refine BitVec.eq_of_getLsbD_eq fun j hj => ?_
    rw [markSet_getLsbD _ ⟨j, hj⟩, Bool.eq_iff_iff, hm ⟨j, hj⟩, hget, bne_iff_ne]
  unfold State.freeLayersWhere
  dsimp only
  rw [hgone, releaseQueues_eq (queues := queues) fun q => ?_]
  · rw [State.mapLayers, hlayers]
    rfl
  · rw [hq]
    dsimp only [mapLayers_ss, mapLayers_layers]
    have hss : s.openGates.ss = s.ss := rfl
    simp only [hss]
    cases hb : s.ss.queues[q].bound with
    | none => rfl
    | some i =>
      simp only [hlayers, Fin.getElem_fin, Vector.getElem_replicate]
      rfl

theorem enterSetup_eq (hl : LayersSound s) {cues : Vector (Option Cue) 24} {queues : Vector StreamQueue 2} {m : BitVec 16}
    (hcues : ∀ c : CueNo, cues[c] = s.ce.cues[c].map fun cue => { cue with run := .ready })
    (hq : ∀ q : QueueNo, queues[q] =
      if s.ss.queues[q].bound = none then s.ss.queues[q] else ⟨none, none, [], none, false⟩)
    (hm : ∀ i : LayerNo, m.getLsbD i.val = true ↔ s.lt.layers[i].state ≠ .free) :
    s.enterSetup =
      { s with ps := { s.ps with state := .setup }
               mp := (endsTold s.ce.cues (fun _ cue => cue.run != .ready) .stopped s).mp
               ot := { s.ot with holds := Vector.replicate 32 none }
               ce := { s.ce with cues := cues, queue := [] }
               lt := ⟨Vector.replicate 16 Layer.freed, Vector.replicate 4 .opened⟩
               ss := { s.ss with queues := queues }
               co := { s.co with inFlight := s.co.inFlight.map fun c => { c with gone := c.gone ||| m } } } := by
  have hready : ∀ c : CueNo, cues[c] = s.ce.cues[c].map (endedBy fun cue => cue.run != .ready) := by
    intro c
    rw [hcues]
    refine Option.map_congr fun cue _ => ?_
    unfold endedBy
    split
    · rfl
    · rename_i h
      have : cue.run = .ready := by simpa using h
      rw [← this]
  unfold State.enterSetup State.endAllCues
  rw [endCuesWhere_frame s _ .stopped hready]
  dsimp only
  exact congrArg (fun u : State => u.releaseHolds.setPartState .setup)
    (openGates_freeAll (s := State.setStartQueue { s with mp := _, ce := { s.ce with cues := cues } } []) (fun i => hl i) hq hm)

/-! ## SLEEP -/

theorem exec_sleep (h : Takes s o .sleep rq) : exec (.sleep o) s =
    .next (answer ⟨o, rq⟩ (s.popIntake o) (serveSleep ⟨o, rq⟩ (s.popIntake o))) :=
  takeRequest_takes (fun tk s => answer tk s (serveSleep tk s)) h

theorem alertLit_iff : s.alertLit = true ↔ ∃ i : LayerNo, s.lt.layers[i].tier = 4 ∧ 0 < s.lt.layers[i].presence := by
  simp only [State.alertLit, vec_toList, List.any_map, List.any_eq_true, List.mem_finRange, true_and, Function.comp,
    Bool.and_eq_true, beq_iff_eq, decide_eq_true_eq, alertTier, gt_iff_lt]

theorem exec_sleep_noRight (h : Takes s o .sleep rq) (ho : o ≠ .body) :
    exec (.sleep o) s = .next (turnedAway s o rq .noRight) := by
  rw [exec_sleep h, serveSleep, decide_eq_true ho]
  exact congrArg _ (refuse_popIntake ..)

theorem serveSleep_body (ho : o = .body) : serveSleep ⟨o, rq⟩ (s.popIntake o) =
    (require (decide (s.ps.state ≠ .run)) .wrongState >>= fun _ => require s.alertLit .alertActive >>= fun _ =>
      .ok (((s.setPartState .settling).popIntake o).done ⟨o, rq⟩ [])) := by
  rw [serveSleep, decide_eq_false (not_not.mpr ho)]
  rfl

end

/-- Settles O55: each request by its origin and the part state. -/
theorem partStateRequestsMoveThePart : Obligations.PartStateRequestsMoveThePart := by
  intro o s rq
  refine ⟨fun h => ⟨exec_enterRun_noRight h, exec_enterRun_settling h, exec_enterRun_run h, exec_enterRun_setup h⟩,
    fun h => ⟨exec_enterSetup_noRight h, exec_enterSetup_settling h, exec_enterSetup_setup h,
      fun ho hs hl cues queues m hcues hq hm => ?_⟩, fun h => ⟨exec_sleep_noRight h, fun ho hs => ?_, fun ho hs ha => ?_,
      fun ho hs ha => ?_⟩⟩
  · exact (exec_enterSetup_run h ho hs).trans (congrArg _
      (enterSetup_eq (s := served s o rq .done false false []) (LayersSound.reads s _ rfl hl) hcues hq hm))
  all_goals rw [exec_sleep h, serveSleep_body ho]
  · rw [decide_eq_true hs, require_true_bind, answer_error, refuse_popIntake]
  · rw [decide_eq_false (not_not.mpr hs), require_false_bind, alertLit_iff.mpr ha, require_true_bind, answer_error,
      refuse_popIntake]
  · rw [decide_eq_false (not_not.mpr hs), require_false_bind, Bool.eq_false_iff.mpr fun e => ha (alertLit_iff.mp e),
      require_false_bind, answer_ok, done_popIntake]
    rfl

end Sys2Proof.Machine

/-! PROOF. EDIT_LAYER (R21, R22, R25, R33, R45): its fields, its checks in turn, the record it writes and the queue it keeps. -/

namespace Sys2Proof.Machine

/-! ## A marked field -/

theorem fieldOf_eq_none {α β : Type} {check : α → Option β} {x : Option α} :
    fieldOf check x = none ↔ ∃ a, x = some a ∧ check a = none := by
  cases x <;> simp [fieldOf]

/-- A checked field carries what its check gives, and stands when it is marked. -/
theorem fieldOf_some {α β : Type} {check : α → Option β} {x : Option α} {y : Option β} (h : fieldOf check x = some y) :
    (∀ a, x = some a → y = check a) ∧ y.isSome = x.isSome := by
  cases x with
  | none => cases h; exact ⟨nofun, rfl⟩
  | some a =>
    obtain ⟨b, hb, rfl⟩ := Option.map_eq_some_iff.mp h
    exact ⟨fun c hc => by rw [← Option.some.inj hc, hb], rfl⟩

theorem spanMode?_eq_none {n : Nat} : spanMode? n = none ↔ 1 < n := by
  match n with
  | 0 | 1 | n + 2 => simp [spanMode?]

theorem blend?_eq_none {n : Nat} : blend? n = none ↔ 3 < n := by
  match n with
  | 0 | 1 | 2 | 3 | n + 4 => simp [blend?]

theorem sense?_eq_none {n : Nat} : sense? n = none ↔ 1 < n := by
  match n with
  | 0 | 1 | n + 2 => simp [sense?]

theorem fin?_eq_none {n k : Nat} : fin? n k = none ↔ n ≤ k := by
  simp [fin?]

theorem flagRef?_eq_none {flag sense : Nat} : flagRef? flag sense = none ↔ flag ≠ 0xFF ∧ (31 < flag ∨ 1 < sense) := by
  unfold flagRef?
  split
  · rename_i h; simp [h]
  · rename_i h
    have hparts : (fin? 32 flag = none ∨ sense? sense = none) ↔ flag ≠ 0xFF ∧ (31 < flag ∨ 1 < sense) := by
      rw [fin?_eq_none, sense?_eq_none]
      exact ⟨fun hb => ⟨h, hb⟩, fun hb => hb.2⟩
    rw [← hparts]
    cases fin? 32 flag <;> cases sense? sense <;> simp

theorem sourceKnown_eq_none {x : SourceArg} :
    sourceKnown x = none ↔ (∃ n, x = .pattern n ∧ 15 < n) ∨ ∃ k, x = .unknown k := by
  cases x <;> simp [sourceKnown]

theorem sourceKnown_some {x y : SourceArg} (h : sourceKnown x = some y) : y = x ∧ ∀ k, x ≠ .unknown k := by
  cases x with
  | pattern n =>
    unfold sourceKnown at h
    dsimp only at h
    split at h
    · exact ⟨(Option.some.inj h).symm, nofun⟩
    · cases h
  | solid | stream => exact ⟨(Option.some.inj h).symm, nofun⟩
  | unknown => cases h

/-- A hole field within its kind. -/
def holeValue (h : Nat × Nat) : Option LampRange := if h.1 = 0xFFFF then none else some ⟨h.1, h.2⟩

/-- A hole field outside its kind (R21, check 4). -/
def BadHole (h : Nat × Nat) : Prop := h.1 ≠ 0xFFFF ∧ (h.2 = 0 ∨ 384 < h.2 ∨ 383 < h.1 ∨ 384 < h.1 + h.2)

theorem hole?_eq_none {h : Nat × Nat} : hole? h = none ↔ BadHole h := by
  unfold hole? BadHole
  split
  · rename_i e; simp [e]
  · rename_i e
    split
    · rename_i hr
      have := of_decide_eq_true hr
      simp only [false_iff, reduceCtorEq]
      omega
    · rename_i hr
      have : ¬(1 ≤ h.2 ∧ h.2 ≤ 384 ∧ h.1 ≤ 383 ∧ h.1 + h.2 ≤ 384) := fun e => hr (decide_eq_true e)
      simp only [true_iff]
      omega

theorem hole?_some {h : Nat × Nat} {r : Option LampRange} (hr : hole? h = some r) : r = holeValue h := by
  unfold hole? at hr
  unfold holeValue
  split at hr
  · rename_i e; rw [if_pos e]; exact (Option.some.inj hr).symm
  · rename_i e
    split at hr
    · rw [if_neg e]; exact (Option.some.inj hr).symm
    · cases hr

/-- Both holes of an edit. -/
def holes? (h : (Nat × Nat) × (Nat × Nat)) : Option (Option LampRange × Option LampRange) := do
  let h1 ← hole? h.1
  let h2 ← hole? h.2
  return (h1, h2)

theorem holes?_eq_none {h : (Nat × Nat) × (Nat × Nat)} : holes? h = none ↔ BadHole h.1 ∨ BadHole h.2 := by
  rw [← hole?_eq_none, ← hole?_eq_none]
  unfold holes?
  cases hole? h.1 <;> cases hole? h.2 <;> simp

theorem holes?_some {h : (Nat × Nat) × (Nat × Nat)} {r : Option LampRange × Option LampRange} (hr : holes? h = some r) :
    r = (holeValue h.1, holeValue h.2) := by
  simp only [holes?, Option.bind_eq_bind, Option.bind_eq_some_iff, Option.pure_def, Option.some.injEq] at hr
  obtain ⟨h1, e1, h2, e2, rfl⟩ := hr
  rw [hole?_some e1, hole?_some e2]

/-- Clamping an age changed it exactly when it was neither 0 nor within 10 to 1000 ms (R22). -/
theorem ageClamped_iff {n : Nat} : ageClamped n = true ↔ n ≠ 0 ∧ (n < 10 ∨ 1000 < n) := by
  unfold ageClamped clampAge
  simp only [Bool.and_eq_true, bne_iff_ne]
  split <;> omega

/-- The checks of a marked STREAM source's age. -/
def sourceClamped : Option SourceArg → Bool
  | some (.stream n) => ageClamped n
  | _ => false

theorem sourceClamped_iff {x : Option SourceArg} :
    sourceClamped x = true ↔ ∃ n, x = some (.stream n) ∧ n ≠ 0 ∧ (n < 10 ∨ 1000 < n) := by
  unfold sourceClamped
  split
  · rw [ageClamped_iff]
    exact ⟨fun h => ⟨_, rfl, h⟩, fun ⟨_, e, h⟩ => by cases e; exact h⟩
  · rename_i hx
    exact ⟨nofun, fun ⟨n, e, _⟩ => absurd e (hx n)⟩

/-- The five checks of R21's check 4, and what passing them writes (R22). -/
theorem edit?_eq (a : EditLayerArgs) : edit? a =
    (fieldOf spanMode? a.span).bind fun span => (fieldOf holes? a.holes).bind fun holes =>
    (fieldOf blend? a.blend).bind fun blend => (fieldOf (fun r => flagRef? r.1 r.2) a.qual).bind fun qual =>
    (fieldOf sourceKnown a.source).bind fun source => some
      { zones := a.zones.map (BitVec.ofNat 32), span := span, holes := holes, blend := blend, opacity := a.opacity,
        qual := qual, source := source, level := a.level, offset := a.offset.map signed16,
        fadeIn := a.fadeIn.map (min 10000), fadeOut := a.fadeOut.map (min 10000),
        clamped := a.fadeIn.any (fun n => decide (n > 10000)) || a.fadeOut.any (fun n => decide (n > 10000)) ||
          sourceClamped source } := rfl

theorem edit?_eq_none {a : EditLayerArgs} : edit? a = none ↔
    fieldOf spanMode? a.span = none ∨ fieldOf holes? a.holes = none ∨ fieldOf blend? a.blend = none ∨
    fieldOf (fun r => flagRef? r.1 r.2) a.qual = none ∨ fieldOf sourceKnown a.source = none := by
  rw [edit?_eq]
  cases fieldOf spanMode? a.span with
  | none => simp
  | some =>
    cases fieldOf holes? a.holes with
    | none => simp
    | some =>
      cases fieldOf blend? a.blend with
      | none => simp
      | some => cases fieldOf (fun r => flagRef? r.1 r.2) a.qual <;> cases fieldOf sourceKnown a.source <;> simp

/-- Which marked fields lie outside their kinds (R21, check 4). -/
theorem edit?_refuses (a : EditLayerArgs) :
    (edit? a = none ↔
      (∃ n, a.span = some n ∧ 1 < n) ∨ (∃ h, a.holes = some h ∧ (BadHole h.1 ∨ BadHole h.2)) ∨
      (∃ n, a.blend = some n ∧ 3 < n) ∨ (∃ r, a.qual = some r ∧ r.1 ≠ 0xFF ∧ (31 < r.1 ∨ 1 < r.2)) ∨
      (∃ n, a.source = some (.pattern n) ∧ 15 < n) ∨ ∃ k, a.source = some (.unknown k)) := by
  rw [edit?_eq_none]
  simp only [fieldOf_eq_none, spanMode?_eq_none, holes?_eq_none, blend?_eq_none, flagRef?_eq_none, sourceKnown_eq_none]
  refine or_congr Iff.rfl (or_congr Iff.rfl (or_congr Iff.rfl (or_congr Iff.rfl ?_)))
  constructor
  · rintro ⟨x, hx, ⟨n, rfl, hn⟩ | ⟨k, rfl⟩⟩
    · exact .inl ⟨n, hx, hn⟩
    · exact .inr ⟨k, hx⟩
  · rintro (⟨n, hx, hn⟩ | ⟨k, hx⟩)
    · exact ⟨_, hx, .inl ⟨n, rfl, hn⟩⟩
    · exact ⟨_, hx, .inr ⟨k, rfl⟩⟩

theorem edit?_some {a : EditLayerArgs} {e : Edit} (h : edit? a = some e) :
    fieldOf spanMode? a.span = some e.span ∧ fieldOf holes? a.holes = some e.holes ∧
    fieldOf blend? a.blend = some e.blend ∧ fieldOf (fun r => flagRef? r.1 r.2) a.qual = some e.qual ∧
    fieldOf sourceKnown a.source = some e.source ∧
    e = { zones := a.zones.map (BitVec.ofNat 32), span := e.span, holes := e.holes, blend := e.blend, opacity := a.opacity,
          qual := e.qual, source := e.source, level := a.level, offset := a.offset.map signed16,
          fadeIn := a.fadeIn.map (min 10000), fadeOut := a.fadeOut.map (min 10000),
          clamped := a.fadeIn.any (fun n => decide (n > 10000)) || a.fadeOut.any (fun n => decide (n > 10000)) ||
            sourceClamped e.source } := by
  rw [edit?_eq] at h
  simp only [Option.bind_eq_some_iff, Option.some.injEq] at h
  obtain ⟨span, hspan, holes, hholes, blend, hblend, qual, hqual, source, hsource, rfl⟩ := h
  exact ⟨hspan, hholes, hblend, hqual, hsource, rfl⟩

/-- A checked source is the field's own. -/
theorem fieldOf_sourceKnown {x y : Option SourceArg} (h : fieldOf sourceKnown x = some y) :
    y = x ∧ ∀ k, x ≠ some (.unknown k) := by
  cases x with
  | none => exact ⟨(Option.some.inj h).symm, nofun⟩
  | some x =>
    obtain ⟨z, hz, rfl⟩ := Option.map_eq_some_iff.mp h
    obtain ⟨rfl, hk⟩ := sourceKnown_some hz
    exact ⟨rfl, fun k e => hk k (Option.some.inj e)⟩

theorem fieldOf_holes {x : Option ((Nat × Nat) × (Nat × Nat))} {y : Option (Option LampRange × Option LampRange)}
    (h : fieldOf holes? x = some y) : y = x.map fun h => (holeValue h.1, holeValue h.2) := by
  cases x with
  | none => exact (Option.some.inj h).symm
  | some x =>
    obtain ⟨z, hz, rfl⟩ := Option.map_eq_some_iff.mp h
    rw [holes?_some hz]; rfl

theorem any_above {x : Option Nat} {k : Nat} : x.any (fun n => decide (n > k)) = true ↔ ∃ n, x = some n ∧ k < n := by
  simp only [Option.any_eq_true, decide_eq_true_eq, gt_iff_lt]

/-! ## The record an edit writes -/

theorem gated_eq (g : Gate) (live : Layer → Layer) (staged : Staged → Staged) (l : Layer) : gated g live staged l =
    if g = .opened then live l else { l with copy := some (staged (filledCopy l)) } := by
  cases g <;> rfl

/-- Without a STREAM source an edit names no queue. -/
theorem applyEdit_queue {e : Edit} (h : setsStream e = false) (p q : QueueNo) : applyEdit e p = applyEdit e q := by
  have hsource : e.source.map (sourceOf p) = e.source.map (sourceOf q) := by
    unfold setsStream at h
    cases hs : e.source with
    | none => rfl
    | some x =>
      cases x with
      | stream => rw [hs] at h; cases h
      | solid | pattern | unknown => rfl
  unfold applyEdit
  rw [hsource]

/-- The layer as an edit writes it under its owner's gate. -/
def editedLayer (g : Gate) (e : Edit) (q : QueueNo) (l : Layer) : Layer := gated g (editLive e q) (editCopy e q) l

theorem editedLayer_queue {e : Edit} (h : setsStream e = false) (g : Gate) (p q : QueueNo) :
    editedLayer g e p = editedLayer g e q := by
  unfold editedLayer editLive editCopy
  rw [applyEdit_queue h p q]

/-- A layer whose edit sets a STREAM source uses a queue. -/
theorem editedLayer_usesStream {e : Edit} (h : setsStream e = true) (g : Gate) (q : QueueNo) (l : Layer) :
    usesStream (editedLayer g e q l) = true := by
  have hsource : ∀ ed : Editable, streamQueue? (applyEdit e q ed).source = some q := by
    intro ed
    unfold setsStream at h
    split at h
    · rename_i hs; rw [applyEdit, hs]; rfl
    · cases h
  unfold editedLayer usesStream
  cases g with
  | opened => rw [gated, editLive, hsource]; rfl
  | closed | opening => simp [gated, editCopy, hsource]

/-! ## The queue an edit uses -/

section
variable {s : State} (hs : StreamsSound s)
include hs

theorem StreamsSound.heldQueue_iff {i : LayerNo} {q : QueueNo} :
    s.heldQueue i = some q ↔ s.ss.queues[q].bound = some i := by
  refine ⟨heldQueue_some, fun h => ?_⟩
  cases hq : s.heldQueue i with
  | none => exact absurd h (heldQueue_none hq q)
  | some p => rw [hs.2.1 p q i (heldQueue_some hq) h]

theorem StreamsSound.queueFor_held {i : LayerNo} {q : QueueNo} (h : s.ss.queues[q].bound = some i) :
    s.queueFor i = some q := by
  rw [State.queueFor, hs.heldQueue_iff.mpr h, Option.some_or]

end

theorem heldQueue_eq_none {s : State} {i : LayerNo} (h : ∀ q : QueueNo, s.ss.queues[q].bound ≠ some i) :
    s.heldQueue i = none :=
  List.find?_eq_none.mpr fun q _ => by simpa using h q

theorem queueFor_free {s : State} {i : LayerNo} {q : QueueNo} (hi : ∀ p : QueueNo, s.ss.queues[p].bound ≠ some i)
    (hq : s.ss.queues[q].bound = none) (hlow : ∀ p : QueueNo, p < q → s.ss.queues[p].bound ≠ none) :
    s.queueFor i = some q := by
  rw [State.queueFor, heldQueue_eq_none hi, Option.none_or]
  exact find_finRange_eq_some.mpr ⟨by rw [hq]; rfl, fun p hp => by simpa using Option.ne_none_iff_isSome.mp (hlow p hp)⟩

/-- No queue is left where each stands bound to another layer (R21, check 8). -/
theorem queueFor_none {s : State} {i : LayerNo} (h : ∀ q : QueueNo, ∃ j, s.ss.queues[q].bound = some j ∧ j ≠ i) :
    s.queueFor i = none := by
  rw [State.queueFor, heldQueue_eq_none fun q e => ?_, Option.none_or]
  · exact List.find?_eq_none.mpr fun q _ => by obtain ⟨j, hj, -⟩ := h q; rw [hj]; nofun
  · obtain ⟨j, hj, hne⟩ := h q
    exact hne (Option.some.inj (hj.symm.trans e))

/-! ## The state an edit makes -/

/-- The state with the queue bound where an edit needs one and its layer holds none (R25). -/
def editBound (s : State) (i : LayerNo) (e : Edit) (q : QueueNo) : State :=
  if (setsStream e && (s.heldQueue i).isNone) = true then s.bindQueue q i else s

theorem editBound_layers (s : State) (i : LayerNo) (e : Edit) (q : QueueNo) : (editBound s i e q).lt = s.lt := by
  unfold editBound
  split <;> rfl

section
variable {s : State} {i : LayerNo} {e : Edit} {q : QueueNo}

theorem makeEdit_eq (hq : setsStream e = true → s.queueFor i = some q) (o : Origin) : s.makeEdit o i e =
    ((editBound s i e q).setLayer i (editedLayer (s.gate o) e q s.lt.layers[i])).releaseQueues := by
  unfold State.makeEdit
  dsimp only
  change (State.setLayer (editBound s i e _) i (editedLayer _ e _ (editBound s i e _).lt.layers[i])).releaseQueues = _
  simp only [editBound_layers]
  cases hset : setsStream e with
  | true => rw [hq hset, Option.getD_some]
  | false =>
    rw [editedLayer_queue hset _ _ q]
    simp only [editBound, hset, Bool.false_and, Bool.false_eq_true, if_false]

/-- An edit changes the layer and the queues alone. -/
theorem makeEdit_frame (hq : setsStream e = true → s.queueFor i = some q) (o : Origin) : s.makeEdit o i e =
    { s with lt := { s.lt with layers := setAt s.lt.layers i (editedLayer (s.gate o) e q s.lt.layers[i]) }
             ss := { s.ss with queues := (s.makeEdit o i e).ss.queues } } := by
  rw [makeEdit_eq hq]
  unfold editBound
  split <;> rfl

/-- The queues after an edit: the layer's own goes or stays with its sources, a new one is bound where one is needed, and the
others stand (R25). -/
theorem makeEdit_queue (hs : StreamsSound s) (hq : setsStream e = true → s.queueFor i = some q) (o : Origin) (p : QueueNo) :
    (s.makeEdit o i e).ss.queues[p] =
      if s.ss.queues[p].bound = some i then
        (if usesStream (editedLayer (s.gate o) e q s.lt.layers[i]) = true then s.ss.queues[p]
          else ⟨none, none, [], none, false⟩)
      else if p = q ∧ setsStream e = true then
        (if ∃ p : QueueNo, s.ss.queues[p].bound = some i then s.ss.queues[p] else ⟨some i, none, [], none, false⟩)
      else s.ss.queues[p] := by
  have hstays : ∀ l : LayerNo, l ≠ i → s.ss.queues[p].bound = some l →
      usesStream (setAt s.lt.layers i (editedLayer (s.gate o) e q s.lt.layers[i]))[l] = true := by
    intro l hl hb
    rw [setAt_get, if_neg hl]
    exact usesStream_iff.mpr ⟨p, (hs.1 p l).mp hb⟩
  have hkept : (∀ h : setsStream e = true, s.heldQueue i = none → p ≠ q) →
      (editBound s i e q).ss.queues[p] = s.ss.queues[p] := by
    intro h
    unfold editBound
    split
    · rename_i hc
      obtain ⟨hset, hheld⟩ := (Bool.and_eq_true _ _).mp hc
      rw [bindQueue_queue, if_neg (h hset (Option.isNone_iff_eq_none.mp hheld))]
    · rfl
  rw [makeEdit_eq hq, releaseQueues_queue]
  change (match (editBound s i e q).ss.queues[p].bound with
    | none => (editBound s i e q).ss.queues[p]
    | some l => if usesStream (setAt (editBound s i e q).lt.layers i _)[l] = true then (editBound s i e q).ss.queues[p]
      else StreamQueue.freed) = _
  simp only [editBound_layers]
  by_cases hown : s.ss.queues[p].bound = some i
  · rw [if_pos hown, hkept fun _ hheld => absurd hown (heldQueue_none hheld p)]
    simp only [hown, setAt_get, if_true]
    rfl
  · rw [if_neg hown]
    by_cases hnew : p = q ∧ setsStream e = true
    · obtain ⟨rfl, hset⟩ := hnew
      have hheld : s.heldQueue i = none := by
        cases hh : s.heldQueue i with
        | none => rfl
        | some r =>
          have := (hs.queueFor_held (heldQueue_some hh)).symm.trans (hq hset)
          exact absurd (Option.some.inj this ▸ heldQueue_some hh) hown
      rw [if_pos ⟨rfl, hset⟩, if_neg fun ⟨r, hr⟩ => heldQueue_none hheld r hr]
      have hbound : (editBound s i e p).ss.queues[p] = ⟨some i, none, [], none, false⟩ := by
        rw [editBound, hset, hheld]
        exact (bindQueue_queue s p p i).trans (if_pos rfl)
      simp only [hbound, setAt_get, if_true, editedLayer_usesStream hset]
    · rw [if_neg hnew, hkept fun hset _ hp => hnew ⟨hp, hset⟩]
      cases hb : s.ss.queues[p].bound with
      | none => rfl
      | some l => exact if_pos (hstays l (fun hl => hown (hl ▸ hb)) hb)

end

/-! ## The checks of EDIT_LAYER -/

section
variable {o : Origin} {s : State} {rq : Intake}

theorem exec_editLayer (h : Takes s o .editLayer rq) : exec (.editLayer o) s =
    .next (answer ⟨o, rq⟩ (s.popIntake o) (serveEditLayer ⟨o, rq⟩ (editLayerArgs rq.data) (s.popIntake o))) :=
  takeRequest_takes (fun tk s => answer tk s (serveEditLayer tk (editLayerArgs tk.req.data) s)) h

/-- The checks that follow an edit's own (R21, checks 5 to 8), and the edit. -/
def editChecks (s : State) (o : Origin) (rq : Intake) (i : LayerNo) (e : Edit) : Served :=
  require (e.zones.any (namesUndefined s.co.zones)) .badValue >>= fun _ =>
  require (e.zones.any (s.namesForbidden o)) .noRight >>= fun _ =>
  require (s.slotMissing e) .badValue >>= fun _ =>
  require (setsStream e && (s.queueFor i).isNone) .noRoom >>= fun _ =>
  .ok (((s.makeEdit o i e).popIntake o).reply ⟨o, rq⟩ .done e.clamped false [queueByte ((s.makeEdit o i e).heldQueue i)])

theorem makeEdit_popIntake (i : LayerNo) (e : Edit) : (s.popIntake o).makeEdit o i e = (s.makeEdit o i e).popIntake o := by
  have hheld : (s.popIntake o).heldQueue i = s.heldQueue i := rfl
  unfold State.makeEdit
  simp only [hheld]
  by_cases hc : (setsStream e && (s.heldQueue i).isNone) = true
  · simp only [hc, if_true]; rfl
  · simp only [hc]; rfl

theorem exec_editLayer_badValue (hrun : Running s) (h : Takes s o .editLayer rq)
    (hb : 15 < byteAt rq.data 2 ∨ 2048 ≤ leAt rq.data 3 2) : exec (.editLayer o) s = .next (turnedAway s o rq .badValue) := by
  rw [exec_editLayer h, serveEditLayer, popIntake_inSetup hrun, require_false_bind]
  by_cases hi : byteAt rq.data 2 < 16
  · have hm : decide ((editLayerArgs rq.data).mask ≥ 2 ^ 11) = true := decide_eq_true (hb.resolve_left (by omega))
    rw [show (editLayerArgs rq.data).layer = byteAt rq.data 2 from rfl, fin?_lt hi, found_some_bind, hm, require_true_bind,
      answer_error, refuse_popIntake]
  · rw [show (editLayerArgs rq.data).layer = byteAt rq.data 2 from rfl, fin?_ge (Nat.not_lt.mp hi), found_none_bind,
      answer_error, refuse_popIntake]

section
variable (hrun : Running s) (h : Takes s o .editLayer rq) {i : LayerNo} (hi : byteAt rq.data 2 = i.val)
  (hm : leAt rq.data 3 2 < 2048)
include hrun h hi hm

theorem exec_editLayer_owned : exec (.editLayer o) s = .next (answer ⟨o, rq⟩ (s.popIntake o)
    (require (!ownedBy o s.lt.layers[i]) .notOwner >>= fun _ =>
      found (edit? (editLayerArgs rq.data)) .badValue >>= fun e => editChecks s o rq i e)) := by
  have hmask : decide ((editLayerArgs rq.data).mask ≥ 2 ^ 11) = false := decide_eq_false (Nat.not_le.mpr hm)
  rw [exec_editLayer h, serveEditLayer, popIntake_inSetup hrun, require_false_bind,
    show (editLayerArgs rq.data).layer = i.val from hi, fin?_val, found_some_bind, hmask, require_false_bind]
  simp only [makeEdit_popIntake]
  rfl

theorem exec_editLayer_foreign (hown : s.lt.layers[i].state = .free ∨ s.lt.layers[i].owner ≠ some o) :
    exec (.editLayer o) s = .next (turnedAway s o rq .notOwner) := by
  have ho : ownedBy o s.lt.layers[i] = false := Bool.eq_false_iff.mpr fun e =>
    let ⟨hfree, hothers⟩ := ownedBy_iff.mp e
    hown.elim hfree fun hne => hne hothers
  rw [exec_editLayer_owned hrun h hi hm, ho]
  exact congrArg _ (refuse_popIntake ..)

variable (hfree : s.lt.layers[i].state ≠ .free) (hown : s.lt.layers[i].owner = some o)
include hfree hown

theorem exec_editLayer_outside (he : edit? (editLayerArgs rq.data) = none) :
    exec (.editLayer o) s = .next (turnedAway s o rq .badValue) := by
  rw [exec_editLayer_owned hrun h hi hm, ownedBy_iff.mpr ⟨hfree, hown⟩, he]
  exact congrArg _ (refuse_popIntake ..)

theorem exec_editLayer_checked {e : Edit} (he : edit? (editLayerArgs rq.data) = some e) :
    exec (.editLayer o) s = .next (answer ⟨o, rq⟩ (s.popIntake o) (editChecks s o rq i e)) := by
  rw [exec_editLayer_owned hrun h hi hm, ownedBy_iff.mpr ⟨hfree, hown⟩, he]
  rfl

end

theorem zones_any_undefined {e : Edit} : e.zones.any (namesUndefined s.co.zones) = true ↔
    ∃ (set : BitVec 32) (z : ZoneNo), e.zones = some set ∧ set.getLsbD z.val = true ∧ s.co.zones[z] = none := by
  simp [Option.any_eq_true, namesUndefined]

theorem zones_any_forbidden {e : Edit} : e.zones.any (s.namesForbidden o) = true ↔
    ∃ (set : BitVec 32) (z : ZoneNo), e.zones = some set ∧ set.getLsbD z.val = true ∧ s.targetable o z = false := by
  simp [Option.any_eq_true, State.namesForbidden]

theorem slotMissing_of {e : Edit} {n : SlotNo} (he : e.source = some (.pattern n.val)) (hn : s.ss.slots[n] = none) :
    s.slotMissing e = true := by
  unfold State.slotMissing
  rw [he]
  simp only [Fin.ofNat_val_eq_self]
  exact Option.isNone_iff_eq_none.mpr hn

theorem slotMissing_not {e : Edit} (hn : ∀ n : SlotNo, e.source = some (.pattern n.val) → s.ss.slots[n].isSome = true)
    (hpat : ∀ n, e.source = some (.pattern n) → n ≤ 15) : s.slotMissing e = false := by
  unfold State.slotMissing
  split
  · rename_i n he
    have hn16 := hpat n he
    have := hn (Fin.ofNat 16 n) (by rw [he, Fin.val_ofNat, Nat.mod_eq_of_lt (by omega)])
    exact Option.isNone_eq_false_iff.mpr this
  · rfl

end

/-- A source that an edit can carry: a PATTERN slot is at most 15, and no kind is unknown. -/
theorem edit?_source {a : EditLayerArgs} {e : Edit} (h : edit? a = some e) :
    (∀ n, e.source = some (.pattern n) → n ≤ 15) ∧ ∀ k, e.source ≠ some (.unknown k) := by
  obtain ⟨-, -, -, -, hsource, -⟩ := edit?_some h
  have hok : ¬∃ n, a.source = some n ∧ sourceKnown n = none :=
    fun hn => by rw [fieldOf_eq_none.mpr hn] at hsource; cases hsource
  obtain ⟨hsame, hunknown⟩ := fieldOf_sourceKnown hsource
  rw [hsame]
  refine ⟨fun n hn => ?_, hunknown⟩
  by_contra hc
  exact hok ⟨_, hn, sourceKnown_eq_none.mpr (.inl ⟨n, rfl, by omega⟩)⟩

/-- The source an edit writes. -/
def sourceFrom (e : Edit) (q : QueueNo) (old : Source) : Source :=
  match e.source with
  | some (.solid col) => .solid col
  | some (.pattern n) => .pattern (Fin.ofNat 16 n)
  | some (.stream age) => .stream q (if age = 0 then 200 else max 10 (min 1000 age))
  | _ => old

theorem applyEdit_eq {e : Edit} (hu : ∀ k, e.source ≠ some (.unknown k)) (q : QueueNo) (ed : Editable) : applyEdit e q ed =
    { zones := e.zones.getD ed.zones
      span := e.span.getD ed.span
      hole1 := (e.holes.map (·.1)).getD ed.hole1
      hole2 := (e.holes.map (·.2)).getD ed.hole2
      blend := e.blend.getD ed.blend
      opacity := e.opacity.getD ed.opacity
      qual := e.qual.getD ed.qual
      source := sourceFrom e q ed.source
      level := e.level.getD ed.level
      offset := e.offset.getD ed.offset
      fadeIn := e.fadeIn.getD ed.fadeIn
      fadeOut := e.fadeOut.getD ed.fadeOut } := by
  have hsource : (e.source.map (sourceOf q)).getD ed.source = sourceFrom e q ed.source := by
    unfold sourceFrom
    cases hs : e.source with
    | none => rfl
    | some x =>
      cases x with
      | unknown k => exact absurd hs (hu k)
      | solid | pattern | stream => rfl
  rw [applyEdit, hsource]

/-- What a layer's reply shows of its queue (11.7). -/
theorem queueByte_heldQueue {s : State} (hs : StreamsSound s) (i : LayerNo) :
    (∀ p : QueueNo, s.ss.queues[p].bound = some i → queueByte (s.heldQueue i) = oneByte p.val) ∧
    ((∀ p : QueueNo, s.ss.queues[p].bound ≠ some i) → queueByte (s.heldQueue i) = 0xFF) :=
  ⟨fun p hp => by rw [hs.heldQueue_iff.mpr hp]; rfl, fun h => by rw [heldQueue_eq_none h]; rfl⟩

section
variable {o : Origin} {s : State} {rq : Intake} {i : LayerNo} {e : Edit}

theorem editChecks_undefined (h : e.zones.any (namesUndefined s.co.zones) = true) :
    answer ⟨o, rq⟩ (s.popIntake o) (editChecks s o rq i e) = turnedAway s o rq .badValue := by
  rw [editChecks, h, require_true_bind, answer_error, refuse_popIntake]

theorem editChecks_forbidden (hz : e.zones.any (namesUndefined s.co.zones) = false)
    (h : e.zones.any (s.namesForbidden o) = true) :
    answer ⟨o, rq⟩ (s.popIntake o) (editChecks s o rq i e) = turnedAway s o rq .noRight := by
  rw [editChecks, hz, require_false_bind, h, require_true_bind, answer_error, refuse_popIntake]

section
variable (hz : e.zones.any (namesUndefined s.co.zones) = false) (ht : e.zones.any (s.namesForbidden o) = false)
include hz ht

theorem editChecks_slotMissing (h : s.slotMissing e = true) :
    answer ⟨o, rq⟩ (s.popIntake o) (editChecks s o rq i e) = turnedAway s o rq .badValue := by
  rw [editChecks, hz, require_false_bind, ht, require_false_bind, h, require_true_bind, answer_error, refuse_popIntake]

theorem editChecks_noRoom (hslot : s.slotMissing e = false) (h : (setsStream e && (s.queueFor i).isNone) = true) :
    answer ⟨o, rq⟩ (s.popIntake o) (editChecks s o rq i e) = turnedAway s o rq .noRoom := by
  rw [editChecks, hz, require_false_bind, ht, require_false_bind, hslot, require_false_bind, h, require_true_bind,
    answer_error, refuse_popIntake]

theorem editChecks_pass (hslot : s.slotMissing e = false) (h : (setsStream e && (s.queueFor i).isNone) = false) :
    answer ⟨o, rq⟩ (s.popIntake o) (editChecks s o rq i e) =
      served (s.makeEdit o i e) o rq .done e.clamped false [queueByte ((s.makeEdit o i e).heldQueue i)] := by
  rw [editChecks, hz, require_false_bind, ht, require_false_bind, hslot, require_false_bind, h, require_false_bind,
    answer_ok, reply_popIntake]

end

end

/-- What an edit within its kinds carries (R22). -/
theorem edit?_carries {a : EditLayerArgs} {e : Edit} (h : edit? a = some e) :
    e.zones = a.zones.map (BitVec.ofNat 32) ∧ e.opacity = a.opacity ∧ e.level = a.level ∧
    e.offset = a.offset.map (fun n => (BitVec.ofNat 16 n).toInt) ∧
    e.fadeIn = a.fadeIn.map (min 10000) ∧ e.fadeOut = a.fadeOut.map (min 10000) ∧
    (∀ n, a.span = some n → e.span = spanMode? n) ∧ (∀ n, a.blend = some n → e.blend = blend? n) ∧
    (∀ r, a.qual = some r → e.qual = flagRef? r.1 r.2) ∧
    e.holes = a.holes.map (fun h => (holeValue h.1, holeValue h.2)) ∧ e.source = a.source ∧
    (e.span.isSome = a.span.isSome ∧ e.blend.isSome = a.blend.isSome ∧ e.qual.isSome = a.qual.isSome) ∧
    (e.clamped = true ↔ (∃ n, a.fadeIn = some n ∧ 10000 < n) ∨ (∃ n, a.fadeOut = some n ∧ 10000 < n) ∨
      ∃ n, a.source = some (.stream n) ∧ n ≠ 0 ∧ (n < 10 ∨ 1000 < n)) := by
  obtain ⟨hspan, hholes, hblend, hqual, hsource, he⟩ := edit?_some h
  obtain ⟨hspan, hspanMarked⟩ := fieldOf_some hspan
  obtain ⟨hblend, hblendMarked⟩ := fieldOf_some hblend
  obtain ⟨hqual, hqualMarked⟩ := fieldOf_some hqual
  obtain ⟨hsource, -⟩ := fieldOf_sourceKnown hsource
  rw [he]
  refine ⟨rfl, rfl, rfl, rfl, rfl, rfl, hspan, hblend, hqual, fieldOf_holes hholes, hsource,
    ⟨hspanMarked, hblendMarked, hqualMarked⟩, ?_⟩
  simp only [Bool.or_eq_true, any_above, sourceClamped_iff, hsource, or_assoc]

/-- Settles O45: an edit's fields, its checks in turn, and the layer and queues it leaves. -/
theorem editsWriteTheMarkedFields : Obligations.EditsWriteTheMarkedFields := by
  refine ⟨fun a => ⟨edit?_refuses a, fun e he => edit?_carries he⟩, fun o s rq h hrun =>
    ⟨exec_editLayer_badValue hrun h, fun i hi hm => ⟨exec_editLayer_foreign hrun h hi hm,
      exec_editLayer_outside hrun h hi hm⟩⟩, ?_⟩
  intro o s rq i e h hrun hs hi hm l copied hfree hown he
  obtain ⟨hpattern, hunknown⟩ := edit?_source he
  rw [exec_editLayer_checked hrun h hi hm hfree hown he]
  refine ⟨fun hz => by rw [editChecks_undefined (zones_any_undefined.mpr hz)], fun hz => ?_⟩
  replace hz : e.zones.any (namesUndefined s.co.zones) = false := Bool.eq_false_iff.mpr fun hc => by
    obtain ⟨set, z, hset, hbit, hnone⟩ := zones_any_undefined.mp hc
    have := hz set z hset hbit
    rw [hnone] at this; cases this
  refine ⟨fun ht => by rw [editChecks_forbidden hz (zones_any_forbidden.mpr ht)], fun ht => ?_⟩
  replace ht : e.zones.any (s.namesForbidden o) = false := Bool.eq_false_iff.mpr fun hc => by
    obtain ⟨set, z, hset, hbit, hnone⟩ := zones_any_forbidden.mp hc
    have := ht set z hset hbit
    rw [hnone] at this; cases this
  refine ⟨fun ⟨n, hn, hslot⟩ => by rw [editChecks_slotMissing hz ht (slotMissing_of hn hslot)], fun hset hfull => ?_,
    fun hslots q hq => ?_⟩
  · have hslot : s.slotMissing e = false := by
      unfold setsStream at hset
      unfold State.slotMissing
      cases hsrc : e.source with
      | none => rfl
      | some x => cases x with
        | pattern => rw [hsrc] at hset; cases hset
        | solid | stream | unknown => rfl
    rw [editChecks_noRoom hz ht hslot (by rw [hset, queueFor_none hfull]; rfl)]
  · have hqueue : setsStream e = true → s.queueFor i = some q := fun hset => (hq hset).elim hs.queueFor_held
      fun ⟨hno, hbound, hlow⟩ => queueFor_free hno hbound hlow
    have hroom : (setsStream e && (s.queueFor i).isNone) = false := by
      cases hset : setsStream e with
      | false => rfl
      | true => rw [hqueue hset]; rfl
    have hsound : StreamsSound (s.makeEdit o i e) := hs.makeEdit o i hroom
    have hheld := queueByte_heldQueue hsound i
    refine ⟨editedLayer (s.gate o) e q l, (s.makeEdit o i e).ss.queues, _, ?_, fun hopen => ?_, fun hshut => ?_,
      makeEdit_queue hs hqueue o, hheld⟩
    · rw [editChecks_pass hz ht (slotMissing_not hslots hpattern) hroom]
      exact congrArg (fun u => Host.Outcome.next (served u o rq .done e.clamped false
        [queueByte ((s.makeEdit o i e).heldQueue i)])) (makeEdit_frame hqueue o)
    · rw [editedLayer, gated_eq, if_pos hopen, editLive, applyEdit_eq hunknown]
      rfl
    · rw [editedLayer, gated_eq, if_neg hshut, editCopy, applyEdit_eq hunknown]
      rfl

end Sys2Proof.Machine

/-! PROOF. Segments, runs and tracks (R107 to R109), rebased starts (R106), and what a cue puts into its layer's fields (R19, R108,
R111, R112). -/

namespace Sys2Proof.Machine

/-! ## Segments -/

/-- Part of a way that is not negative, in 65536ths. -/
theorem tdiv_part {d : Int} (hd : 0 ≤ d) {w : Nat} (hw : w ≤ 65536) :
    0 ≤ Int.tdiv (d * w) 65536 ∧ Int.tdiv (d * w) 65536 ≤ d := by
  have hprod : 0 ≤ d * w := Int.mul_nonneg hd (Int.natCast_nonneg w)
  have hle : d * w ≤ d * 65536 := Int.mul_le_mul_of_nonneg_left (by exact_mod_cast hw) hd
  rw [Int.tdiv_eq_ediv_of_nonneg hprod]
  omega

theorem blendInt_between (a b : Int) {w : Nat} (hw : w ≤ 65536) : min a b ≤ blendInt a b w ∧ blendInt a b w ≤ max a b := by
  unfold blendInt
  rcases Int.le_total a b with hab | hab
  · have := tdiv_part (d := b - a) (by omega) hw
    omega
  · have hneg : (b - a) * (w : Int) = -((a - b) * w) := by ring
    have := tdiv_part (d := a - b) (by omega) hw
    rw [hneg, Int.neg_tdiv]
    omega

/-- SMOOTH keeps the weight in range: its cubic and that of the weight left over make 65536 cubed (R107). -/
theorem smoothWeight_le {w : Nat} (hw : w ≤ 65535) : smoothWeight w ≤ 65535 := by
  obtain ⟨m, hm⟩ : ∃ m, w + m = 65536 := ⟨65536 - w, by omega⟩
  have hcubes : w * w * ((w + m) + 2 * m) + m * m * ((w + m) + 2 * w) = (w + m) * (w + m) * (w + m) := by ring
  have hleft : 0 < m * m * ((w + m) + 2 * w) := by
    have : 0 < m := by omega
    positivity
  rw [hm] at hcubes hleft
  have hweight : 196608 - 2 * w = 65536 + 2 * m := by omega
  unfold smoothWeight
  rw [hweight]
  exact Nat.le_of_lt_succ (Nat.div_lt_of_lt_mul (by omega))

/-- The weight of a time within a segment. -/
theorem segment_weight {t first last : Nat} (hfirst : first ≤ t) (hlast : t < last) :
    (t - first) * 65536 / (last - first) ≤ 65535 :=
  Nat.le_of_lt_succ (Nat.div_lt_of_lt_mul (by
    have : t - first < last - first := by omega
    omega))

/-- Each channel of a triple between those of two others. -/
def Between (a b v : Triple) : Prop :=
  (min a.x b.x ≤ v.x ∧ v.x ≤ max a.x b.x) ∧ (min a.y b.y ≤ v.y ∧ v.y ≤ max a.y b.y) ∧
    min a.z b.z ≤ v.z ∧ v.z ≤ max a.z b.z

theorem between_left (a b : Triple) : Between a b a :=
  ⟨⟨min_le_left .., le_max_left ..⟩, ⟨min_le_left .., le_max_left ..⟩, min_le_left .., le_max_left ..⟩

theorem blendTriple_between (a b : Triple) {w : Nat} (hw : w ≤ 65536) : Between a b (blendTriple a b w) :=
  ⟨blendInt_between _ _ hw, blendInt_between _ _ hw, blendInt_between _ _ hw⟩

theorem segment_between (tgt : Target) {k n : Keyframe} {t : Nat} (hk : k.time ≤ t) (hn : t < n.time) :
    Between (keyValue tgt k) (keyValue tgt n) (Machine.segment tgt k n t) := by
  have hw := segment_weight hk hn
  unfold segment
  cases k.ease with
  | step => exact between_left ..
  | linear => exact blendTriple_between _ _ (by omega)
  | smooth => exact blendTriple_between _ _ (by have := smoothWeight_le hw; omega)

/-! ## Runs and tracks -/

/-- A sample passes over keyframes at or before its time (R107, step 1). -/
theorem sampleRun_append (tgt : Target) (k : Keyframe) {before : List Keyframe} (rest : List Keyframe) {t : Nat}
    (hbefore : ∀ x ∈ before, x.time ≤ t) (hk : k.time ≤ t) :
    sampleRun tgt (before ++ k :: rest) t = sampleFrom tgt k t rest := by
  have hfrom : ∀ (l : List Keyframe) (x : Keyframe), (∀ y ∈ l, y.time ≤ t) →
      sampleFrom tgt x t (l ++ k :: rest) = sampleFrom tgt k t rest := by
    intro l
    induction l with
    | nil => exact fun x _ => if_pos hk
    | cons y l ih =>
      intro x hl
      rw [List.cons_append, sampleFrom, if_pos (hl y List.mem_cons_self)]
      exact ih y fun z hz => hl z (List.mem_cons_of_mem _ hz)
  cases before with
  | nil => rfl
  | cons x before => exact hfrom before x fun y hy => hbefore y (List.mem_cons_of_mem _ hy)

theorem toFrameValue_eq (tgt : Target) (v : Triple) :
    toFrameValue tgt v = if tgt = .opacity then ⟨v.x / 257, 0, 0⟩ else v := by
  cases tgt <;> rfl

theorem timesRise_iff (l : List Keyframe) : timesRise l = true ↔ l.IsChain fun a b => a.time ≤ b.time := by
  induction l with
  | nil => exact iff_of_true rfl List.IsChain.nil
  | cons a l ih =>
    cases l with
    | nil => exact iff_of_true rfl (List.IsChain.singleton a)
    | cons b l => rw [timesRise, Bool.and_eq_true, decide_eq_true_eq, ih, List.isChain_cons_cons]

/-- A run is timed by its first keyframe, each next one, and its last (R95, R109). -/
theorem runTimed_iff (pool : Store Keyframe) (tr : Track) (duration : Nat) {c : Nat} (hc : tr.count = c + 1) :
    runTimed (runKeys pool tr) duration = true ↔ (readKey pool tr.first).time = 0 ∧
      (∀ j, j + 1 < tr.count → (readKey pool (tr.first + j)).time ≤ (readKey pool (tr.first + j + 1)).time) ∧
      (readKey pool (tr.first + tr.count - 1)).time ≤ duration := by
  have hhead : (runKeys pool tr).head? = some (readKey pool tr.first) := by
    rw [runKeys, hc, List.range_succ_eq_map]; rfl
  have hlast : (runKeys pool tr).getLast? = some (readKey pool (tr.first + tr.count - 1)) := by
    rw [runKeys, hc, List.range_succ, List.map_append, List.map_singleton, List.getLast?_concat]; rfl
  have hrise : timesRise (runKeys pool tr) = true ↔
      ∀ j, j + 1 < tr.count → (readKey pool (tr.first + j)).time ≤ (readKey pool (tr.first + j + 1)).time := by
    rw [timesRise_iff, runKeys, List.isChain_map, hc, List.isChain_range_succ]
    exact forall_congr' fun j => imp_congr_left (by omega)
  rw [runTimed, Bool.and_eq_true, Bool.and_eq_true, hrise, hhead, hlast, Option.all_some, Option.all_some, beq_iff_eq,
    decide_eq_true_eq, and_assoc]

theorem trackBroken_iff (r : OriginRec) (pool : Store Keyframe) (duration : Nat) (tr : Track) (hc : 2 ≤ tr.count) :
    trackBroken r pool duration tr = false ↔ TrackSound r pool duration tr := by
  rw [trackBroken, Bool.or_eq_false_iff, Bool.not_eq_false', Bool.not_eq_false',
    runTimed_iff pool tr duration (c := tr.count - 1) (by omega), keysInRange, decide_eq_true_eq, and_assoc]
  rfl

/-! ## Rebased starts -/

/-- A difference of times less a part of it. -/
theorem toInt_sub_ofNat {x : BitVec 48} {k : Nat} (hk : (k : Int) ≤ x.toInt) :
    (x - BitVec.ofNat 48 k).toInt = x.toInt - k := by
  have hx := x.isLt
  rw [BitVec.toInt_eq_toNat_cond] at hk
  rw [BitVec.toInt_eq_toNat_cond, BitVec.toInt_eq_toNat_cond, BitVec.toNat_sub, BitVec.toNat_ofNat]
  split at hk
  · rw [if_pos (by omega)]
    split <;> omega
  · omega

theorem sub_add_toInt {tf start : Time} {k : Nat} (hk : (k : Int) ≤ (tf - start).toInt) :
    (tf - (start + BitVec.ofNat 48 k)).toInt = (tf - start).toInt - k := by
  rw [← BitVec.sub_sub, toInt_sub_ofNat hk]

/-- After a rebase the time elapsed is that within the pass (R106). -/
theorem elapsed_rebased {tf start : Time} {d : Nat} (h : d ≤ elapsed tf start) (hd : 1 ≤ d) :
    elapsed tf (start + BitVec.ofNat 48 (elapsed tf start / d * d * 1000)) = elapsed tf start % d := by
  have hmod := Nat.div_add_mod' (elapsed tf start) d
  have hlt := Nat.mod_lt (elapsed tf start) hd
  have he : elapsed tf start = ((tf - start).toInt / 1000).toNat := rfl
  generalize elapsed tf start = e at *
  generalize e / d * d = whole at *
  rw [elapsed, timeDiff, sub_add_toInt (by omega)]
  omega

/-! ## Values put into a layer's fields -/

/-- A source with a colour put in: a SOLID one takes it, any other stands (R108). -/
def coloured (v : Triple) : Source → Source
  | .solid _ => .solid ⟨v.x.toNat, v.y.toNat, v.z.toNat⟩
  | src => src

section
variable (ed : Editable) (tgt : Target) (v : Triple)

theorem putValue_level : (putValue ed tgt v).level = if tgt = .level then v.x.toNat else ed.level := by
  cases tgt with
  | colour => cases h : ed.source <;> simp only [putValue, h] <;> rfl
  | level | offset | opacity => rfl

theorem putValue_offset : (putValue ed tgt v).offset = if tgt = .offset then v.x else ed.offset := by
  cases tgt with
  | colour => cases h : ed.source <;> simp only [putValue, h] <;> rfl
  | level | offset | opacity => rfl

theorem putValue_opacity : (putValue ed tgt v).opacity = if tgt = .opacity then v.x.toNat else ed.opacity := by
  cases tgt with
  | colour => cases h : ed.source <;> simp only [putValue, h] <;> rfl
  | level | offset | opacity => rfl

theorem putValue_source : (putValue ed tgt v).source = if tgt = .colour then coloured v ed.source else ed.source := by
  cases tgt with
  | colour => cases h : ed.source <;> simp only [putValue, h, coloured] <;> rfl
  | level | offset | opacity => rfl

theorem putValue_rest : putValue ed tgt v = { ed with
    source := (putValue ed tgt v).source, level := (putValue ed tgt v).level, offset := (putValue ed tgt v).offset,
    opacity := (putValue ed tgt v).opacity } := by
  cases tgt with
  | colour =>
    cases h : ed.source with
    | solid => simp only [putValue, h]
    | pattern | stream => simp only [putValue, h]; rw [← h]
  | level | offset | opacity => rfl

end

theorem FieldsPut.nil (ed : Editable) : FieldsPut [] [] ed ed :=
  ⟨rfl, nofun, fun _ => rfl, fun _ => rfl, fun _ => rfl, fun _ => rfl⟩

/-- One value put in first, of a track whose target no later one has. -/
theorem FieldsPut.cons {tr : Track} {v : Triple} {trs : List Track} {vals : List Triple} {ed e : Editable}
    (hnew : ∀ x ∈ trs, x.target ≠ tr.target) (h : FieldsPut trs vals (putValue ed tr.target v) e) :
    FieldsPut (tr :: trs) (v :: vals) ed e := by
  obtain ⟨hrest, hput, hlevel, hoffset, hopacity, hsource⟩ := h
  rw [putValue_level] at hlevel
  rw [putValue_offset] at hoffset
  rw [putValue_opacity] at hopacity
  rw [putValue_source] at hsource
  have hsolid : tr.target = .colour → ∀ c, ed.source = .solid c → e.source = .solid ⟨v.x.toNat, v.y.toNat, v.z.toNat⟩ := by
    intro ht c hc
    rw [if_pos ht, hc] at hsource
    exact hsource (.inl fun x hx => ht ▸ hnew x hx)
  refine ⟨?_, fun k => ?_, fun hno => ?_, fun hno => ?_, fun hno => ?_, fun hno => ?_⟩
  · rw [hrest, putValue_rest]
  · cases k with
    | zero =>
      rintro t w ⟨⟩ ⟨⟩
      refine ⟨fun ht => ?_, fun ht => ?_, fun ht => ?_, hsolid⟩
      · rw [hlevel fun x hx => ht ▸ hnew x hx, if_pos ht]
      · rw [hoffset fun x hx => ht ▸ hnew x hx, if_pos ht]
      · rw [hopacity fun x hx => ht ▸ hnew x hx, if_pos ht]
    | succ k =>
      intro t w ht hw
      obtain ⟨pl, po, pp, pc⟩ := hput k t w ht hw
      refine ⟨pl, po, pp, fun hcol c hc => pc hcol c ?_⟩
      rw [putValue_source, if_neg, hc]
      exact fun e => hnew t (List.mem_of_getElem? ht) (hcol.trans e.symm)
  · rw [hlevel fun x hx => hno x (List.mem_cons_of_mem _ hx), if_neg (hno tr List.mem_cons_self)]
  · rw [hoffset fun x hx => hno x (List.mem_cons_of_mem _ hx), if_neg (hno tr List.mem_cons_self)]
  · rw [hopacity fun x hx => hno x (List.mem_cons_of_mem _ hx), if_neg (hno tr List.mem_cons_self)]
  · rcases hno with hno | hno
    · rw [if_neg (hno tr List.mem_cons_self)] at hsource
      exact hsource (.inl fun x hx => hno x (List.mem_cons_of_mem _ hx))
    · have hsame : (if tr.target = .colour then coloured v ed.source else ed.source) = ed.source := by
        split
        · cases hs : ed.source with
          | solid c => exact absurd hs (hno c)
          | pattern | stream => rfl
        · rfl
      rw [hsame] at hsource
      exact hsource (.inr hno)

/-- Values put in in turn, of tracks no two of which have one target. -/
theorem fieldsPut_foldl {α : Type} (track : α → Track) (value : α → Triple) (xs : List α)
    (hdist : (xs.map fun x => (track x).target).Nodup) (ed : Editable) :
    FieldsPut (xs.map track) (xs.map value) ed (xs.foldl (fun e x => putValue e (track x).target (value x)) ed) := by
  induction xs generalizing ed with
  | nil => exact .nil ed
  | cons x xs ih =>
    obtain ⟨hx, hdist⟩ := List.nodup_cons.mp hdist
    refine FieldsPut.cons (fun t ht => ?_) (ih hdist (putValue ed (track x).target (value x)))
    obtain ⟨y, hy, rfl⟩ := List.mem_map.mp ht
    exact fun e => hx (List.mem_map.mpr ⟨y, hy, e⟩)

/-- The same of tracks beside their values. -/
theorem fieldsPut_zip {trs : List Track} {vals : List Triple} (hlen : vals.length = trs.length)
    (hdist : (trs.map (·.target)).Nodup) (value : Track → Triple → Triple) (ed : Editable) :
    FieldsPut trs (List.zipWith value trs vals) ed
      ((trs.zip vals).foldl (fun e x => putValue e x.1.target (value x.1 x.2)) ed) := by
  have hfst : (trs.zip vals).map Prod.fst = trs := List.map_fst_zip hlen.ge
  have h := fieldsPut_foldl Prod.fst (fun x => value x.1 x.2) (trs.zip vals)
    (by rw [← hfst, List.map_map] at hdist; exact hdist) ed
  rwa [hfst, List.map_zip_eq_zipWith] at h

/-! ## Release values -/

/-- Whether a release gives the number of R111's formula: within the target's range it does (log entry 22). -/
def GivesWithin (lo hi got v : Int) : Prop := lo ≤ got ∧ got ≤ hi ∧ (lo ≤ v → v ≤ hi → got = v)

theorem inTarget_gives (n : Nat) (layer : LayerNo) (tgt : Target) (channel : Nat) (v : Int) :
    GivesWithin (targetRange tgt).1 (targetRange tgt).2 (inTarget n layer tgt channel v) v :=
  let ⟨hlo, hhi⟩ := inTarget_range n layer tgt channel v
  ⟨hlo, hhi, fun hl hh => inTarget_of_range ⟨hl, hh⟩ n layer channel⟩

theorem targetRange_eq (tgt : Target) : targetRange tgt =
    (if tgt = .offset then -32768 else 0, if tgt = .offset then 32767 else if tgt = .opacity then 255 else 65535) := by
  cases tgt <;> rfl

theorem releaseValue_gives (ed : Editable) (n : Nat) (layer : LayerNo) (w : Int) (tgt : Target) (frozen : Triple) :
    let r := targetRange tgt
    let own := ownValue ed n tgt
    let v := releaseValue ed n layer w tgt frozen
    GivesWithin r.1 r.2 v.x (blendInt frozen.x own.x w) ∧
    (tgt = .colour → GivesWithin r.1 r.2 v.y (blendInt frozen.y own.y w) ∧
      GivesWithin r.1 r.2 v.z (blendInt frozen.z own.z w)) := by
  cases tgt with
  | colour => exact ⟨inTarget_gives .., fun _ => ⟨inTarget_gives .., inTarget_gives ..⟩⟩
  | level | offset | opacity => exact ⟨inTarget_gives .., nofun⟩

/-- What a RELEASING cue puts into its layer's fields (R111). -/
theorem cueFields_releasing {tf : Time} {cue : Cue} {start rel : Time} {frozen : List Triple} (n : Nat) (ed : Editable)
    (hrun : cue.run = .releasing start rel frozen) (hlen : frozen.length = cue.tracks.length)
    (hdist : (cue.tracks.map (·.target)).Nodup) :
    FieldsPut cue.tracks
      (List.zipWith (fun tr fz => releaseValue ed n cue.layer (releaseWeight tf rel cue.release) tr.target fz) cue.tracks frozen)
      ed (cueFields tf n cue ed) := by
  rw [cueFields, hrun]
  exact fieldsPut_zip hlen hdist _ ed

theorem cueFields_running {cue : Cue} {start : Time} {latest : List Triple} (tf : Time) (n : Nat) (ed : Editable)
    (hrun : cue.run = .running start latest) (hlen : latest.length = cue.tracks.length)
    (hdist : (cue.tracks.map (·.target)).Nodup) : FieldsPut cue.tracks latest ed (cueFields tf n cue ed) := by
  have h := fieldsPut_zip hlen hdist (fun _ v => v) ed
  have hvals : List.zipWith (fun (_ : Track) (v : Triple) => v) cue.tracks latest = latest :=
    (List.map_zip_eq_zipWith (f := Prod.snd)).symm.trans (List.map_snd_zip hlen.le)
  rw [hvals] at h
  rw [cueFields, hrun]
  exact h

/-- Settles O25: segments, runs, tracks, rebased starts, and the values a cue puts into its layer's fields. -/
theorem segmentsStayBetweenKeyframes : Obligations.SegmentsStayBetweenKeyframes := by
  refine ⟨fun a b w => blendInt_between a b, fun w => smoothWeight_le, ⟨by decide, by decide, by decide⟩,
    fun tgt k n t hk hn => ⟨fun he => ?_, fun he => ?_, fun he => ?_, segment_between tgt hk hn⟩,
    fun tgt before k t hbefore hk => ⟨sampleRun_append tgt k [] hbefore hk, fun n after hn => ?_⟩,
    fun tgt k => ⟨fun ht => ?_, fun ht => ?_⟩, fun pool tr t => toFrameValue_eq _ _,
    fun r pool duration tr => trackBroken_iff r pool duration tr, fun s cue t tr => ⟨fun hb => ?_, fun hb => ?_⟩,
    fun ed n => ⟨rfl, rfl, rfl, fun col hcol => ?_⟩, fun tf start cue hd => ⟨fun hno => ?_, fun hloops he => ?_⟩,
    fun tf n cue ed hdist => ⟨fun hrun => ?_, fun start latest hrun hlen => cueFields_running tf n ed hrun hlen hdist,
      fun start rel frozen hrun hlen hrel => ?_⟩, fun s cue ed hdist => ?_⟩
  · simp only [segment, he]
  · simp only [segment, he]; rfl
  · simp only [segment, he]; rfl
  · rw [sampleRun_append tgt k (n :: after) hbefore hk, sampleFrom, if_neg (Nat.not_le.mpr hn)]
  · rw [ht]; rfl
  · cases tgt with
    | offset => exact absurd rfl ht
    | colour | level | opacity => rfl
  · rw [State.trackNow, if_neg (Bool.eq_false_iff.mp hb)]
  · rw [State.trackNow, if_pos hb]
  · simp only [ownValue, hcol]
  · exact if_neg fun ⟨hl, he⟩ => hno.elim (fun h => h hl) fun h => absurd he (Nat.not_le.mpr h)
  · have hre : rebased tf start cue = _ := if_pos ⟨hloops, he⟩
    exact ⟨hre, by rw [hre]; exact elapsed_rebased he hd⟩
  · rcases hrun with hrun | hrun <;> rw [cueFields, hrun]
  · refine ⟨_, ?_, cueFields_releasing n ed hrun hlen hdist, fun k tr fz v htr hfz hv => ?_⟩
    · rw [List.length_zipWith, hlen, Nat.min_self]
    · rw [List.getElem?_zipWith, htr, hfz] at hv
      obtain rfl := Option.some.inj hv
      have h := releaseValue_gives ed n cue.layer (releaseWeight tf rel cue.release) tr.target fz
      rw [targetRange_eq] at h
      exact h
  · have h := fieldsPut_foldl id (fun tr => trackValue s.ce.pool tr cue.duration) (s.soundTracks cue)
      (hdist.sublist (List.filter_sublist.map _)) ed
    rwa [List.map_id] at h

end Sys2Proof.Machine

/-! PROOF. The completion of a compose (R57): void flags, limits, loops and watches, each with its records and what it tells. -/

namespace Sys2Proof.Machine

/-! ## Void flags -/

/-- What the void flag of a layer tells when it is settled (R67). -/
def voidTold (s : State) (c : Compose) (u : State) (i : LayerNo) : State :=
  match c.layers[i].owner with
  | none => u
  | some o =>
    if c.gone.getLsbD i.val = true ∨ c.inSetup = true ∨
        s.lt.layers[i].void = (!c.inSetup && c.lamps.toList.any fun y => y.voiders.getLsbD i.val) then u
    else u.notify o (.layerVoid i (!c.inSetup && c.lamps.toList.any fun y => y.voiders.getLsbD i.val))

theorem settleVoid_mp {s u v : State} {c : Compose} {i : LayerNo} (hi : u.lt.layers[i] = s.lt.layers[i]) (h : u.mp = v.mp) :
    (u.settleVoid c c.lamps i).mp = (voidTold s c v i).mp := by
  unfold voidTold State.settleVoid
  simp only [hi]
  change (if c.gone.getLsbD i.val = true then u else if c.inSetup = true then _ else
    if s.lt.layers[i].void = (c.lamps.toList.any fun y => y.voiders.getLsbD i.val) then u else _ : State).mp = _
  cases c.gone.getLsbD i.val with
  | true =>
    simp only [true_or, if_true]
    cases c.layers[i].owner <;> exact h
  | false =>
    cases c.inSetup with
    | true =>
      simp only [true_or, or_true, if_true]
      cases c.layers[i].owner <;> exact h
    | false =>
      simp only [Bool.false_eq_true, false_or, if_false, Bool.not_false, Bool.true_and]
      cases c.layers[i].owner with
      | none => dsimp only; split <;> exact h
      | some o =>
        dsimp only
        split
        · exact h
        · exact notify_mp_congr (u := u.setLayer i _) h o _

theorem voidsSettled_mp (s : State) (c : Compose) :
    (voidsSettled s c).mp = ((List.finRange 16).foldl (voidTold s c) s).mp :=
  foldl_told (·.lt.layers) (fun _ => ()) (start := s) (f := fun u i => u.settleVoid c c.lamps i) (fun _ _ => rfl)
    (fun u i j hj => (settleVoid_layer u c i j).trans (if_neg hj)) (fun _ _ _ _ hi h => settleVoid_mp hi h) _
    (List.nodup_finRange 16) _ s rfl (fun _ _ => rfl) rfl

/-! ## Limits -/

/-- A loop's limiting record after a completion (R77). -/
def limitAfter (c : Compose) (l : LoopNo) : Limit := ⟨(c.loopOuts c.lamps)[l].limiting, loopDerate c l⟩

theorem loopOuts_limit (c : Compose) (l : LoopNo) :
    (⟨(c.loopOuts c.lamps)[l].limiting, (c.loopOuts c.lamps)[l].derate⟩ : Limit) = limitAfter c l := by
  have h : (c.loopOuts c.lamps)[l] = _ := tabulate_get _ l
  rw [limitAfter, h]
  rfl

theorem limitReported_eq_false {old new : Limit} : limitReported old new = false ↔
    old.limiting = new.limiting ∧ (old.derate = 65536 ↔ new.derate = 65536) := by
  rw [limitReported, Bool.or_eq_false_iff, bne_eq_false_iff_eq, bne_eq_false_iff_eq]
  refine and_congr_right fun _ => ?_
  rw [Bool.eq_iff_iff, beq_iff_eq, beq_iff_eq]

/-- What the limiting record of a loop tells when it is settled (R77). -/
def limitTold (s : State) (c : Compose) (u : State) (l : LoopNo) : State :=
  if s.co.limits[l].limiting = (limitAfter c l).limiting ∧
      (s.co.limits[l].derate = 65536 ↔ (limitAfter c l).derate = 65536) then u
  else u.notifyAll (.limiting l (limitAfter c l).limiting (limitAfter c l).derate)

theorem settleLimit_eq (u : State) (c : Compose) (l : LoopNo) : u.settleLimit (c.loopOuts c.lamps) l =
    if limitReported u.co.limits[l] (limitAfter c l) = true then
      (u.setLimit l (limitAfter c l)).notifyAll (.limiting l (limitAfter c l).limiting (limitAfter c l).derate)
    else u.setLimit l (limitAfter c l) := by
  rw [← loopOuts_limit]
  rfl

theorem settleLimit_frame (u : State) (c : Compose) (l : LoopNo) : u.settleLimit (c.loopOuts c.lamps) l =
    { u with mp := (u.settleLimit (c.loopOuts c.lamps) l).mp
             co := { u.co with limits := setAt u.co.limits l (limitAfter c l) } } := by
  rw [settleLimit_eq]
  split
  · rw [notifyAll_frame]; rfl
  · rfl

theorem settleLimit_limit (u : State) (c : Compose) (l j : LoopNo) :
    (u.settleLimit (c.loopOuts c.lamps) l).co.limits[j] = if j = l then limitAfter c l else u.co.limits[j] := by
  have h : (u.settleLimit (c.loopOuts c.lamps) l).co.limits = setAt u.co.limits l (limitAfter c l) := by
    rw [settleLimit_frame]
  simp only [h, setAt_get]

theorem settleLimit_mp {s u v : State} {c : Compose} {l : LoopNo} (hl : u.co.limits[l] = s.co.limits[l]) (h : u.mp = v.mp) :
    (u.settleLimit (c.loopOuts c.lamps) l).mp = (limitTold s c v l).mp := by
  rw [settleLimit_eq, hl, limitTold]
  by_cases hr : limitReported s.co.limits[l] (limitAfter c l) = true
  · rw [if_pos hr, if_neg (limitReported_eq_false.not.mp (by simpa using hr))]
    exact notifyAll_mp_congr (u := u.setLimit l _) h _
  · rw [if_neg hr, if_pos (limitReported_eq_false.mp (by simpa using hr))]
    exact h

/-- The limiting records of a completion settled. -/
@[irreducible] def limitsSettled (s : State) (c : Compose) : State :=
  List.foldl (β := Fin 6) (fun s l => s.settleLimit (c.loopOuts c.lamps) l) (voidsSettled s c) (List.finRange 6)

theorem limitsSettled_limit (s : State) (c : Compose) (l : LoopNo) : (limitsSettled s c).co.limits[l] = limitAfter c l := by
  unfold limitsSettled
  exact foldl_all_records (n := 6) (f := fun s l => s.settleLimit (c.loopOuts c.lamps) l) (fun u => u.co.limits) (fun _ => ())
    (fun _ l _ => limitAfter c l) (fun _ _ => rfl) (settleLimit_limit · c) (voidsSettled s c) l

theorem limitsSettled_frame (s : State) (c : Compose) :
    limitsSettled s c = { s with mp := (limitsSettled s c).mp
                                 lt := { s.lt with layers := (voidsSettled s c).lt.layers }
                                 co := { s.co with inFlight := none, limits := (limitsSettled s c).co.limits } } := by
  have h : limitsSettled s c = { voidsSettled s c with
      mp := (limitsSettled s c).mp
      co := { (voidsSettled s c).co with limits := (limitsSettled s c).co.limits } } := by
    unfold limitsSettled
    refine foldl_related (R := fun s t => t = { s with mp := t.mp, co := { s.co with limits := t.co.limits } })
      (fun _ => rfl) (fun {s t u} h g => ?_) (fun u l => ?_) _ _
    · rw [g, h]
    · rw [settleLimit_frame]
  conv_lhs => rw [h, voidsSettled_frame]

theorem limitsSettled_mp {s : State} {c : Compose} {v : State} (h : (voidsSettled s c).mp = v.mp) :
    (limitsSettled s c).mp = ((List.finRange 6).foldl (limitTold s c) v).mp := by
  unfold limitsSettled
  refine foldl_told (·.co.limits) (fun _ => ()) (start := s) (f := fun s l => s.settleLimit (c.loopOuts c.lamps) l)
    (fun _ _ => rfl) (fun u i j hj => (settleLimit_limit u c i j).trans (if_neg hj))
    (fun _ _ _ _ hl h => settleLimit_mp hl h) _ (List.nodup_finRange 6) _ v rfl (fun l _ => ?_) h
  have hco : (voidsSettled s c).co.limits = s.co.limits := by rw [voidsSettled_frame]
  simp only [hco]

end Sys2Proof.Machine

/-! PROOF. Loops and watches at the completion of a compose (R154, R158, R159, R169 to R172), and the completion whole. -/

namespace Sys2Proof.Machine

/-! ## Loops -/

theorem changeLoop_frame (s : State) (l : LoopNo) (x : Loop) (cause : LoopCause) : s.changeLoop l x cause =
    { s with mp := (s.changeLoop l x cause).mp, lc := { s.lc with loops := setAt s.lc.loops l x } } := by
  unfold State.changeLoop
  rw [notifyAll_frame]
  rfl

theorem changeLoop_mp {s u v : State} {l : LoopNo} (hl : u.lc.loops[l] = s.lc.loops[l]) (h : u.mp = v.mp) (x : Loop)
    (cause : LoopCause) : (u.changeLoop l x cause).mp =
      (v.notifyAll (.chainState l cause x.state s.lc.loops[l].state x.nodes s.lc.loops[l].nodes)).mp := by
  unfold State.changeLoop
  rw [hl]
  exact notifyAll_mp_congr (u := u.setLoop l x) h _

/-- The dark frames in a row with this one (R158). -/
def darkCount (words : List Rgb) (x : Loop) : Nat := if allDark words = true then x.quietCount + 1 else 0

/-- A loop after a completion that gives it its words (R154, R158, R159). -/
def completedLoop (now : Time) (words : List Rgb) (x : Loop) : Loop :=
  match x.state with
  | .running =>
    if x.claimed = true then
      if 64 ≤ darkCount words x then x.quieted else x.refreshed now words (darkCount words x)
    else x
  | .quiet => if allDark words = true then x else x.lit
  | .discovering => x
  | .failed => x
  | .off => x

/-- What a loop tells at a completion (R158, R159). -/
def completedTold (words : List Rgb) (x : Loop) (l : LoopNo) (u : State) : State :=
  if x.state = .running ∧ x.claimed = true ∧ 64 ≤ darkCount words x then
    u.notifyAll (.chainState l .dark .quiet .running x.nodes x.nodes)
  else if x.state = .quiet ∧ allDark words = false then u.notifyAll (.chainState l .lit .running .quiet x.nodes x.nodes)
  else u

section
variable (codes : LoopNo → List Rgb)

theorem loopAtCompletion_eq (u : State) (l : LoopNo) : u.loopAtCompletion codes l =
    let x := u.lc.loops[l]
    let words := (codes l).take x.nodes
    match x.state with
    | .running =>
      if x.claimed = true then
        if 64 ≤ darkCount words x then u.changeLoop l x.quieted .dark
        else u.setLoop l (x.refreshed u.sc.local' words (darkCount words x))
      else u
    | .quiet => if allDark words = true then u else u.changeLoop l x.lit .lit
    | .discovering => u
    | .failed => u
    | .off => u := rfl

theorem loopAtCompletion_frame (u : State) (l : LoopNo) : u.loopAtCompletion codes l =
    { u with mp := (u.loopAtCompletion codes l).mp
             lc := { u.lc with
               loops := setAt u.lc.loops l
                 (completedLoop u.sc.local' ((codes l).take u.lc.loops[l].nodes) u.lc.loops[l]) } } := by
  have hsame : setAt u.lc.loops l u.lc.loops[l] = u.lc.loops := setAt_self ..
  have hchange := changeLoop_frame u l
  rw [loopAtCompletion_eq, completedLoop]
  dsimp only
  generalize u.lc.loops[l] = x at *
  cases x.state with
  | running =>
    dsimp only
    split
    · split
      · rw [hchange]
      · rfl
    · rw [hsame]
  | quiet =>
    dsimp only
    split
    · rw [hsame]
    · rw [hchange]
  | discovering | failed | off => dsimp only; rw [hsame]

theorem loopAtCompletion_mp {s u v : State} {l : LoopNo} (hl : u.lc.loops[l] = s.lc.loops[l]) (h : u.mp = v.mp) :
    (u.loopAtCompletion codes l).mp =
      (completedTold ((codes l).take s.lc.loops[l].nodes) s.lc.loops[l] l v).mp := by
  have htold := changeLoop_mp hl h
  rw [loopAtCompletion_eq, completedTold, hl]
  generalize s.lc.loops[l] = x at *
  dsimp only
  cases hx : x.state with
  | running =>
    rw [hx] at htold
    simp only [reduceCtorEq, false_and, if_false, true_and]
    cases x.claimed with
    | false =>
      simp only [Bool.false_eq_true, false_and, if_false]
      exact h
    | true =>
      simp only [if_true, true_and]
      split
      · exact htold x.quieted .dark
      · exact h
  | quiet =>
    rw [hx] at htold
    simp only [reduceCtorEq, false_and, if_false, true_and]
    cases allDark ((codes l).take x.nodes) with
    | true => exact h
    | false => exact htold x.lit .lit
  | discovering | failed | off =>
    simp only [reduceCtorEq, false_and, if_false]
    exact h

theorem loopsAtCompletion_frame (s : State) : s.loopsAtCompletion codes =
    { s with mp := (s.loopsAtCompletion codes).mp, lc := { s.lc with loops := (s.loopsAtCompletion codes).lc.loops } } := by
  unfold State.loopsAtCompletion
  refine foldl_related (R := fun s t => t = { s with mp := t.mp, lc := { s.lc with loops := t.lc.loops } })
    (fun _ => rfl) (fun {s t u} h g => ?_) (fun u l => ?_) _ _
  · rw [g, h]
  · rw [loopAtCompletion_frame]

theorem loopAtCompletion_loop (u : State) (l j : LoopNo) : (u.loopAtCompletion codes l).lc.loops[j] =
    if j = l then completedLoop u.sc.local' ((codes l).take u.lc.loops[l].nodes) u.lc.loops[l] else u.lc.loops[j] := by
  have h : (u.loopAtCompletion codes l).lc.loops = setAt u.lc.loops l
      (completedLoop u.sc.local' ((codes l).take u.lc.loops[l].nodes) u.lc.loops[l]) := by rw [loopAtCompletion_frame]
  simp only [h, setAt_get]

theorem loopsAtCompletion_loop (s : State) (l : LoopNo) : (s.loopsAtCompletion codes).lc.loops[l] =
    completedLoop s.sc.local' ((codes l).take s.lc.loops[l].nodes) s.lc.loops[l] := by
  unfold State.loopsAtCompletion
  exact foldl_all_records (n := 6) (f := fun s l => s.loopAtCompletion codes l) (fun u => u.lc.loops) (fun u => u.sc.local')
    (fun now l x => completedLoop now ((codes l).take x.nodes) x)
    (fun u l => by rw [loopAtCompletion_frame]) (loopAtCompletion_loop codes) s l

theorem loopsAtCompletion_mp {s v w : State} (hs : s.lc = w.lc) (h : s.mp = v.mp) : (s.loopsAtCompletion codes).mp =
    ((List.finRange 6).foldl (fun u l => completedTold ((codes l).take w.lc.loops[l].nodes) w.lc.loops[l] l u) v).mp := by
  refine foldl_told (n := 6) (fun u => u.lc.loops) (fun _ => ()) (start := w) (f := fun s l => s.loopAtCompletion codes l)
    (tell := fun u l => completedTold ((codes l).take w.lc.loops[l].nodes) w.lc.loops[l] l u)
    (fun _ _ => rfl) (fun u i j hj => (loopAtCompletion_loop codes u i j).trans (if_neg hj))
    (fun _ _ _ _ hl h => loopAtCompletion_mp codes hl h) _ (List.nodup_finRange 6) _ v rfl (fun l _ => ?_) h
  simp only [hs]

end

/-! ## Watches -/

/-- The measure that a compose gives a watch (R169). -/
def watchLevel (zones : Vector (Option Zone) 32) (c : Compose) (drives : Vector Rgb 384) (x : Watch) : Nat :=
  measureOf x.measure ((watchedLamps zones c.nodes x.zone).map fun lam => drives[lam])

/-- A watch evaluated on a measure (R170). -/
def evaluatedWatch (m : Nat) (x : Watch) : Watch := { x with hit := if x.enabled = true then watchMatches x m else x.hit }

/-- What a watch tells of a measure (R171). -/
def watchTold (w : WatchNo) (m : Nat) (tf : Time) (x : Watch) (u : State) : State :=
  if x.enabled = true ∧ x.notice = true ∧ x.hit ≠ watchMatches x m then u.notifyAll (.watchHit w (watchMatches x m) m tf)
  else u

section
variable (c : Compose) (drives : Vector Rgb 384)

theorem evalWatch_eq (u : State) (w : WatchNo) : u.evalWatch c drives w =
    let x := u.wu.watches[w]
    let m := watchLevel u.co.zones c drives x
    if x.enabled = true then
      if x.notice = true ∧ x.hit ≠ watchMatches x m then
        (u.setWatchRec w (evaluatedWatch m x)).notifyAll (.watchHit w (watchMatches x m) m c.frameTime)
      else u.setWatchRec w (evaluatedWatch m x)
    else u := by
  unfold State.evalWatch
  dsimp only
  generalize u.wu.watches[w] = x
  by_cases he : x.enabled = true
  · have heval : ∀ m, evaluatedWatch m x = { x with hit := watchMatches x m } := fun m => by rw [evaluatedWatch, if_pos he]
    simp only [he, heval, watchLevel, Bool.not_true, Bool.false_eq_true, if_false, if_true, Bool.and_eq_true, bne_iff_ne]
  · simp only [he, Bool.not_false, if_true, Bool.false_eq_true, if_false]

theorem evalWatch_frame (u : State) (w : WatchNo) : u.evalWatch c drives w =
    { u with mp := (u.evalWatch c drives w).mp
             wu := { u.wu with
               watches := setAt u.wu.watches w
                 (evaluatedWatch (watchLevel u.co.zones c drives u.wu.watches[w]) u.wu.watches[w]) } } := by
  have hsame : setAt u.wu.watches w u.wu.watches[w] = u.wu.watches := setAt_self ..
  rw [evalWatch_eq]
  dsimp only
  generalize u.wu.watches[w] = x at *
  by_cases he : x.enabled = true
  · rw [if_pos he]
    split
    · rw [notifyAll_frame]; rfl
    · rfl
  · rw [if_neg he, evaluatedWatch, if_neg he, hsame]

theorem evalWatch_watch (u : State) (w j : WatchNo) : (u.evalWatch c drives w).wu.watches[j] =
    if j = w then evaluatedWatch (watchLevel u.co.zones c drives u.wu.watches[w]) u.wu.watches[w] else u.wu.watches[j] := by
  have h : (u.evalWatch c drives w).wu.watches = setAt u.wu.watches w
      (evaluatedWatch (watchLevel u.co.zones c drives u.wu.watches[w]) u.wu.watches[w]) := by rw [evalWatch_frame]
  simp only [h, setAt_get]

theorem evalWatch_mp {s u v : State} {w : WatchNo} (hz : u.co.zones = s.co.zones) (hw : u.wu.watches[w] = s.wu.watches[w])
    (h : u.mp = v.mp) : (u.evalWatch c drives w).mp =
      (watchTold w (watchLevel s.co.zones c drives s.wu.watches[w]) c.frameTime s.wu.watches[w] v).mp := by
  rw [evalWatch_eq, watchTold, hz, hw]
  dsimp only
  by_cases he : s.wu.watches[w].enabled = true
  · simp only [he, if_true, true_and]
    split
    · exact notifyAll_mp_congr (u := u.setWatchRec w _) h _
    · exact h
  · rw [if_neg he, if_neg fun hc => he hc.1]
    exact h

/-- The watches of a completion evaluated, before the lines are formed. -/
@[irreducible] def watchesEvaluated (s : State) : State :=
  List.foldl (β := Fin 4) (fun s w => s.evalWatch c drives w) s (List.finRange 4)

theorem watchesEvaluated_frame (s : State) : watchesEvaluated c drives s =
    { s with mp := (watchesEvaluated c drives s).mp
             wu := { s.wu with watches := (watchesEvaluated c drives s).wu.watches } } := by
  unfold watchesEvaluated
  refine foldl_related (R := fun s t => t = { s with mp := t.mp, wu := { s.wu with watches := t.wu.watches } })
    (fun _ => rfl) (fun {s t u} h g => ?_) (fun u w => ?_) _ _
  · rw [g, h]
  · rw [evalWatch_frame]

theorem watchesEvaluated_watch (s : State) (w : WatchNo) : (watchesEvaluated c drives s).wu.watches[w] =
    evaluatedWatch (watchLevel s.co.zones c drives s.wu.watches[w]) s.wu.watches[w] := by
  unfold watchesEvaluated
  exact foldl_all_records (n := 4) (f := fun s w => s.evalWatch c drives w) (fun u => u.wu.watches) (fun u => u.co.zones)
    (fun zones _ x => evaluatedWatch (watchLevel zones c drives x) x)
    (fun u w => by rw [evalWatch_frame]) (evalWatch_watch c drives) s w

theorem watchesEvaluated_mp {s v w : State} (hz : s.co.zones = w.co.zones) (hs : s.wu = w.wu) (h : s.mp = v.mp) :
    (watchesEvaluated c drives s).mp = ((List.finRange 4).foldl (fun u k =>
      watchTold k (watchLevel w.co.zones c drives w.wu.watches[k]) c.frameTime w.wu.watches[k] u) v).mp := by
  unfold watchesEvaluated
  refine foldl_told (n := 4) (fun u => u.wu.watches) (fun u => u.co.zones) (start := w)
    (f := fun s k => s.evalWatch c drives k)
    (tell := fun u k => watchTold k (watchLevel w.co.zones c drives w.wu.watches[k]) c.frameTime w.wu.watches[k] u)
    (fun u k => by rw [evalWatch_frame]) (fun u i j hj => (evalWatch_watch c drives u i j).trans (if_neg hj))
    (fun _ _ _ hz hw h => evalWatch_mp c drives hz hw h) _ (List.nodup_finRange 4) _ v hz (fun l _ => ?_) h
  simp only [hs]

end

/-- A line stands high when an enabled watch that is routed to it has hit (R172). -/
theorem lineHigh_iff {watches : Vector Watch 4} {line : Signal} : lineHigh watches line = true ↔
    ∃ w : WatchNo, watches[w].enabled = true ∧ watches[w].hit = true ∧ watches[w].signal = line := by
  simp only [lineHigh, vec_toList, List.any_map, List.any_eq_true, List.mem_finRange, true_and, Function.comp,
    Bool.and_eq_true, beq_iff_eq, and_assoc]

/-! ## Measures and comparators -/

theorem peak_foldl (drives : List Rgb) (k : Nat) :
    k ≤ drives.foldl (fun k d => max k d.peak) k ∧
    (∀ d ∈ drives, d.peak ≤ drives.foldl (fun k d => max k d.peak) k) ∧
    (drives.foldl (fun k d => max k d.peak) k = k ∨ ∃ d ∈ drives, drives.foldl (fun k d => max k d.peak) k = d.peak) := by
  induction drives generalizing k with
  | nil => exact ⟨Nat.le_refl k, nofun, .inl rfl⟩
  | cons d drives ih =>
    obtain ⟨hk, hall, hone⟩ := ih (max k d.peak)
    refine ⟨(Nat.le_max_left ..).trans hk, fun x hx => ?_, ?_⟩
    · rcases List.mem_cons.mp hx with rfl | hx
      · exact (Nat.le_max_right ..).trans hk
      · exact hall x hx
    · rcases hone with h | ⟨x, hx, h⟩
      · rcases Nat.le_total d.peak k with hd | hd
        · exact .inl (h.trans (Nat.max_eq_left hd))
        · exact .inr ⟨d, List.mem_cons_self, h.trans (Nat.max_eq_right hd)⟩
      · exact .inr ⟨x, List.mem_cons_of_mem _ hx, h⟩

theorem peak_bounds (d : Rgb) : (d.r ≤ d.peak ∧ d.g ≤ d.peak ∧ d.b ≤ d.peak) ∧ (d.peak = d.r ∨ d.peak = d.g ∨ d.peak = d.b) := by
  unfold Rgb.peak
  omega

/-- A comparator's condition on a measure (R170). -/
def ComparatorHolds (k : Comparator) (m : Nat) : Prop :=
  (k.kind = .below ∧ m < k.threshold) ∨ (k.kind = .atLeast ∧ k.threshold ≤ m) ∨ (k.kind = .equal ∧ m = k.threshold)

theorem compares_iff {k : Comparator} {m : Nat} : compares k m = true ↔ ComparatorHolds k m := by
  unfold compares ComparatorHolds
  cases k.kind <;> simp

theorem watchMatches_iff {x : Watch} {m : Nat} : watchMatches x m = true ↔
    if x.b.kind = .off then ComparatorHolds x.a m
    else match x.combine with
      | .all => ComparatorHolds x.a m ∧ ComparatorHolds x.b m
      | .any => ComparatorHolds x.a m ∨ ComparatorHolds x.b m := by
  unfold watchMatches
  split
  · exact compares_iff
  · cases x.combine with
    | all => exact (Bool.and_eq_true ..).to_iff.trans (and_congr compares_iff compares_iff)
    | any => exact (Bool.or_eq_true ..).to_iff.trans (or_congr compares_iff compares_iff)

end Sys2Proof.Machine

/-! PROOF. The completion of a compose whole: what it changes, what it tells, and the row of one loop that goes quiet (R57, R158). -/

namespace Sys2Proof.Machine

/-- The final codes of a compose. -/
def finalOf (c : Compose) : Vector Rgb 384 := finalDrives c.lamps (c.loopOuts c.lamps)

/-- The loops of a completion given their codes. -/
@[irreducible] def loopsCompleted (s : State) (c : Compose) : State := (limitsSettled s c).loopsAtCompletion (loopCodes (finalOf c))

theorem completeCompose_eq (s : State) (c : Compose) :
    s.completeCompose c = (watchesEvaluated c (finalOf c) (loopsCompleted s c)).formLines := by
  unfold loopsCompleted watchesEvaluated limitsSettled
  rfl

theorem loopCodes_eq (drives : Vector Rgb 384) (l : LoopNo) :
    loopCodes drives l = (List.finRange 64).map fun k => drives[lampAt l k] := by
  rw [loopCodes, loopLamps, List.map_map]
  rfl

theorem loopsCompleted_frame (s : State) (c : Compose) : loopsCompleted s c =
    { s with mp := (loopsCompleted s c).mp
             lt := { s.lt with layers := (voidsSettled s c).lt.layers }
             co := { s.co with inFlight := none, limits := (limitsSettled s c).co.limits }
             lc := { s.lc with loops := (loopsCompleted s c).lc.loops } } := by
  have h : loopsCompleted s c = { limitsSettled s c with
      mp := (loopsCompleted s c).mp
      lc := { (limitsSettled s c).lc with loops := (loopsCompleted s c).lc.loops } } := by
    unfold loopsCompleted
    exact loopsAtCompletion_frame _ _
  conv_lhs => rw [h, limitsSettled_frame]

theorem loopsCompleted_loop (s : State) (c : Compose) (l : LoopNo) : (loopsCompleted s c).lc.loops[l] =
    completedLoop s.sc.local' ((loopCodes (finalOf c) l).take s.lc.loops[l].nodes) s.lc.loops[l] := by
  have hlc : (limitsSettled s c).lc = s.lc := by rw [limitsSettled_frame]
  have hsc : (limitsSettled s c).sc = s.sc := by rw [limitsSettled_frame]
  have h := loopsAtCompletion_loop (loopCodes (finalOf c)) (limitsSettled s c) l
  simp only [hlc, hsc] at h
  unfold loopsCompleted
  exact h

/-- A completion changes void flags, limiting records, loops and the Watch Unit, and tells what it tells. -/
theorem completeCompose_frame (s : State) (c : Compose) : s.completeCompose c =
    { s with mp := (s.completeCompose c).mp
             lt := { s.lt with layers := (s.completeCompose c).lt.layers }
             co := { s.co with inFlight := none, limits := (s.completeCompose c).co.limits }
             lc := { s.lc with loops := (s.completeCompose c).lc.loops }
             wu := (s.completeCompose c).wu } := by
  have h : s.completeCompose c = { loopsCompleted s c with
      mp := (s.completeCompose c).mp, wu := (s.completeCompose c).wu } := by
    rw [completeCompose_eq, State.formLines, watchesEvaluated_frame]
  have hlimits : (s.completeCompose c).co.limits = (limitsSettled s c).co.limits := by rw [h, loopsCompleted_frame]
  have hloops : (s.completeCompose c).lc.loops = (loopsCompleted s c).lc.loops := by rw [h]
  have hlayers : (s.completeCompose c).lt.layers = (voidsSettled s c).lt.layers := by rw [h, loopsCompleted_frame]
  rw [hlimits, hloops, hlayers]
  conv_lhs => rw [h, loopsCompleted_frame]

theorem completeCompose_limit (s : State) (c : Compose) (l : LoopNo) :
    (s.completeCompose c).co.limits[l] = limitAfter c l := by
  have h : (s.completeCompose c).co.limits = (limitsSettled s c).co.limits := by
    rw [completeCompose_eq, State.formLines, watchesEvaluated_frame, loopsCompleted_frame]
  simp only [h]
  exact limitsSettled_limit s c l

theorem completeCompose_loop (s : State) (c : Compose) (l : LoopNo) : (s.completeCompose c).lc.loops[l] =
    completedLoop s.sc.local' ((loopCodes (finalOf c) l).take s.lc.loops[l].nodes) s.lc.loops[l] := by
  have h : (s.completeCompose c).lc.loops = (loopsCompleted s c).lc.loops := by
    rw [completeCompose_eq, State.formLines, watchesEvaluated_frame]
  simp only [h]
  exact loopsCompleted_loop s c l

theorem completeCompose_watch (s : State) (c : Compose) (w : WatchNo) : (s.completeCompose c).wu.watches[w] =
    evaluatedWatch (watchLevel s.co.zones c (finalOf c) s.wu.watches[w]) s.wu.watches[w] := by
  have hwu : (loopsCompleted s c).wu = s.wu := by rw [loopsCompleted_frame]
  have hz : (loopsCompleted s c).co.zones = s.co.zones := by rw [loopsCompleted_frame]
  have hsame : (s.completeCompose c).wu.watches = (watchesEvaluated c (finalOf c) (loopsCompleted s c)).wu.watches := by
    rw [completeCompose_eq, State.formLines]
  simp only [hsame, watchesEvaluated_watch, hwu, hz]

theorem completeCompose_sig0 (s : State) (c : Compose) :
    (s.completeCompose c).wu.sig0 = lineHigh (s.completeCompose c).wu.watches .sig0 := by
  rw [completeCompose_eq, State.formLines]

theorem completeCompose_sig1 (s : State) (c : Compose) :
    (s.completeCompose c).wu.sig1 = lineHigh (s.completeCompose c).wu.watches .sig1 := by
  rw [completeCompose_eq, State.formLines]

/-- What a completion tells, block by block (log entry 9). -/
theorem completeCompose_mp (s : State) (c : Compose) : (s.completeCompose c).mp =
    ((List.finRange 4).foldl (fun u k =>
      watchTold k (watchLevel s.co.zones c (finalOf c) s.wu.watches[k]) c.frameTime s.wu.watches[k] u)
    ((List.finRange 6).foldl (fun u l =>
      completedTold ((loopCodes (finalOf c) l).take s.lc.loops[l].nodes) s.lc.loops[l] l u)
    ((List.finRange 6).foldl (limitTold s c) ((List.finRange 16).foldl (voidTold s c) s)))).mp := by
  have hz : (loopsCompleted s c).co.zones = s.co.zones := by rw [loopsCompleted_frame]
  have hwu : (loopsCompleted s c).wu = s.wu := by rw [loopsCompleted_frame]
  have hlc : (limitsSettled s c).lc = s.lc := by rw [limitsSettled_frame]
  have hloops := loopsAtCompletion_mp (w := s) (loopCodes (finalOf c)) hlc (limitsSettled_mp (voidsSettled_mp s c))
  have hsame : (s.completeCompose c).mp = (watchesEvaluated c (finalOf c) (loopsCompleted s c)).mp := by
    rw [completeCompose_eq, State.formLines]
  rw [hsame]
  refine watchesEvaluated_mp c (finalOf c) hz hwu ?_
  unfold loopsCompleted
  exact hloops

/-! ## The row of one loop -/

theorem allDark_iff (drives : Vector Rgb 384) (l : LoopNo) (n : Nat) :
    allDark ((loopCodes drives l).take n) = true ↔ ∀ k : Fin 64, k.val < n → drives[lampAt l k] = ⟨0, 0, 0⟩ := by
  rw [loopCodes_eq, allDark, List.all_eq_true, Rgb.zero]
  constructor
  · intro h k hk
    have hlen : k.val < ((List.finRange 64).map fun k => drives[lampAt l k]).length := by simp
    have hmem := List.mem_take_iff_getElem.mpr ⟨k.val, Nat.lt_min.mpr ⟨hk, hlen⟩, rfl⟩
    have := beq_iff_eq.mp (h _ hmem)
    simpa using this
  · intro h d hd
    obtain ⟨i, hi, rfl⟩ := List.mem_take_iff_getElem.mp hd
    simp only [List.length_map, List.length_finRange, Nat.lt_min] at hi
    have := h ⟨i, hi.2⟩ hi.1
    simpa using this

theorem goesQuiet_iff {x : Loop} {c : Compose} {l : LoopNo} : goesQuiet x (c.words l x.nodes) = true ↔
    x.state = .running ∧ x.claimed = true ∧ (∀ k : Fin 64, k.val < x.nodes → (finalOf c)[lampAt l k] = ⟨0, 0, 0⟩) ∧
      63 ≤ x.quietCount := by
  have hcount : x.quietCount + 1 ≥ quietLimit ↔ 63 ≤ x.quietCount := Nat.succ_le_succ_iff
  rw [goesQuiet, Bool.and_eq_true, Bool.and_eq_true, Bool.and_eq_true, beq_iff_eq, decide_eq_true_eq, hcount,
    show c.words l x.nodes = (loopCodes (finalOf c) l).take x.nodes from rfl, allDark_iff, and_assoc, and_assoc]

section
variable {s : State} (hr : s.ps.resetHeld = false)

theorem exec_composeComplete_none (hc : s.co.inFlight = none) : exec .composeComplete s = .next s := by
  change execComposeComplete s = _
  rw [execComposeComplete, hc]

theorem exec_quietThreshold_none (hc : s.co.inFlight = none) (l : LoopNo) : exec (.quietThreshold l) s = .next s := by
  change execQuietThreshold l s = _
  rw [execQuietThreshold, hc]

include hr

theorem exec_composeComplete_some {c : Compose} (hc : s.co.inFlight = some c) :
    exec .composeComplete s = .next (s.completeCompose c) := by
  change execComposeComplete s = _
  rw [execComposeComplete, hc]
  exact live_free _ hr

theorem exec_quietThreshold_some {c : Compose} (hc : s.co.inFlight = some c) (l : LoopNo) : exec (.quietThreshold l) s =
    .next (if goesQuiet s.lc.loops[l] (c.words l s.lc.loops[l].nodes) = true then s.changeLoop l s.lc.loops[l].quieted .dark
      else s) := by
  change execQuietThreshold l s = _
  rw [execQuietThreshold, hc]
  exact live_free _ hr

end

section
variable {x : Loop} (now : Time) (words : List Rgb)

theorem completedLoop_running (h : x.state = .running) : completedLoop now words x = if x.claimed = true then
    if 64 ≤ darkCount words x then x.quieted else x.refreshed now words (darkCount words x) else x := by
  rw [completedLoop, h]

theorem completedLoop_refreshed (h : x.state = .running) (hc : x.claimed = true) (hn : darkCount words x < 64) :
    completedLoop now words x = x.refreshed now words (darkCount words x) := by
  rw [completedLoop_running now words h, if_pos hc, if_neg (Nat.not_le.mpr hn)]

theorem completedLoop_quieted (h : x.state = .running) (hc : x.claimed = true) (hn : 64 ≤ darkCount words x) :
    completedLoop now words x = x.quieted := by
  rw [completedLoop_running now words h, if_pos hc, if_pos hn]

theorem completedLoop_unclaimed (h : x.state = .running) (hc : x.claimed = false) : completedLoop now words x = x := by
  rw [completedLoop_running now words h, if_neg (Bool.eq_false_iff.mp hc)]

theorem completedLoop_quiet (h : x.state = .quiet) :
    completedLoop now words x = if allDark words = true then x else x.lit := by
  rw [completedLoop, h]

theorem completedLoop_idle (h : x.state = .discovering ∨ x.state = .failed ∨ x.state = .off) :
    completedLoop now words x = x := by
  rcases h with h | h | h <;> rw [completedLoop, h]

end

/-- A PEAK is the greatest code, 0 where there is none (R169). -/
theorem measureOf_peak (drives : List Rgb) :
    (∀ d ∈ drives, d.r ≤ measureOf .peak drives ∧ d.g ≤ measureOf .peak drives ∧ d.b ≤ measureOf .peak drives) ∧
    (measureOf .peak drives = 0 ∨ ∃ d ∈ drives, measureOf .peak drives = d.r ∨ measureOf .peak drives = d.g ∨
      measureOf .peak drives = d.b) := by
  obtain ⟨-, hall, hone⟩ := peak_foldl drives 0
  refine ⟨fun d hd => ?_, hone.imp id fun ⟨d, hd, h⟩ => ⟨d, hd, ?_⟩⟩
  · obtain ⟨⟨hr, hg, hb⟩, -⟩ := peak_bounds d
    exact ⟨hr.trans (hall d hd), hg.trans (hall d hd), hb.trans (hall d hd)⟩
  · have h : measureOf .peak drives = d.peak := h
    rw [h]
    exact (peak_bounds d).2

/-- Settles O59: a completion by its four blocks, the measures and comparators, and the row of one loop. -/
theorem composeCompletionsHandOutTheLight : Obligations.ComposeCompletionsHandOutTheLight := by
  refine ⟨fun s _ => exec_composeComplete_none, fun s c hr hc => ?_, fun drives => ?_, fun x m => ⟨fun hb => ?_, fun hb hc => ?_,
    fun hb hc => ?_⟩, fun l s hr => ⟨fun hc => exec_quietThreshold_none hc l, fun c hc => ⟨fun hno => ?_, fun hq => ?_⟩⟩⟩
  · intro lamps drives voided limit words dark count level told1 told2 told3 told4
    have hwords : ∀ l, (loopCodes (finalOf c) l).take s.lc.loops[l].nodes = words l := fun l => by rw [loopCodes_eq]; rfl
    have hloop := completeCompose_loop s c
    have hmp := completeCompose_mp s c
    simp only [hwords] at hloop hmp
    refine ⟨s.completeCompose c, exec_composeComplete_some hr hc, ?_, fun i => completeCompose_layer s c i,
      completeCompose_limit s c, fun l => ?_, completeCompose_watch s c, ?_, ?_⟩
    · exact (completeCompose_frame s c).trans (congrArg (fun m => { s with
        mp := m
        lt := { s.lt with layers := (s.completeCompose c).lt.layers }
        co := { s.co with inFlight := none, limits := (s.completeCompose c).co.limits }
        lc := { s.lc with loops := (s.completeCompose c).lc.loops }
        wu := (s.completeCompose c).wu }) hmp)
    · rw [hloop]
      exact ⟨completedLoop_refreshed _ _, completedLoop_quieted _ _, completedLoop_unclaimed _ _, completedLoop_quiet _ _,
        completedLoop_idle _ _⟩
    · rw [completeCompose_sig0, lineHigh_iff]
    · rw [completeCompose_sig1, lineHigh_iff]
  · obtain ⟨hall, hone⟩ := measureOf_peak drives
    exact ⟨hall, hone, rfl⟩
  · rw [watchMatches_iff, if_pos hb]; rfl
  · rw [watchMatches_iff, if_neg hb, hc]; rfl
  · rw [watchMatches_iff, if_neg hb, hc]; rfl
  · rw [exec_quietThreshold_some hr hc, if_neg (goesQuiet_iff.not.mpr hno)]
  · rw [exec_quietThreshold_some hr hc, if_pos (goesQuiet_iff.mpr hq), State.changeLoop]
    have hstate : s.lc.loops[l].state = .running := hq.1
    rw [hstate]
    rfl

end Sys2Proof.Machine

/-! PROOF. When a frame start is due (R87, R88), one due start resolved (R103 to R105), one end (R111, R112), one holdoff's end
(R152), and the gates applied (R35). -/

namespace Sys2Proof.Machine

/-! ## Due frame starts -/

theorem frameTimeReached_iff {s : State} {tf : Time} (h : s.sc.nextFrame = some tf) :
    s.frameTimeReached = true ↔ 0 ≤ (s.sc.scene - tf).toInt := by
  rw [State.frameTimeReached, h]
  exact decide_eq_true_iff

theorem frameDue_iff {s : State} {tf : Time} (h : s.sc.nextFrame = some tf) : s.frameDue = true ↔ FrameDue s tf := by
  rw [State.frameDue, Bool.and_eq_true, Bool.and_eq_true, frameTimeReached_iff h, State.framesRun, Bool.or_eq_true,
    beq_iff_eq, beq_iff_eq, Option.isNone_iff_eq_none, FrameDue, and_assoc]
  exact ⟨fun hd => ⟨h, hd⟩, fun hd => hd.2⟩

theorem frameDue_of {s : State} {tf : Time} (h : FrameDue s tf) : s.frameDue = true := (frameDue_iff h.1).mpr h

theorem frameDue_not {s : State} (h : ∀ tf, ¬FrameDue s tf) : s.frameDue = false := by
  cases hn : s.sc.nextFrame with
  | none => rw [State.frameDue, State.frameTimeReached, hn]; rfl
  | some tf => exact Bool.eq_false_iff.mpr fun hd => h tf ((frameDue_iff hn).mp hd)

section
variable {s : State} (hr : s.ps.resetHeld = false)

theorem exec_frameStart_waits (h : ∀ tf, ¬FrameDue s tf) : exec .frameStart s = .next s := by
  change execFrameStart s = _
  rw [execFrameStart]
  split
  · rfl
  · rw [frameDue_not h, liveWhen_false]

theorem exec_holdoffEnd_waits {l : LoopNo} (h : (∀ tf, ¬FrameDue s tf) ∨ s.lc.loops[l].state ≠ .failed ∨
    2 ≤ s.lc.loops[l].holdCount) : exec (.holdoffEnd l) s = .next s := by
  change s.liveWhen (s.frameDue && s.lc.loops[l].state == .failed && s.lc.loops[l].holdoffOver) _ = _
  have hno : (s.frameDue && s.lc.loops[l].state == .failed && s.lc.loops[l].holdoffOver) = false := by
    rcases h with h | h | h
    · rw [frameDue_not h]; rfl
    · rw [beq_eq_false_iff_ne.mpr h, Bool.and_false]; rfl
    · rw [Loop.holdoffOver, decide_eq_false (by omega), Bool.and_false]
  rw [hno, liveWhen_false]

include hr

theorem exec_frameStart_due {tf : Time} (h : FrameDue s tf) : exec .frameStart s = .next (s.frameStart tf) := by
  change execFrameStart s = _
  rw [execFrameStart, h.1]
  dsimp only
  rw [frameDue_of h, liveWhen_true _ hr]

theorem exec_holdoffEnd_due {l : LoopNo} {tf : Time} (h : FrameDue s tf) (hf : s.lc.loops[l].state = .failed)
    (hc : s.lc.loops[l].holdCount ≤ 1) : exec (.holdoffEnd l) s = .next (s.endHoldoff l) := by
  change s.liveWhen (s.frameDue && s.lc.loops[l].state == .failed && s.lc.loops[l].holdoffOver) _ = _
  rw [frameDue_of h, beq_iff_eq.mpr hf, Loop.holdoffOver, decide_eq_true hc]
  exact liveWhen_true _ hr

end

/-- A holdoff over: the loop counts again, its marks cleared, and it is told (R152, R157, R163). -/
theorem endHoldoff_eq {s : State} {l : LoopNo} (hf : s.lc.loops[l].state = .failed) : s.endHoldoff l =
    State.notifyAll { s with lc :=
        { loops := setAt s.lc.loops l { s.lc.loops[l] with
            state := .discovering, holdCount := 0, claimed := false
            await := some ⟨.count, s.sc.local', none⟩, out := [.count] }
          health := unqueried (· == l) s.lc.health } }
      (.chainState l .holdoffEnd .discovering .failed s.lc.loops[l].nodes s.lc.loops[l].nodes) := by
  rw [← hf]
  rfl

/-! ## One due start -/

theorem startCueAt_eq (u : State) (tf : Time) (c : CueNo) (cue : Cue) (start : Time) : u.startCueAt tf c cue start =
    let lateness := (tf - start).toInt
    let late := decide ((u.sc.period : Int) * 1000 ≤ lateness)
    let run := u.setCue c (some { cue with run := .running (if late = true then tf else start) [] })
    let told := if late = true then run.notify cue.owner (.cueLate c (min 4294967295 lateness.toNat) tf) else run
    if cue.autoShow = true then told.setLayer cue.layer { u.lt.layers[cue.layer] with state := .shown } else told := by
  have hlt : ∀ (v : State) (o : Origin) (n : Notice), (v.notify o n).lt = v.lt := fun v o n => by rw [notify_frame]
  unfold State.startCueAt
  dsimp only
  by_cases hlate : (u.sc.period : Int) * 1000 ≤ (tf - start).toInt
  · have hlate' : decide (timeDiff tf start ≥ (u.sc.period : Int) * 1000) = true := decide_eq_true hlate
    simp only [hlate', decide_eq_true hlate, if_true, hlt]
    rfl
  · have hlate' : decide (timeDiff tf start ≥ (u.sc.period : Int) * 1000) = false := decide_eq_false hlate
    simp only [hlate', decide_eq_false hlate, Bool.false_eq_true, if_false]
    rfl

section
variable {s : State} {e : StartEntry}

theorem resolve_none (h : s.ce.cues[e.cue] = none) (tf : Time) : s.resolve tf e = s := by
  rw [State.resolve, h]

theorem resolve_gone {cue : Cue} (h : s.ce.cues[e.cue] = some cue)
    (hl : s.lt.layers[cue.layer].state = .free ∨ s.lt.layers[cue.layer].owner ≠ some cue.owner) (tf : Time) :
    s.resolve tf e = s.endCue e.cue cue .layerGone := by
  rw [State.resolve, h]
  exact if_pos hl

theorem resolve_starts {cue : Cue} (h : s.ce.cues[e.cue] = some cue) (hfree : s.lt.layers[cue.layer].state ≠ .free)
    (hown : s.lt.layers[cue.layer].owner = some cue.owner) (tf : Time) :
    s.resolve tf e = (s.endCuesWhere (activeOn cue.layer) .preempted).startCueAt tf e.cue cue e.start := by
  rw [State.resolve, h]
  exact if_neg fun hc => hc.elim hfree fun hne => hne hown

end

theorem findSome_finRange_eq_some {n : Nat} {α : Type} {f : Fin n → Option α} {a : α} :
    (List.finRange n).findSome? f = some a ↔ ∃ i, f i = some a ∧ ∀ j < i, f j = none := by
  rw [List.findSome?_eq_some_iff]
  constructor
  · rintro ⟨before, i, after, hl, hi, hbefore⟩
    refine ⟨i, hi, fun j hj => ?_⟩
    have hsorted := List.pairwise_lt_finRange n
    have hmem := List.mem_finRange j
    rw [hl] at hmem hsorted
    rcases List.mem_append.mp hmem with hm | hm
    · exact hbefore j hm
    · obtain ⟨-, htail, -⟩ := List.pairwise_append.mp hsorted
      rcases List.mem_cons.mp hm with rfl | hm
      · exact absurd hj (lt_irrefl _)
      · exact absurd hj (List.rel_of_pairwise_cons htail hm).asymm
  · rintro ⟨i, hi, hlow⟩
    obtain ⟨before, after, hl⟩ := List.append_of_mem (List.mem_finRange i)
    have hsorted := List.pairwise_lt_finRange n
    rw [hl] at hsorted
    obtain ⟨-, -, hbefore⟩ := List.pairwise_append.mp hsorted
    exact ⟨before, i, after, hl, hi, fun x hx => hlow x (hbefore x hx i List.mem_cons_self)⟩

/-- A cue that meets a test, of a record that may be empty. -/
theorem filter_activeOn {x : Option Cue} {i : LayerNo} {cue : Cue} :
    x.filter (activeOn i) = some cue ↔ x = some cue ∧ cue.run.active = true ∧ cue.layer = i := by
  rw [Option.filter_eq_some_iff, activeOn_iff]

theorem filter_activeOn_none {x : Option Cue} {i : LayerNo} :
    x.filter (activeOn i) = none ↔ ∀ cue, x = some cue → cue.run.active = true → cue.layer ≠ i := by
  rw [Option.filter_eq_none_iff]
  exact forall_congr' fun cue => imp_congr_right fun _ => by rw [activeOn_iff, not_and]

/-- The cue found on a layer is the one that runs there (R103). -/
theorem cueOn_eq_some {s : State} {i : LayerNo} {cue : Cue} :
    s.cueOn i = some cue ↔ ∃ k, RunsOn s.ce.cues i k cue := by
  rw [State.cueOn, findSome_finRange_eq_some]
  refine exists_congr fun k => ?_
  rw [filter_activeOn, RunsOn, and_assoc, and_assoc]
  refine and_congr_right fun _ => and_congr_right fun _ => and_congr_right fun _ => ?_
  simp only [filter_activeOn_none]
  exact ⟨fun h j other hj => h j hj other, fun h j hj other => h j other hj⟩

theorem cueOn_of_runsOn {s : State} {i : LayerNo} {k : CueNo} {cue : Cue} (h : RunsOn s.ce.cues i k cue) :
    s.cueOn i = some cue := cueOn_eq_some.mpr ⟨k, h⟩

theorem cueOn_eq_none {s : State} {i : LayerNo} : s.cueOn i = none ↔ ∀ k cue, ¬RunsOn s.ce.cues i k cue := by
  rw [Option.eq_none_iff_forall_ne_some]
  exact ⟨fun h k cue hr => h cue (cueOn_of_runsOn hr), fun h cue hc => let ⟨k, hr⟩ := cueOn_eq_some.mp hc; h k cue hr⟩

/-- No cue on a layer: none is active there. -/
theorem not_activeOn {s : State} {i : LayerNo} (h : s.cueOn i = none) (c : CueNo) (cue : Cue)
    (hc : s.ce.cues[c] = some cue) : activeOn i cue = false := by
  have hnone := List.findSome?_eq_none_iff.mp h c (List.mem_finRange c)
  exact Bool.eq_false_iff.mpr fun ha => filter_activeOn_none.mp hnone cue hc (activeOn_iff.mp ha).1 (activeOn_iff.mp ha).2

/-- What a due start leaves of the cue that ran on its layer (R103). -/
theorem preempted_eq {s v : State} {i : LayerNo} (hnone : (∀ k other, ¬RunsOn s.ce.cues i k other) → v = s)
    (hone : ∀ k other, RunsOn s.ce.cues i k other →
      (∀ (j : CueNo) (y : Cue), s.ce.cues[j] = some y → y.run.active = true → y.layer = i → j = k) ∧
      v = (s.setCue k (some { other with run := .ready })).notify other.owner (.cueEnded k i .preempted)) :
    s.endCuesWhere (activeOn i) .preempted = v := by
  cases hon : s.cueOn i with
  | none => rw [endCuesWhere_none _ (not_activeOn hon), hnone (cueOn_eq_none.mp hon)]
  | some other =>
    obtain ⟨k, hrun⟩ := cueOn_eq_some.mp hon
    obtain ⟨huniq, rfl⟩ := hone k other hrun
    obtain ⟨hc, hact, rfl, -⟩ := hrun
    refine endCuesWhere_one .preempted hc (activeOn_iff.mpr ⟨hact, rfl⟩) fun d y hd hy => ?_
    obtain ⟨hya, hyl⟩ := activeOn_iff.mp hy
    exact huniq d y hd hya hyl

/-- What becomes of a due start whose layer stands and is its owner's (R103 to R105). -/
theorem resolve_spec {s : State} {tf : Time} {e : StartEntry} {cue : Cue} (h : s.ce.cues[e.cue] = some cue)
    (hfree : s.lt.layers[cue.layer].state ≠ .free) (hown : s.lt.layers[cue.layer].owner = some cue.owner) {v : State}
    (hnone : (∀ k other, ¬RunsOn s.ce.cues cue.layer k other) → v = s)
    (hone : ∀ k other, RunsOn s.ce.cues cue.layer k other →
      (∀ (j : CueNo) (y : Cue), s.ce.cues[j] = some y → y.run.active = true → y.layer = cue.layer → j = k) ∧
      v = (s.setCue k (some { other with run := .ready })).notify other.owner (.cueEnded k cue.layer .preempted)) :
    s.resolve tf e =
      let lateness := (tf - e.start).toInt
      let late := decide ((s.sc.period : Int) * 1000 ≤ lateness)
      let run := v.setCue e.cue (some { cue with run := .running (if late = true then tf else e.start) [] })
      let told := if late = true then run.notify cue.owner (.cueLate e.cue (min 4294967295 lateness.toNat) tf) else run
      if cue.autoShow = true then told.setLayer cue.layer { s.lt.layers[cue.layer] with state := .shown } else told := by
  have hv := preempted_eq hnone hone
  have hframe := CueFrame.endCuesWhere s (activeOn cue.layer) .preempted
  have hsc : v.sc = s.sc := by rw [← hv, hframe]
  have hlt : v.lt.layers = s.lt.layers := by
    rw [← hv]; exact (layerParts_eq_iff.mp (endCuesWhere_parts s (activeOn cue.layer) .preempted)).1
  rw [resolve_starts h hfree hown, hv, startCueAt_eq]
  simp only [hsc, hlt]

/-! ## One end -/

theorem endIfDue_none {s : State} {c : CueNo} (h : s.ce.cues[c] = none) (tf : Time) : s.endIfDue tf c = s := by
  rw [State.endIfDue, h]

theorem endIfDue_some {s : State} {c : CueNo} {cue : Cue} (h : s.ce.cues[c] = some cue) (tf : Time) : s.endIfDue tf c =
    if releaseOver tf cue = true then s.endCue c cue .stopped
    else if endsAt tf cue = true then s.naturalEnd c cue else s := by
  rw [State.endIfDue, h]

theorem endedLayer_eq (s : State) (cue : Cue) (l : Layer) : s.endedLayer cue l =
    if l.state = .free then l
    else match cue.ending with
      | .hold => { l with ed := s.heldFields cue l.ed }
      | .restore => l
      | .hide => { l with state := .held } := by
  unfold State.endedLayer
  cases l.state with
  | free => rfl
  | held | shown => cases cue.ending <;> rfl

/-! ## The gates applied -/

theorem idx_surj (i : Fin 4) : ∃ o : Origin, o.idx = i := by
  match i with
  | 0 => exact ⟨.body, rfl⟩
  | 1 => exact ⟨.media, rfl⟩
  | 2 => exact ⟨.assist, rfl⟩
  | 3 => exact ⟨.service, rfl⟩

/-- A layer as the gates applied at a frame start leave it (R35). -/
theorem appliedLayer_eq {s : State} {l x : Layer}
    (hopen : (∃ o, l.owner = some o ∧ s.gate o = .opening) → ∀ c, l.copy = some c → x =
      { l with ed := c.ed, detached := c.detached, state := if c.shown = true then .shown else .held, copy := none })
    (hkept : (∀ o, l.owner = some o → s.gate o ≠ .opening) ∨ l.copy = none → x = l) :
    x = if ownerOpening s.lt.gates l = true then applyCopy l else l := by
  have howner : ownerOpening s.lt.gates l = true ↔ ∃ o, l.owner = some o ∧ s.gate o = .opening := by
    rw [ownerOpening, Option.any_eq_true]
    exact exists_congr fun o => and_congr_right fun _ => beq_iff_eq
  split
  · rename_i h
    rw [applyCopy]
    cases hc : l.copy with
    | none => exact hkept (.inr hc)
    | some c => exact hopen (howner.mp h) c hc
  · rename_i h
    exact hkept (.inl fun o ho hg => h (howner.mpr ⟨o, ho, hg⟩))

theorem applyGates_eq {s : State} {ls : Vector Layer 16} {gs : Vector Gate 4} {qs : Vector StreamQueue 2}
    (hls : ∀ i : LayerNo,
      ((∃ o, s.lt.layers[i].owner = some o ∧ s.gate o = .opening) → ∀ c, s.lt.layers[i].copy = some c → ls[i] =
        { s.lt.layers[i] with
          ed := c.ed, detached := c.detached, state := if c.shown = true then .shown else .held, copy := none }) ∧
      ((∀ o, s.lt.layers[i].owner = some o → s.gate o ≠ .opening) ∨ s.lt.layers[i].copy = none → ls[i] = s.lt.layers[i]))
    (hgs : ∀ o : Origin, gs[o.idx] = if s.gate o = .opening then .opened else s.gate o)
    (hqs : ∀ q : QueueNo, qs[q] = match s.ss.queues[q].bound with
      | none => s.ss.queues[q]
      | some i => if usesStream ls[i] = true then s.ss.queues[q] else ⟨none, none, [], none, false⟩) :
    s.applyGates = { s with lt := ⟨ls, gs⟩, ss := { s.ss with queues := qs } } := by
  have hmap : ls = mapAt s.lt.layers fun _ l => if ownerOpening s.lt.gates l = true then applyCopy l else l :=
    eq_mapAt fun i => appliedLayer_eq (hls i).1 (hls i).2
  have hgates : gs = mapAt s.lt.gates fun _ g => if g = .opening then .opened else g := eq_mapAt fun i => by
    obtain ⟨o, rfl⟩ := idx_surj i
    exact hgs o
  subst hmap
  unfold State.applyGates
  dsimp only
  rw [releaseQueues_eq hqs, hgates]
  rfl

end Sys2Proof.Machine

/-! PROOF. The stages of a frame start after the ends of cues: cues evaluated, presences stepped, queues promoted and judged, loops
by their states (R29, R51, R52, R106, R152). -/

namespace Sys2Proof.Machine

/-! ## Layers, cues and queues -/

/-- A frame start's work on cues, layers and queues once cues have ended (R88). -/
def worked (u : State) (tf : Time) : State := ((u.evaluate tf).stepPresences.promote tf).judgeStale

theorem beforeLoops_eq (s : State) (tf : Time) :
    beforeLoops s tf = worked (((s.raiseFrame tf).applyGates.dueStarts tf).cueEnds tf) tf := rfl

theorem worked_cue (u : State) (tf : Time) (k : CueNo) : (worked u tf).ce.cues[k] = u.ce.cues[k].map (u.evaluated tf) :=
  mapAt_get u.ce.cues (fun _ c => c.map (u.evaluated tf)) k

theorem evaluated_idle {cue : Cue} (u : State) (tf : Time) (h : ∀ start latest, cue.run ≠ .running start latest) :
    u.evaluated tf cue = cue := by
  unfold State.evaluated
  split
  · rename_i start latest hrun; exact absurd hrun (h start latest)
  · rfl

theorem evaluated_running {cue : Cue} {start : Time} {latest : List Triple} (u : State) (tf : Time)
    (h : cue.run = .running start latest) : u.evaluated tf cue = { cue with
      run := .running (rebased tf start cue)
        (cue.tracks.map (u.trackNow cue (elapsed tf (rebased tf start cue) % cue.duration))) } := by
  unfold State.evaluated
  rw [h]

/-- A layer after its presence step (R29). -/
def steppedLayer (period : Nat) (flags : BitVec 32) (l : Layer) : Layer :=
  if l.state = .free then l
  else { l with presence := stepPresence period (wantsFull flags l) l.ed.fadeIn l.ed.fadeOut l.presence }

theorem worked_layer (u : State) (tf : Time) (i : LayerNo) :
    (worked u tf).lt.layers[i] = steppedLayer u.sc.period u.tu.flags u.lt.layers[i] :=
  mapAt_get u.lt.layers (fun _ l => steppedLayer u.sc.period u.tu.flags l) i

theorem worked_queue (u : State) (tf : Time) (q : QueueNo) : (worked u tf).ss.queues[q] =
    { promoteQueue tf u.ss.queues[q] with
      stale := isStale (worked u tf).lt.layers u.sc.local' (promoteQueue tf u.ss.queues[q]) } := by
  have hjudged := mapAt_get (mapAt u.ss.queues fun _ q => promoteQueue tf q)
    (fun _ q => { q with stale := isStale (worked u tf).lt.layers u.sc.local' q }) q
  rw [mapAt_get u.ss.queues] at hjudged
  exact hjudged

/-- A queue promoted: a bound one takes its latest due frame and drops the due ones (R51). -/
theorem promoteQueue_eq (tf : Time) (q : StreamQueue) : promoteQueue tf q = { q with
    current := if q.bound = none then q.current
      else (q.pending.filter fun f => decide ((f.show' - tf).toInt ≤ 0)).getLast?.or q.current
    pending := if q.bound = none then q.pending else q.pending.filter fun f => decide (0 < (f.show' - tf).toInt) } := by
  have hdue : streamDue tf = fun f => decide ((f.show' - tf).toInt ≤ 0) := by
    funext f
    simp only [streamDue, timeLater, timeDiff, gt_iff_lt, ← decide_not, Int.not_lt]
  have hwaits : (fun g => !streamDue tf g) = fun f => decide (0 < (f.show' - tf).toInt) := by
    funext f
    simp only [streamDue, timeLater, timeDiff, gt_iff_lt, Bool.not_not]
  unfold promoteQueue
  rw [hwaits, hdue]
  cases hb : q.bound with
  | none => simp only [if_true]; rw [← hb]
  | some i =>
    simp only [reduceCtorEq, if_false]
    cases hlast : (q.pending.filter fun f => decide ((f.show' - tf).toInt ≤ 0)).getLast? with
    | some f => simp only [Option.some_or]
    | none =>
      have hempty := List.getLast?_eq_none_iff.mp hlast
      have hall : q.pending.filter (fun f => decide (0 < (f.show' - tf).toInt)) = q.pending := by
        refine List.filter_eq_self.mpr fun f hf => ?_
        have := List.filter_eq_nil_iff.mp hempty f hf
        simpa using this
      simp only [Option.none_or, hall]
      rw [← hb]

/-- A bound queue is stale without a current frame, or past the maximum age of its layer's source (R52). -/
theorem isStale_iff {layers : Vector Layer 16} {now : Time} {q : StreamQueue} : isStale layers now q = true ↔
    ∃ i, q.bound = some i ∧ (q.current = none ∨ ∃ last k age, q.last = some last ∧
      layers[i].ed.source = .stream k age ∧ age * 1000 < (now - last).toNat) := by
  unfold isStale governingAge
  cases hb : q.bound with
  | none => simp
  | some i =>
    simp only [Option.isSome_some, Bool.true_and, Bool.or_eq_true, Option.isNone_iff_eq_none, Option.some.injEq,
      exists_eq_left']
    refine or_congr_right ?_
    cases q.last with
    | none => simp
    | some last =>
      cases hsrc : layers[i].ed.source with
      | stream k age => simp [localSince]
      | solid | pattern => simp

/-! ## Loops -/

/-- A loop at a frame start, by its state (R152). -/
def framedLoop (now : Time) (x : Loop) : Loop :=
  match x.state with
  | .running => x.shown
  | .discovering => x.counting now
  | .failed =>
    if x.holdoffOver = true then ({ x with state := .discovering, holdCount := 0 } : Loop).counting now
    else { x with holdCount := x.holdCount - 1, claimed := false }
  | .quiet => { x with claimed := false }
  | .off => { x with claimed := false }

/-- The loop's holdoff ends at this frame start (R152). -/
def lapsed (x : Loop) : Bool := x.state == .failed && decide (x.holdCount ≤ 1)

/-- What a loop tells at a frame start (R152, R166). -/
def lapsedTold (x : Loop) (l : LoopNo) (u : State) : State :=
  if lapsed x = true then u.notifyAll (.chainState l .holdoffEnd .discovering .failed x.nodes x.nodes) else u

theorem endHoldoff_frame (u : State) (l : LoopNo) : u.endHoldoff l =
    { u with mp := (u.endHoldoff l).mp
             lc := { loops := setAt u.lc.loops l
                       (({ u.lc.loops[l] with state := .discovering, holdCount := 0 } : Loop).counting u.sc.local')
                     health := unqueried (· == l) u.lc.health } } := by
  unfold State.endHoldoff
  rw [changeLoop_frame]
  rfl

theorem loopAtFrame_frame (u : State) (l : LoopNo) : u.loopAtFrame l =
    { u with mp := (u.loopAtFrame l).mp
             lc := { loops := setAt u.lc.loops l (framedLoop u.sc.local' u.lc.loops[l])
                     health := if lapsed u.lc.loops[l] = true then unqueried (· == l) u.lc.health else u.lc.health } } := by
  have hend := endHoldoff_frame u l
  unfold State.loopAtFrame framedLoop lapsed
  dsimp only
  cases hx : u.lc.loops[l].state with
  | failed =>
    dsimp only
    by_cases hover : u.lc.loops[l].holdCount ≤ 1
    · have hover' : u.lc.loops[l].holdoffOver = true := decide_eq_true hover
      simp only [hover', decide_eq_true hover, if_true]
      exact hend
    · have hover' : u.lc.loops[l].holdoffOver = false := decide_eq_false hover
      simp only [hover', decide_eq_false hover]
      rfl
  | running | discovering | quiet | off => rfl

theorem endHoldoff_mp {s u v : State} {l : LoopNo} (hl : u.lc.loops[l] = s.lc.loops[l]) (hf : s.lc.loops[l].state = .failed)
    (h : u.mp = v.mp) : (u.endHoldoff l).mp =
      (v.notifyAll (.chainState l .holdoffEnd .discovering .failed s.lc.loops[l].nodes s.lc.loops[l].nodes)).mp := by
  unfold State.endHoldoff
  dsimp only
  rw [changeLoop_mp (u := u.clearQueried l) (v := v) hl h, hl, hf]
  rfl

theorem loopAtFrame_mp {s u v : State} {l : LoopNo} (hl : u.lc.loops[l] = s.lc.loops[l]) (h : u.mp = v.mp) :
    (u.loopAtFrame l).mp = (lapsedTold s.lc.loops[l] l v).mp := by
  have hend := fun hf => endHoldoff_mp hl hf h
  unfold State.loopAtFrame lapsedTold lapsed
  rw [hl]
  generalize s.lc.loops[l] = x at *
  dsimp only
  cases hx : x.state with
  | failed =>
    dsimp only
    by_cases hover : x.holdCount ≤ 1
    · have hover' : x.holdoffOver = true := decide_eq_true hover
      rw [if_pos hover', decide_eq_true hover]
      exact hend hx
    · have hover' : ¬x.holdoffOver = true := by rwa [Loop.holdoffOver, decide_eq_true_eq]
      rw [if_neg hover', decide_eq_false hover]
      exact h
  | running | discovering | quiet | off => exact h

/-- A loop's record beside the health records of its lamps. -/
def loopView (u : State) : Vector (Loop × (Fin 64 → Health)) 6 :=
  tabulate fun l => (u.lc.loops[l], fun k => u.lc.health[lampAt l k])

theorem loopView_get (u : State) (l : LoopNo) :
    (loopView u)[l] = (u.lc.loops[l], fun k => u.lc.health[lampAt l k]) := tabulate_get ..

/-- A loop and its lamps at a frame start (R152, R163). -/
def framedView (now : Time) (y : Loop × (Fin 64 → Health)) : Loop × (Fin 64 → Health) :=
  (framedLoop now y.1, fun k => if lapsed y.1 = true then { y.2 k with queried := false } else y.2 k)

theorem lampLoop_lampAt (l : LoopNo) (k : Fin 64) : lampLoop (lampAt l k) = l := by
  apply Fin.ext
  simp only [lampLoop, lampAt]
  omega

theorem lampAt_lampLoop (lam : LampNo) : lampAt (lampLoop lam) ⟨lam.val % 64, by omega⟩ = lam := by
  apply Fin.ext
  simp only [lampLoop, lampAt]
  omega

theorem unqueried_get (p : LoopNo → Bool) (health : Vector Health 384) (l : LoopNo) (k : Fin 64) :
    (unqueried p health)[lampAt l k] =
      if p l = true then { health[lampAt l k] with queried := false } else health[lampAt l k] := by
  rw [unqueried, mapAt_get, lampLoop_lampAt]

theorem loopAtFrame_view (u : State) (l j : LoopNo) : (loopView (u.loopAtFrame l))[j] =
    if j = l then framedView u.sc.local' (loopView u)[l] else (loopView u)[j] := by
  have hloops : (u.loopAtFrame l).lc.loops = setAt u.lc.loops l (framedLoop u.sc.local' u.lc.loops[l]) := by
    rw [loopAtFrame_frame]
  have hhealth : (u.loopAtFrame l).lc.health =
      if lapsed u.lc.loops[l] = true then unqueried (· == l) u.lc.health else u.lc.health := by
    rw [loopAtFrame_frame]
  simp only [loopView_get, framedView, hloops, hhealth, setAt_get]
  by_cases hj : j = l
  · subst hj
    simp only [if_true]
    refine congrArg (Prod.mk _) (funext fun k => ?_)
    split
    · rw [unqueried_get, if_pos (beq_iff_eq.mpr rfl)]
    · rfl
  · simp only [if_neg hj]
    refine congrArg (Prod.mk _) (funext fun k => ?_)
    split
    · rw [unqueried_get, if_neg (by rwa [beq_iff_eq])]
    · rfl

theorem loopsAtFrame_frame (u : State) : u.loopsAtFrame = { u with mp := u.loopsAtFrame.mp, lc := u.loopsAtFrame.lc } := by
  unfold State.loopsAtFrame
  refine foldl_related (R := fun s t => t = { s with mp := t.mp, lc := t.lc })
    (fun _ => rfl) (fun {s t u} h g => ?_) (fun u l => ?_) _ _
  · rw [g, h]
  · rw [loopAtFrame_frame]

theorem loopsAtFrame_view (u : State) (l : LoopNo) : (loopView u.loopsAtFrame)[l] = framedView u.sc.local' (loopView u)[l] := by
  unfold State.loopsAtFrame
  exact foldl_all_records (n := 6) (f := State.loopAtFrame) loopView (fun u => u.sc.local') (fun now _ y => framedView now y)
    (fun u l => by rw [loopAtFrame_frame]) loopAtFrame_view u l

theorem loopsAtFrame_loop (u : State) (l : LoopNo) : u.loopsAtFrame.lc.loops[l] = framedLoop u.sc.local' u.lc.loops[l] := by
  have h := congrArg Prod.fst (loopsAtFrame_view u l)
  simp only [loopView_get, framedView] at h
  exact h

theorem loopsAtFrame_health (u : State) (lam : LampNo) : u.loopsAtFrame.lc.health[lam] =
    if lapsed u.lc.loops[lampLoop lam] = true then { u.lc.health[lam] with queried := false } else u.lc.health[lam] := by
  have h := congrFun (congrArg Prod.snd (loopsAtFrame_view u (lampLoop lam))) ⟨lam.val % 64, by omega⟩
  simp only [loopView_get, framedView, lampAt_lampLoop] at h
  exact h

theorem loopsAtFrame_mp {u v w : State} (hlc : u.lc = w.lc) (h : u.mp = v.mp) : u.loopsAtFrame.mp =
    ((List.finRange 6).foldl (fun u l => lapsedTold w.lc.loops[l] l u) v).mp := by
  unfold State.loopsAtFrame
  refine foldl_told (n := 6) loopView (fun _ => ()) (start := w) (f := State.loopAtFrame)
    (tell := fun u l => lapsedTold w.lc.loops[l] l u) (fun _ _ => rfl)
    (fun u i j hj => (loopAtFrame_view u i j).trans (if_neg hj)) (fun u v i _ hi h => ?_) _ (List.nodup_finRange 6) _ v rfl
    (fun l _ => ?_) h
  · have hloop := congrArg Prod.fst hi
    simp only [loopView_get] at hloop
    exact loopAtFrame_mp hloop h
  · rw [loopView_get, loopView_get, hlc]

section
variable {x : Loop} (now : Time)

theorem framedLoop_running (h : x.state = .running) : framedLoop now x =
    { x with claimed := true, showPending := false, out := if x.showPending = true then [.show'] else x.out } := by
  have hshown : framedLoop now x = x.shown := by rw [framedLoop, h]
  rw [hshown, Loop.shown]
  split
  · rfl
  · rename_i hs
    rw [Bool.eq_false_iff.mpr hs]

theorem framedLoop_discovering (h : x.state = .discovering) : framedLoop now x =
    { x with claimed := false, await := some ⟨.count, now, none⟩, out := [.count] } := by
  have hcounting : framedLoop now x = x.counting now := by rw [framedLoop, h]
  exact hcounting

theorem framedLoop_failed (h : x.state = .failed) : framedLoop now x =
    if x.holdoffOver = true then ({ x with state := .discovering, holdCount := 0 } : Loop).counting now
    else { x with holdCount := x.holdCount - 1, claimed := false } := by
  cases x
  cases h
  rfl

theorem framedLoop_waiting (h : x.state = .failed) (hc : 2 ≤ x.holdCount) :
    framedLoop now x = { x with holdCount := x.holdCount - 1, claimed := false } := by
  rw [framedLoop_failed now h]
  exact if_neg (by rw [Loop.holdoffOver, decide_eq_true_eq]; omega)

theorem framedLoop_lapsed (h : x.state = .failed) (hc : x.holdCount ≤ 1) : framedLoop now x =
    { x with state := .discovering, holdCount := 0, claimed := false, await := some ⟨.count, now, none⟩, out := [.count] } := by
  rw [framedLoop_failed now h]
  exact if_pos (decide_eq_true hc)

theorem framedLoop_idle (h : x.state = .quiet ∨ x.state = .off) : framedLoop now x = { x with claimed := false } := by
  cases x
  rcases h with ⟨⟨⟩⟩ | ⟨⟨⟩⟩ <;> rfl

end

end Sys2Proof.Machine

/-! PROOF. The frame start whole (R87, R88): its stages in order, the compose it begins (R19, R54, R56), and O58. -/

namespace Sys2Proof.Machine

/-! ## Due starts -/

theorem dueStarts_eq (u : State) (tf : Time) : u.dueStarts tf =
    (u.ce.queue.filter fun e => decide ((e.start - tf).toInt ≤ 0)).foldl (fun v e => v.resolve tf e)
      (u.setStartQueue (u.ce.queue.filter fun e => decide (0 < (e.start - tf).toInt))) := by
  have hdue : startDue tf = fun e => decide ((e.start - tf).toInt ≤ 0) := by
    funext e
    simp only [startDue, timeLater, timeDiff, gt_iff_lt, ← decide_not, Int.not_lt]
  have hwaits : (fun e => !startDue tf e) = fun e => decide (0 < (e.start - tf).toInt) := by
    funext e
    simp only [startDue, timeLater, timeDiff, gt_iff_lt, Bool.not_not]
  rw [State.dueStarts, hwaits, hdue]

/-! ## The compose begun -/

section
variable (v : State) (tf : Time) (i : LayerNo)

theorem composeInputs_layer : (v.composeInputs tf).layers[i] = v.composeLayer tf i := tabulate_get ..

theorem composeLayer_ed_own (h : ∀ k cue, ¬RunsOn v.ce.cues i k cue) :
    (v.composeLayer tf i).ed = v.lt.layers[i].ed := by
  change v.frameFields tf i = _
  rw [State.frameFields, cueOn_eq_none.mpr h]

theorem composeLayer_ed_cue {k : CueNo} {cue : Cue} (h : RunsOn v.ce.cues i k cue) :
    (v.composeLayer tf i).ed = cueFields tf v.freeCount cue v.lt.layers[i].ed := by
  change v.frameFields tf i = _
  rw [State.frameFields, cueOn_of_runsOn h]

theorem sourceVoid_iff (l : Layer) : v.sourceVoid l = true ↔
    (∃ n, l.ed.source = .pattern n ∧ l.detached = true) ∨
    ∃ k age, l.ed.source = .stream k age ∧ v.ss.queues[k].stale = true := by
  unfold State.sourceVoid
  cases l.ed.source with
  | solid c => simp
  | pattern n => simp
  | stream q age => simp

theorem cueBroken_iff (cue : Cue) : v.cueBroken cue = true ↔
    ∃ start latest, cue.run = .running start latest ∧
      ∃ tr ∈ cue.tracks, trackBroken (v.originRec cue.owner) v.ce.pool cue.duration tr = true := by
  unfold State.cueBroken
  cases cue.run with
  | running start latest => simp
  | ready | scheduled | releasing => simp

/-- A layer is void by its source, or by a broken track of the cue that runs on it (R54, R109). -/
theorem composeLayer_isVoid : (v.composeLayer tf i).isVoid = true ↔
    (∃ n, v.lt.layers[i].ed.source = .pattern n ∧ v.lt.layers[i].detached = true) ∨
    (∃ k age, v.lt.layers[i].ed.source = .stream k age ∧ v.ss.queues[k].stale = true) ∨
    ∃ k cue start latest, RunsOn v.ce.cues i k cue ∧ cue.run = .running start latest ∧
      ∃ tr ∈ cue.tracks, trackBroken (v.originRec cue.owner) v.ce.pool cue.duration tr = true := by
  have hcue : (v.cueOn i).any v.cueBroken = true ↔
      ∃ k cue start latest, RunsOn v.ce.cues i k cue ∧ cue.run = .running start latest ∧
        ∃ tr ∈ cue.tracks, trackBroken (v.originRec cue.owner) v.ce.pool cue.duration tr = true := by
    rw [Option.any_eq_true]
    constructor
    · rintro ⟨cue, hon, hbroken⟩
      obtain ⟨k, hrun⟩ := cueOn_eq_some.mp hon
      obtain ⟨start, latest, hcue, htr⟩ := (cueBroken_iff v cue).mp hbroken
      exact ⟨k, cue, start, latest, hrun, hcue, htr⟩
    · rintro ⟨k, cue, start, latest, hrun, hcue, htr⟩
      exact ⟨cue, cueOn_of_runsOn hrun, (cueBroken_iff v cue).mpr ⟨start, latest, hcue, htr⟩⟩
  rw [← hcue, ← or_assoc, ← sourceVoid_iff, ← Bool.or_eq_true]
  rfl

theorem composeLayer_frame_none (h : ∀ k age, v.lt.layers[i].ed.source ≠ .stream k age) :
    (v.composeLayer tf i).frame = none := by
  unfold State.composeLayer
  dsimp only
  split
  · rename_i k age hs; exact absurd hs (h k age)
  · rfl

theorem composeLayer_frame_stream {k : QueueNo} {age : Nat} (h : v.lt.layers[i].ed.source = .stream k age) :
    (v.composeLayer tf i).frame = v.ss.queues[k].current := by
  unfold State.composeLayer
  dsimp only
  rw [h]

end

theorem refHolds_iff {flags : BitVec 32} {r : FlagRef} :
    refHolds flags r = true ↔ flagValue flags r.flag = (r.sense == .set) := by
  unfold refHolds
  cases r.sense <;> cases flagValue flags r.flag <;> decide

theorem qualHolds_iff {flags : BitVec 32} {q : Option FlagRef} :
    qualHolds flags q = true ↔ ∀ r, q = some r → flagValue flags r.flag = (r.sense == .set) := by
  cases q with
  | none => exact iff_of_true rfl nofun
  | some r => simp only [qualHolds, refHolds_iff, Option.some.injEq, forall_eq']

theorem glareHolds_iff {flags : BitVec 32} {g : Glare} : glareHolds flags g = true ↔
    (g.refA ≠ none ∨ g.refB ≠ none) ∧ (∀ r, g.refA = some r → flagValue flags r.flag = (r.sense == .set)) ∧
      ∀ r, g.refB = some r → flagValue flags r.flag = (r.sense == .set) := by
  rw [glareHolds, Bool.and_eq_true, Bool.and_eq_true, Bool.or_eq_true, qualHolds_iff, qualHolds_iff, and_assoc,
    Option.ne_none_iff_isSome, Option.ne_none_iff_isSome]

/-! ## The frame start from the ends of cues on -/

theorem framedLoop_nodes (now : Time) (x : Loop) : (framedLoop now x).nodes = x.nodes := by
  unfold framedLoop Loop.shown
  split
  · split <;> rfl
  · rfl
  · split <;> rfl
  · rfl
  · rfl

/-- The state on which a frame start begins its compose, from that after the ends of cues. -/
@[irreducible] def framed (u : State) (tf : Time) : State := (worked u tf).loopsAtFrame

section
variable (u : State) (tf : Time)

theorem framed_frame : framed u tf =
    { u with mp := (framed u tf).mp
             ce := { u.ce with cues := (framed u tf).ce.cues }
             lt := { u.lt with layers := (framed u tf).lt.layers }
             ss := { u.ss with queues := (framed u tf).ss.queues }
             lc := (framed u tf).lc
             freeCount := u.freeCount + 1 } := by
  unfold framed
  rw [loopsAtFrame_frame]
  rfl

theorem framed_cues : (framed u tf).ce.cues = (worked u tf).ce.cues := by
  unfold framed
  rw [loopsAtFrame_frame]

theorem framed_layers : (framed u tf).lt.layers = (worked u tf).lt.layers := by
  unfold framed
  rw [loopsAtFrame_frame]

theorem framed_queues : (framed u tf).ss.queues = (worked u tf).ss.queues := by
  unfold framed
  rw [loopsAtFrame_frame]

theorem framed_cue (k : CueNo) : (framed u tf).ce.cues[k] = u.ce.cues[k].map (u.evaluated tf) := by
  simp only [framed_cues]
  exact worked_cue u tf k

theorem framed_layer (i : LayerNo) :
    (framed u tf).lt.layers[i] = steppedLayer u.sc.period u.tu.flags u.lt.layers[i] := by
  simp only [framed_layers]
  exact worked_layer u tf i

theorem framed_queue (q : QueueNo) : (framed u tf).ss.queues[q] =
    { promoteQueue tf u.ss.queues[q] with
      stale := isStale (framed u tf).lt.layers u.sc.local' (promoteQueue tf u.ss.queues[q]) } := by
  simp only [framed_queues, framed_layers]
  exact worked_queue u tf q

theorem framed_loop (l : LoopNo) : (framed u tf).lc.loops[l] = framedLoop u.sc.local' u.lc.loops[l] := by
  unfold framed
  exact loopsAtFrame_loop (worked u tf) l

theorem framed_health (lam : LampNo) : (framed u tf).lc.health[lam] =
    if lapsed u.lc.loops[lampLoop lam] = true then { u.lc.health[lam] with queried := false } else u.lc.health[lam] := by
  unfold framed
  exact loopsAtFrame_health (worked u tf) lam

theorem framed_mp : (framed u tf).mp =
    ((List.finRange 6).foldl (fun v l => lapsedTold u.lc.loops[l] l v) u).mp := by
  unfold framed
  exact loopsAtFrame_mp (u := worked u tf) (w := u) rfl rfl

end

theorem frameStart_framed (s : State) (tf : Time) : s.frameStart tf =
    (framed (((s.raiseFrame tf).applyGates.dueStarts tf).cueEnds tf) tf).beginCompose tf := by
  rw [frameStart_eq, beforeCompose, beforeLoops_eq]
  unfold framed
  rfl

/-- A frame start changes no part between its cue ends and its compose but these, and begins the compose (R56). -/
theorem beginCompose_framed (u : State) (tf : Time) : (framed u tf).beginCompose tf =
    { u with mp := (framed u tf).mp
             ce := { u.ce with cues := (framed u tf).ce.cues }
             lt := { u.lt with layers := (framed u tf).lt.layers }
             ss := { u.ss with queues := (framed u tf).ss.queues }
             co := { u.co with inFlight := some ((framed u tf).composeInputs tf) }
             lc := (framed u tf).lc
             freeCount := u.freeCount + 1 } := by
  have h := framed_frame u tf
  unfold State.beginCompose
  generalize (framed u tf).composeInputs tf = c
  generalize framed u tf = v at h ⊢
  rw [h]

theorem framed_stale (u : State) (tf : Time) (q : QueueNo) : (framed u tf).ss.queues[q].stale = true ↔
    ∃ i, u.ss.queues[q].bound = some i ∧ ((framed u tf).ss.queues[q].current = none ∨
      ∃ last k age, u.ss.queues[q].last = some last ∧ (framed u tf).lt.layers[i].ed.source = .stream k age ∧
        age * 1000 < (u.sc.local' - last).toNat) := by
  have hlast : (promoteQueue tf u.ss.queues[q]).last = u.ss.queues[q].last := by rw [promoteQueue_eq]
  rw [framed_queue]
  dsimp only
  rw [isStale_iff, promoteQueue_bound, hlast]

/-- The inputs of a compose are the tables as they stand when it begins (R19, R54, R56). -/
theorem composeInputs_spec {s v : State} (tf : Time) (hps : v.ps = s.ps) (hlocal : v.sc.local' = s.sc.local')
    (hot : v.ot = s.ot) (htu : v.tu = s.tu) (hco : v.co = s.co) (hpattern : v.ss.pattern = s.ss.pattern)
    (hslots : v.ss.slots = s.ss.slots) (hnodes : ∀ l : LoopNo, v.lc.loops[l].nodes = s.lc.loops[l].nodes)
    (hpool : v.ce.pool = s.ce.pool) (hfree : v.freeCount = s.freeCount + 1) :
    let c := v.composeInputs tf
    c.frameTime = tf ∧ c.began = s.sc.local' ∧ (c.inSetup = true ↔ s.ps.state = .setup) ∧ c.zones = s.co.zones ∧
    (∀ z : ZoneNo, c.holders[z] = s.ot.holds[z].map (·.holder)) ∧ c.pattern = s.ss.pattern ∧ c.slots = s.ss.slots ∧
    (c.glareOn = true ↔ (s.co.glare.refA ≠ none ∨ s.co.glare.refB ≠ none) ∧
      (∀ r, s.co.glare.refA = some r → flagValue s.tu.flags r.flag = (r.sense == .set)) ∧
        ∀ r, s.co.glare.refB = some r → flagValue s.tu.flags r.flag = (r.sense == .set)) ∧
    c.glareCap = s.co.glare.cap ∧ c.bins = s.co.bins ∧ c.lampBin = s.co.lampBin ∧ c.chains = s.co.chains ∧
    (∀ l : LoopNo, c.nodes[l] = s.lc.loops[l].nodes) ∧ c.health = v.lc.health ∧ c.gone = 0 ∧
    ∀ i : LayerNo, let l := v.lt.layers[i]
      c.layers[i].owner = l.owner ∧ c.layers[i].tier = l.tier ∧ c.layers[i].presence = l.presence ∧
      ((∀ k cue, ¬RunsOn v.ce.cues i k cue) → c.layers[i].ed = l.ed) ∧
      (∀ k cue, RunsOn v.ce.cues i k cue → c.layers[i].ed = cueFields tf (s.freeCount + 1) cue l.ed) ∧
      (c.layers[i].isVoid = true ↔
        (∃ n, l.ed.source = .pattern n ∧ l.detached = true) ∨
        (∃ k age, l.ed.source = .stream k age ∧ v.ss.queues[k].stale = true) ∨
        ∃ k cue start latest, RunsOn v.ce.cues i k cue ∧ cue.run = .running start latest ∧
          ∃ tr ∈ cue.tracks, trackBroken (s.originRec cue.owner) s.ce.pool cue.duration tr = true) ∧
      ((∀ k age, l.ed.source ≠ .stream k age) → c.layers[i].frame = none) ∧
      ∀ k age, l.ed.source = .stream k age → c.layers[i].frame = v.ss.queues[k].current := by
  have hvoid := fun i => composeLayer_isVoid v tf i
  simp only [State.originRec, hot, hpool] at hvoid
  have hsetup : v.inSetup = true ↔ s.ps.state = .setup := by rw [inSetup_iff, hps]
  have hglare := glareHolds_iff (flags := v.tu.flags) (g := v.co.glare)
  have hnodes' : ∀ l : LoopNo, (v.composeInputs tf).nodes[l] = s.lc.loops[l].nodes := fun l =>
    (tabulate_get ..).trans (hnodes l)
  have hholders : ∀ z : ZoneNo, (v.composeInputs tf).holders[z] = v.ot.holds[z].map (·.holder) := fun z => tabulate_get ..
  rw [hco, htu] at hglare
  rw [hot] at hholders
  rw [← hco] at *
  rw [← htu] at *
  refine ⟨rfl, hlocal, hsetup, rfl, hholders, hpattern, hslots, hglare, rfl, rfl, rfl, rfl, hnodes', rfl, rfl, fun i => ?_⟩
  dsimp only
  rw [composeInputs_layer, ← hfree]
  exact ⟨rfl, rfl, rfl, composeLayer_ed_own v tf i, fun k cue => composeLayer_ed_cue v tf i, hvoid i,
    composeLayer_frame_none v tf i, fun k age => composeLayer_frame_stream v tf i⟩

/-- A cue after its evaluation (R106, R107). -/
theorem framed_cues_spec (u : State) (tf : Time) (k : CueNo) :
    (u.ce.cues[k] = none → (framed u tf).ce.cues[k] = none) ∧
    ∀ cue, u.ce.cues[k] = some cue →
      ((∀ start latest, cue.run ≠ .running start latest) → (framed u tf).ce.cues[k] = some cue) ∧
      ∀ start latest, cue.run = .running start latest →
        let start' := rebased tf start cue
        let values := cue.tracks.map (u.trackNow cue (elapsed tf start' % cue.duration))
        (framed u tf).ce.cues[k] = some { cue with run := .running start' values } := by
  rw [framed_cue]
  refine ⟨fun h => by rw [h]; rfl, fun cue h => ⟨fun hrun => ?_, fun start latest hrun => ?_⟩⟩
  · rw [h, Option.map_some, evaluated_idle u tf hrun]
  · rw [h, Option.map_some, evaluated_running u tf hrun]

/-- A queue after its promotion and its judgement (R51, R52). -/
theorem framed_queue_spec (u : State) (tf : Time) (q : QueueNo) : (framed u tf).ss.queues[q] = { u.ss.queues[q] with
    current := if u.ss.queues[q].bound = none then u.ss.queues[q].current
      else (u.ss.queues[q].pending.filter fun f => decide ((f.show' - tf).toInt ≤ 0)).getLast?.or u.ss.queues[q].current
    pending := if u.ss.queues[q].bound = none then u.ss.queues[q].pending
      else u.ss.queues[q].pending.filter fun f => decide (0 < (f.show' - tf).toInt)
    stale := (framed u tf).ss.queues[q].stale } := by
  rw [framed_queue, promoteQueue_eq]

/-- A loop after a frame start, by its state (R152). -/
theorem framedLoop_spec (now : Time) (x : Loop) :
    (x.state = .running → framedLoop now x =
      { x with claimed := true, showPending := false, out := if x.showPending = true then [.show'] else x.out }) ∧
    (x.state = .discovering → framedLoop now x =
      { x with claimed := false, await := some ⟨.count, now, none⟩, out := [.count] }) ∧
    (x.state = .failed → 2 ≤ x.holdCount → framedLoop now x = { x with holdCount := x.holdCount - 1, claimed := false }) ∧
    (x.state = .failed → x.holdCount ≤ 1 → framedLoop now x =
      { x with state := .discovering, holdCount := 0, claimed := false, await := some ⟨.count, now, none⟩, out := [.count] }) ∧
    (x.state = .quiet ∨ x.state = .off → framedLoop now x = { x with claimed := false }) :=
  ⟨framedLoop_running now, framedLoop_discovering now, framedLoop_waiting now, framedLoop_lapsed now, framedLoop_idle now⟩

end Sys2Proof.Machine

/-! PROOF. Frame starts do their work, step by step: O58. -/

namespace Sys2Proof.Machine

/-! ## Ends by the run of a cue -/

section
variable {s : State} {c : CueNo} {cue : Cue} (h : s.ce.cues[c] = some cue) (tf : Time)
include h

theorem endIfDue_idle (hrun : cue.run = .ready ∨ cue.run = .scheduled) : s.endIfDue tf c = s := by
  rw [endIfDue_some h]
  rcases hrun with hrun | hrun <;> simp only [releaseOver, endsAt, hrun, Bool.false_eq_true, if_false]

theorem endIfDue_releasing {start rel : Time} {frozen : List Triple} (hrun : cue.run = .releasing start rel frozen) :
    s.endIfDue tf c = if (cue.release : Int) ≤ (tf - rel).toInt / 1000 then s.endCue c cue .stopped else s := by
  rw [endIfDue_some h]
  simp only [releaseOver, endsAt, hrun, decide_eq_true_eq, Bool.false_eq_true, if_false]
  rfl

theorem endIfDue_running {start : Time} {latest : List Triple} (hrun : cue.run = .running start latest) :
    s.endIfDue tf c = if cue.loops ≠ 0 ∧ cue.loops ≤ elapsed tf start / cue.duration then s.naturalEnd c cue else s := by
  rw [endIfDue_some h]
  simp only [releaseOver, endsAt, hrun, loopsDone, Bool.and_eq_true, bne_iff_ne, decide_eq_true_eq, Bool.false_eq_true,
    if_false, ge_iff_le]

end

/-- Settles O58: when a frame start is due, its stages in order with the compose it begins, one due start, one end, and the end
of one holdoff. -/
theorem frameStartsDoTheirWork : Obligations.FrameStartsDoTheirWork := by
  refine ⟨fun s hr => ⟨fun tf => exec_frameStart_due hr, exec_frameStart_waits⟩, ?_, fun s tf e => ⟨fun h => resolve_none h tf,
    fun cue h => ⟨fun hl => resolve_gone h hl tf, fun hf ho v hnone hone => resolve_spec h hf ho hnone hone⟩⟩,
    fun s tf c => ⟨fun h => endIfDue_none h tf, fun cue h => ⟨endIfDue_idle h tf, fun start rel frozen hrun =>
      ⟨fun he => ?_, fun he => ?_⟩, fun start latest hrun => ⟨fun he => ?_, fun hloops he => ?_⟩⟩⟩,
    fun l s hr => ⟨exec_holdoffEnd_waits, fun tf h hf hc => ?_⟩⟩
  · intro s tf ls gs qs hls hgs hqs clock due waits opened started ended lapsed' told t
    have hA := applyGates_eq (s := s.raiseFrame tf) hls hgs hqs
    have hstarted : (s.raiseFrame tf).applyGates.dueStarts tf = started := by rw [dueStarts_eq, hA]; rfl
    have hended : ((s.raiseFrame tf).applyGates.dueStarts tf).cueEnds tf = ended := by rw [hstarted]; rfl
    have hframe : CueFrame opened ended :=
      (foldl_related CueFrame.refl CueFrame.trans (fun u e => .resolve u tf e) _ opened).trans
        (foldl_related CueFrame.refl CueFrame.trans (fun u c => .endIfDue u tf c) _ started)
    have ht : t = (framed ended tf).beginCompose tf := by rw [← hended]; exact frameStart_framed s tf
    have hlc : ended.lc = s.lc := by rw [hframe]
    have htold : (framed ended tf).mp = told.mp := by rw [framed_mp, hlc]; rfl
    clear_value told ended
    have hsc : ended.sc = clock := by rw [hframe]
    have hps : ended.ps = s.ps := by rw [hframe]
    have hot : ended.ot = s.ot := by rw [hframe]
    have htu : ended.tu = s.tu := by rw [hframe]
    have hco : ended.co = s.co := by rw [hframe]
    have hss : ended.ss = { s.ss with queues := qs } := by rw [hframe]
    have hpool : ended.ce.pool = s.ce.pool := by rw [hframe]
    have hfree : ended.freeCount = s.freeCount := by rw [hframe]
    clear_value t
    subst ht
    have hF := framed_frame ended tf
    have hnodes : ∀ l : LoopNo, (framed ended tf).lc.loops[l].nodes = s.lc.loops[l].nodes := fun l => by
      rw [framed_loop, framedLoop_nodes, hlc]
    have hinputs := composeInputs_spec (s := s) (v := framed ended tf) tf (by rw [hF, hps]) (by rw [hF, hsc])
      (by rw [hF, hot]) (by rw [hF, htu]) (by rw [hF, hco]) (by rw [hF, hss]) (by rw [hF, hss]) hnodes (by rw [hF, hpool])
      (by rw [hF, hfree])
    refine ⟨(framed ended tf).composeInputs tf, hframe, ?_, framed_cues_spec ended tf, fun i => ?_, fun q => ⟨?_, ?_⟩,
      fun l => ?_, fun lam => ?_, hinputs⟩
    · rw [← htold, ← hco, ← hfree]
      exact beginCompose_framed ended tf
    · have h := framed_layer ended tf i
      rw [hsc, htu] at h
      exact h
    · have h := framed_queue_spec ended tf q
      rw [hss] at h
      exact h
    · have h := framed_stale ended tf q
      rw [hss, hsc] at h
      exact h
    · have h := framedLoop_spec s.sc.local' s.lc.loops[l]
      have hloop : (framed ended tf).lc.loops[l] = framedLoop s.sc.local' s.lc.loops[l] := by rw [framed_loop, hsc, hlc]
      rw [← hloop] at h
      exact h
    · have h := framed_health ended tf lam
      rw [hlc] at h
      exact h
  · rw [endIfDue_releasing h tf hrun, if_neg (Int.not_le.mpr he)]
  · rw [endIfDue_releasing h tf hrun, if_pos he]; rfl
  · rw [endIfDue_running h tf hrun, if_neg fun hc => he.elim hc.1 (Nat.not_lt.mpr hc.2)]
  · rw [endIfDue_running h tf hrun, if_pos ⟨hloops, he⟩, State.naturalEnd, endedLayer_eq]; rfl
  · rw [exec_holdoffEnd_due hr h hf hc, endHoldoff_eq hf]

end Sys2Proof.Machine

/-! PROOF. Pattern memory and the keyframe pool along every step (R39, R91): WRITE_PATTERN and WRITE_KEYS alone write them,
the resets empty them, and every other operation leaves both buffers as they are. -/

namespace Sys2Proof.Machine

/-- The two states have the same pattern memory and the same keyframe pool. -/
@[reducible] def SameBuffers (s t : State) : Prop := t.ss.pattern = s.ss.pattern ∧ t.ce.pool = s.ce.pool

theorem SameBuffers.refl (s : State) : SameBuffers s s := ⟨rfl, rfl⟩

theorem SameBuffers.trans {s t u : State} (h : SameBuffers s t) (g : SameBuffers t u) : SameBuffers s u :=
  ⟨g.1.trans h.1, g.2.trans h.2⟩

/-- A fold of steps that each leave both buffers leaves both buffers. -/
theorem SameBuffers.foldl {α : Type} {f : State → α → State} (h : ∀ s a, SameBuffers s (f s a)) (l : List α) (s : State) :
    SameBuffers s (l.foldl f s) :=
  foldl_related SameBuffers.refl SameBuffers.trans h l s

/-- What touches ports, cue records and layers alone leaves both buffers. -/
theorem CueFrame.buffers {s t : State} (h : CueFrame s t) : SameBuffers s t := by
  unfold CueFrame at h
  rw [h]
  exact ⟨rfl, rfl⟩

section
variable (s : State)

/-! ## Replies, notices, ports -/

@[simp] theorem reply_buffers (tk : Taken) (c : Code) (clamped replaced : Bool) (result : List Byte) :
    SameBuffers s (s.reply tk c clamped replaced result) := ⟨rfl, rfl⟩
@[simp] theorem done_buffers (tk : Taken) (result : List Byte) : SameBuffers s (s.done tk result) := ⟨rfl, rfl⟩

@[simp] theorem notify_buffers (o : Origin) (n : Notice) : SameBuffers s (s.notify o n) := (CueFrame.notify s o n).buffers

@[simp] theorem notifyAll_buffers (n : Notice) : SameBuffers s (s.notifyAll n) := by
  rw [notifyAll_frame]
  exact ⟨rfl, rfl⟩

@[simp] theorem wakeEvent_buffers : SameBuffers s s.wakeEvent := by
  unfold State.wakeEvent
  split <;> exact ⟨rfl, rfl⟩

@[simp] theorem offer_buffers (o : Origin) (rq : Intake) : SameBuffers s (s.offer o rq) := by
  unfold State.offer
  dsimp only
  split <;> exact ⟨rfl, rfl⟩

@[simp] theorem setChan_buffers (ch : Chan) (c : Channel) : SameBuffers s (s.setChan ch c) := by
  cases ch <;> exact ⟨rfl, rfl⟩

@[simp] theorem receive_buffers (ch : Chan) (o : Origin) (data : List Byte) : SameBuffers s (s.receive ch o data) := by
  unfold State.receive State.countReceived
  dsimp only
  split <;> simp [SameBuffers]

@[simp] theorem finishSend_buffers (ch : Chan) (o : Origin) : SameBuffers s (s.finishSend ch o) := by
  simp [SameBuffers, State.finishSend]

@[simp] theorem abandonSend_buffers (ch : Chan) : SameBuffers s (s.abandonSend ch) := ⟨rfl, rfl⟩

@[simp] theorem channelErr_buffers (ch : Chan) (kind : ErrorKind) : SameBuffers s (s.channelErr ch kind) := by
  unfold State.channelErr
  dsimp only
  split
  · exact (setChan_buffers ..).trans (abandonSend_buffers ..)
  · exact setChan_buffers ..

/-! ## Cues -/

@[simp] theorem endCue_buffers (c : CueNo) (cue : Cue) (why : EndReason) : SameBuffers s (s.endCue c cue why) :=
  (CueFrame.endCue s c cue why).buffers

@[simp] theorem endCuesWhere_buffers (p : Cue → Bool) (why : EndReason) : SameBuffers s (s.endCuesWhere p why) :=
  (CueFrame.endCuesWhere s p why).buffers

@[simp] theorem endAllCues_buffers (why : EndReason) : SameBuffers s (s.endAllCues why) := by
  simp [SameBuffers, State.endAllCues]

@[simp] theorem naturalEnd_buffers (c : CueNo) (cue : Cue) : SameBuffers s (s.naturalEnd c cue) :=
  (CueFrame.naturalEnd s c cue).buffers

@[simp] theorem unbindWhere_buffers (p : BindEntry → Bool) : SameBuffers s (s.unbindWhere p) := ⟨rfl, rfl⟩

@[simp] theorem schedule_buffers (c : CueNo) (cue : Cue) (start : Time) (o : Origin) :
    SameBuffers s (s.schedule c cue start o) := by
  unfold State.schedule
  dsimp only
  split <;> simp [SameBuffers]

@[simp] theorem stop_buffers (c : CueNo) (cue : Cue) : SameBuffers s (s.stop c cue) := by
  unfold State.stop
  split
  · exact .refl s
  · simp [SameBuffers]
  · split <;> simp [SameBuffers]
  · exact endCue_buffers ..

@[simp] theorem emptyCue_buffers (c : CueNo) (cue : Cue) (why : EndReason) : SameBuffers s (s.emptyCue c cue why) := by
  unfold State.emptyCue
  dsimp only
  split <;> simp [SameBuffers]

@[simp] theorem actStart_buffers (c : CueNo) (cue : Cue) (stamp : Time) (o : Origin) :
    SameBuffers s (s.actStart c cue stamp o) := by
  unfold State.actStart
  split
  · exact .refl s
  · exact schedule_buffers ..

@[simp] theorem act_buffers (e : BindEntry) (stamp : Time) : SameBuffers s (s.act e stamp) := by
  unfold State.act
  split
  · split
    · exact .refl s
    · split
      · exact actStart_buffers ..
      · exact stop_buffers ..
      · split
        · exact actStart_buffers ..
        · exact stop_buffers ..
  · exact .refl s

/-! ## Layers -/

@[simp] theorem makeEdit_buffers (o : Origin) (i : LayerNo) (e : Edit) : SameBuffers s (s.makeEdit o i e) := by
  unfold State.makeEdit
  dsimp only
  split <;> exact ⟨rfl, rfl⟩

@[simp] theorem freeLayersWhere_buffers (p : LayerNo → Layer → Bool) : SameBuffers s (s.freeLayersWhere p) := ⟨rfl, rfl⟩

@[simp] theorem expireGate_buffers (o : Origin) : SameBuffers s (s.expireGate o) :=
  SameBuffers.trans ⟨rfl, rfl⟩ (notify_buffers ..)

/-! ## Holds, lines, flags, codes -/

@[simp] theorem takeHold_buffers (tk : Taken) (z : ZoneNo) (tier : Tier) : SameBuffers s (takeHold tk z tier s) := by
  unfold takeHold
  dsimp only
  split
  · exact ⟨rfl, rfl⟩
  · repeat' split
    all_goals simp [SameBuffers]

@[simp] theorem mirrorTo_buffers (f : Option FlagNo) (v : Bool) : SameBuffers s (s.mirrorTo f v) := by
  cases f <;> exact ⟨rfl, rfl⟩

@[simp] theorem replaceLine_buffers (t : LineNo) (x : Line) : SameBuffers s (s.replaceLine t x) := by
  simp [SameBuffers, State.replaceLine]

@[simp] theorem giveFlag_buffers (f : FlagNo) (w : Writer) : SameBuffers s (s.giveFlag f w) := by
  unfold State.giveFlag
  split <;> exact ⟨rfl, rfl⟩

@[simp] theorem unbindSame_buffers (o : Origin) (code mask : Byte) : SameBuffers s (s.unbindSame o code mask) := by
  unfold State.unbindSame
  split <;> exact ⟨rfl, rfl⟩

@[simp] theorem matchCode_buffers (src : CodeSource) (code : Byte) (stamp : Time) :
    SameBuffers s (s.matchCode src code stamp) := by
  unfold State.matchCode
  exact (SameBuffers.foldl (fun u e => act_buffers u e stamp) _ s).trans (notifyAll_buffers ..)

@[simp] theorem seeUnmatched_buffers (src : CodeSource) (code : Byte) (stamp : Time) :
    SameBuffers s (s.seeUnmatched src code stamp) := notifyAll_buffers ..

@[simp] theorem addWake_buffers (t : LineNo) (e : EdgeKind) (stamp : Time) : SameBuffers s (s.addWake t e stamp) := by
  unfold State.addWake
  split
  · exact ⟨rfl, rfl⟩
  · exact seeUnmatched_buffers ..

@[simp] theorem handleEdge_buffers (t : LineNo) (e : EdgeKind) (stamp : Time) :
    SameBuffers s (s.handleEdge t e stamp) := by
  unfold State.handleEdge
  cases s.ps.state with
  | asleep => dsimp only; split <;> simp [SameBuffers]
  | waking => exact addWake_buffers ..
  | setup => exact seeUnmatched_buffers ..
  | run => exact matchCode_buffers ..
  | settling => exact matchCode_buffers ..

@[simp] theorem acceptChange_buffers (t : LineNo) (level : Bool) : SameBuffers s (s.acceptChange t level) := by
  unfold State.acceptChange State.takeEdge
  dsimp only
  repeat' split
  all_goals simp [SameBuffers]

theorem matchCodes_buffers (l : List WakeEntry) :
    SameBuffers s (l.foldl (fun u w => u.matchCode (.line w.line (codeEdge w.code)) w.code w.stamp) s) := by
  apply SameBuffers.foldl
  exact fun u w => matchCode_buffers ..

@[simp] theorem matchWakeList_buffers : SameBuffers s s.matchWakeList := by
  have hempty : SameBuffers s (s.setWakeList []) := ⟨rfl, rfl⟩
  apply hempty.trans
  apply matchCodes_buffers

/-! ## Loops, composes, watches -/

@[simp] theorem changeLoop_buffers (l : LoopNo) (x : Loop) (cause : LoopCause) :
    SameBuffers s (s.changeLoop l x cause) := by
  rw [changeLoop_frame]
  exact ⟨rfl, rfl⟩

@[simp] theorem clearQueried_buffers (l : LoopNo) : SameBuffers s (s.clearQueried l) := ⟨rfl, rfl⟩

@[simp] theorem storeChain_buffers (l : LoopNo) (c : Chain) (enable : Bool) :
    SameBuffers s (s.storeChain l c enable) := ⟨rfl, rfl⟩

@[simp] theorem followSettings_buffers (l : LoopNo) : SameBuffers s (s.followSettings l) := by
  unfold State.followSettings
  dsimp only
  repeat' split
  all_goals simp [SameBuffers]

@[simp] theorem endHoldoff_buffers (l : LoopNo) : SameBuffers s (s.endHoldoff l) := by
  rw [endHoldoff_frame]
  exact ⟨rfl, rfl⟩

@[simp] theorem applyStatus_buffers (lam : LampNo) (st : StatusWord) : SameBuffers s (s.applyStatus lam st) := by
  unfold State.applyStatus
  dsimp only
  split <;> simp [SameBuffers]

@[simp] theorem applyQuery_buffers (l : LoopNo) (q : Nat) (st : StatusWord) : SameBuffers s (s.applyQuery l q st) := by
  unfold State.applyQuery
  split <;> simp [SameBuffers]

@[simp] theorem countFailure_buffers (l : LoopNo) : SameBuffers s (s.countFailure l) := by
  unfold State.countFailure State.failLoop
  dsimp only
  split <;> simp [SameBuffers]

@[simp] theorem actOn_buffers (l : LoopNo) (v : Verdict) : SameBuffers s (s.actOn l v) := by
  cases v <;> simp [SameBuffers, State.actOn, State.failLoop]

@[simp] theorem completeCompose_buffers (c : Compose) : SameBuffers s (s.completeCompose c) := by
  rw [completeCompose_frame]
  exact ⟨rfl, rfl⟩

/-! ## Frame starts, the part state, FORGET -/

theorem beginFramed_buffers (tf : Time) : SameBuffers s ((framed s tf).beginCompose tf) := by
  rw [beginCompose_framed]
  exact ⟨rfl, rfl⟩

theorem dueStarts_buffers (tf : Time) : SameBuffers s (s.dueStarts tf) := by
  have hqueue : SameBuffers s (s.setStartQueue (s.ce.queue.filter fun e => !startDue tf e)) := ⟨rfl, rfl⟩
  exact hqueue.trans (CueFrame.dueStarts s tf).buffers

theorem gatesAtFrame_buffers (tf : Time) : SameBuffers s (s.raiseFrame tf).applyGates := ⟨rfl, rfl⟩

@[simp] theorem frameStart_buffers (tf : Time) : SameBuffers s (s.frameStart tf) := by
  rw [frameStart_framed]
  have hgates := gatesAtFrame_buffers s tf
  generalize (s.raiseFrame tf).applyGates = u at hgates ⊢
  have hstarts := hgates.trans (dueStarts_buffers u tf)
  generalize u.dueStarts tf = v at hstarts ⊢
  exact (hstarts.trans (CueFrame.cueEnds v tf).buffers).trans (beginFramed_buffers _ tf)

/-- What ENTER_SETUP does after the ends of cues. -/
theorem setupTables_buffers : SameBuffers s
    (((s.openGates.freeLayersWhere fun _ l => l.state != .free).releaseHolds).setPartState .setup) := ⟨rfl, rfl⟩

@[simp] theorem enterSetup_buffers : SameBuffers s s.enterSetup :=
  (endAllCues_buffers s .stopped).trans (setupTables_buffers _)

/-- What the entry to ASLEEP does before and after the ends of cues. -/
theorem asleep_buffers : SameBuffers s (s.settleLoops.setPartState .asleep) := ⟨rfl, rfl⟩
theorem darkened_buffers : SameBuffers s s.darkLayers.emptyQueues.stopFrames.darkWatches := ⟨rfl, rfl⟩

@[simp] theorem fallAsleep_buffers : SameBuffers s s.settleLoops.fallAsleep :=
  ((asleep_buffers s).trans (endAllCues_buffers _ .sleep)).trans (darkened_buffers _)

theorem wokenLoops_buffers : SameBuffers s s.wakeUp.wakeLoops := ⟨rfl, rfl⟩

@[simp] theorem completeWake_buffers : SameBuffers s s.completeWake :=
  ((wokenLoops_buffers s).trans (matchWakeList_buffers _)).trans (frameStart_buffers ..)

theorem forgetCue_buffers (o : Origin) (c : CueNo) : SameBuffers s (s.forgetCue o c) := by
  unfold State.forgetCue
  split
  · exact .refl s
  · split
    · exact emptyCue_buffers ..
    · split
      · simp [SameBuffers]
      · exact .refl s

theorem forgetCues_buffers (o : Origin) : SameBuffers s (s.forgetCues o) := .foldl (fun u c => forgetCue_buffers u o c) _ s

theorem forgetSlots_buffers (o : Origin) : SameBuffers s (s.forgetSlots o) := by
  refine .foldl (fun u n => ?_) _ s
  split <;> exact ⟨rfl, rfl⟩

/-- What FORGET does before the cues and after the slots. -/
theorem forgetCopies_buffers (o : Origin) : SameBuffers s ((s.discardCopies o).setGate o .opened) := ⟨rfl, rfl⟩
theorem forgetRights_buffers (o : Origin) : SameBuffers s
    ((((s.unbindWhere fun e => e.owner == o).forgetHolds o).forgetFlags o).clearMask o) := ⟨rfl, rfl⟩

@[simp] theorem forget_buffers (o : Origin) : SameBuffers s (s.forget o) :=
  ((((forgetCopies_buffers s o).trans (forgetCues_buffers _ o)).trans (freeLayersWhere_buffers ..)).trans
    (forgetSlots_buffers _ o)).trans (forgetRights_buffers _ o)

end

/-! ## Commands that leave both buffers -/

section
variable {s n : State}

theorem unchanged_buffers : WhenNext (SameBuffers s) (.next s) := whenNext_next.mpr (.refl s)

theorem live_buffers (h : SameBuffers s n) : WhenNext (SameBuffers s) (s.live n) := whenNext_live (.refl s) fun _ => h

theorem liveWhen_buffers {c : Bool} (h : SameBuffers s n) : WhenNext (SameBuffers s) (s.liveWhen c n) :=
  whenNext_liveWhen (.refl s) fun _ _ => h

theorem taken_buffers {k : Option Kind} {o : Origin} {serve : Taken → State → State}
    (h : ∀ tk u, SameBuffers u (serve tk u)) : WhenNext (SameBuffers s) (takeRequest k o s serve) :=
  whenNext_takeRequest (.refl s) ⟨rfl, rfl⟩ (fun _ => ⟨rfl, rfl⟩) fun rq =>
    SameBuffers.trans (t := s.popIntake o) ⟨rfl, rfl⟩ (h ⟨o, rq⟩ _)

theorem answered_buffers {k : Option Kind} {o : Origin} {serve : Taken → State → Served}
    (h : ∀ tk u, WhenServed (SameBuffers u) (serve tk u)) :
    WhenNext (SameBuffers s) (takeRequest k o s fun tk u => answer tk u (serve tk u)) :=
  taken_buffers fun tk u => answer_keeps (P := SameBuffers u) (fun _ => ⟨rfl, rfl⟩) (h tk u)

theorem atLastFrame_buffers {c : CueNo} {cond : Time → Cue → Bool} {next : Cue → State}
    (h : ∀ cue, SameBuffers s (next cue)) : WhenNext (SameBuffers s) (atLastFrame s c cond next) := by
  unfold atLastFrame
  split
  · exact liveWhen_buffers (h _)
  · exact unchanged_buffers

end

/-- The commands that write one of the buffers: the resets (R39, R91), WRITE_PATTERN (R41) and WRITE_KEYS (R93). -/
def setsBuffers : Instr → Bool
  | .powerOn .. => true
  | .resetPinRelease .. => true
  | .writePattern .. => true
  | .writeKeys .. => true
  | .restart .. => true
  | _ => false

section
variable (s : State)

theorem execRequestUnknownKind_buffers (o : Origin) : WhenNext (SameBuffers s) (execRequestUnknownKind o s) :=
  taken_buffers fun _ _ => ⟨rfl, rfl⟩

theorem execSetOrigin_buffers (o : Origin) : WhenNext (SameBuffers s) (execSetOrigin o s) :=
  answered_buffers fun tk u => by
    simp only [serveSetOrigin, whenServed_bind, whenServed_pure]
    intros
    exact ⟨rfl, rfl⟩

theorem execSetZone_buffers (o : Origin) : WhenNext (SameBuffers s) (execSetZone o s) :=
  answered_buffers fun tk u => by
    simp only [serveSetZone, whenServed_bind, whenServed_pure]
    intros
    exact ⟨rfl, rfl⟩

theorem execClearZone_buffers (o : Origin) : WhenNext (SameBuffers s) (execClearZone o s) :=
  answered_buffers fun tk u => by
    simp only [serveClearZone, whenServed_bind, whenServed_pure]
    intros
    exact ⟨rfl, rfl⟩

theorem execSetBin_buffers (o : Origin) : WhenNext (SameBuffers s) (execSetBin o s) :=
  answered_buffers fun tk u => by
    simp only [serveSetBin, whenServed_bind, whenServed_pure]
    intros
    exact ⟨rfl, rfl⟩

theorem execSetLampBin_buffers (o : Origin) : WhenNext (SameBuffers s) (execSetLampBin o s) :=
  answered_buffers fun tk u => by
    simp only [serveSetLampBin, whenServed_bind, whenServed_pure]
    intros
    exact ⟨rfl, rfl⟩

theorem execSetChain_buffers (o : Origin) : WhenNext (SameBuffers s) (execSetChain o s) :=
  answered_buffers fun tk u => by simp [SameBuffers, serveSetChain]

theorem execSetLine_buffers (o : Origin) : WhenNext (SameBuffers s) (execSetLine o s) :=
  answered_buffers fun tk u => by simp [SameBuffers, serveSetLine]

theorem execSetFlagOwner_buffers (o : Origin) : WhenNext (SameBuffers s) (execSetFlagOwner o s) :=
  answered_buffers fun tk u => by simp [SameBuffers, serveSetFlagOwner]

theorem execSetGlare_buffers (o : Origin) : WhenNext (SameBuffers s) (execSetGlare o s) :=
  answered_buffers fun tk u => by
    simp only [serveSetGlare, whenServed_bind, whenServed_pure]
    intros
    exact ⟨rfl, rfl⟩

theorem execSetFrame_buffers (o : Origin) : WhenNext (SameBuffers s) (execSetFrame o s) :=
  answered_buffers fun tk u => by
    simp only [serveSetFrame, whenServed_bind, whenServed_pure]
    intros
    exact ⟨rfl, rfl⟩

theorem execSetWatch_buffers (o : Origin) : WhenNext (SameBuffers s) (execSetWatch o s) :=
  answered_buffers fun tk u => by
    simp only [serveSetWatch, whenServed_bind, whenServed_pure]
    intros
    exact ⟨rfl, rfl⟩

theorem execDefinePattern_buffers (o : Origin) : WhenNext (SameBuffers s) (execDefinePattern o s) :=
  answered_buffers fun tk u => by
    simp only [serveDefinePattern, whenServed_bind, whenServed_pure]
    intros
    exact ⟨rfl, rfl⟩

theorem execDeletePattern_buffers (o : Origin) : WhenNext (SameBuffers s) (execDeletePattern o s) :=
  answered_buffers fun tk u => by
    simp only [serveDeletePattern, whenServed_bind, whenServed_pure]
    intros
    exact ⟨rfl, rfl⟩

theorem execDefineCue_buffers (o : Origin) : WhenNext (SameBuffers s) (execDefineCue o s) :=
  answered_buffers fun tk u => by simp [SameBuffers, serveDefineCue]

theorem execDeleteCue_buffers (o : Origin) : WhenNext (SameBuffers s) (execDeleteCue o s) :=
  answered_buffers fun tk u => by simp [SameBuffers, serveDeleteCue]

theorem execBind_buffers (o : Origin) : WhenNext (SameBuffers s) (execBind o s) :=
  answered_buffers fun tk u => by simp [SameBuffers, serveBind]

theorem execUnbind_buffers (o : Origin) : WhenNext (SameBuffers s) (execUnbind o s) :=
  answered_buffers fun tk u => by simp [SameBuffers, serveUnbind]

theorem execTimeQuery_buffers (o : Origin) : WhenNext (SameBuffers s) (execTimeQuery o s) :=
  taken_buffers fun _ _ => ⟨rfl, rfl⟩

theorem execSetClock_buffers (o : Origin) : WhenNext (SameBuffers s) (execSetClock o s) :=
  answered_buffers fun tk u => by
    simp only [serveSetClock, whenServed_bind, whenServed_pure]
    intros
    exact ⟨rfl, rfl⟩

theorem execTrimClock_buffers (o : Origin) : WhenNext (SameBuffers s) (execTrimClock o s) :=
  answered_buffers fun tk u => by
    simp only [serveTrimClock, whenServed_bind, whenServed_pure]
    intros
    exact ⟨rfl, rfl⟩

theorem execReadStatus_buffers (o : Origin) : WhenNext (SameBuffers s) (execReadStatus o s) :=
  taken_buffers fun _ _ => ⟨rfl, rfl⟩

theorem execSubscribe_buffers (o : Origin) : WhenNext (SameBuffers s) (execSubscribe o s) :=
  answered_buffers fun tk u => by
    simp only [serveSubscribe, whenServed_bind, whenServed_pure]
    intros
    exact ⟨rfl, rfl⟩

theorem execReadCapture_buffers (o : Origin) : WhenNext (SameBuffers s) (execReadCapture o s) :=
  answered_buffers fun tk u => by
    simp only [serveReadCapture, whenServed_bind, whenServed_pure]
    intros
    exact ⟨rfl, rfl⟩

theorem execOpenLayer_buffers (o : Origin) : WhenNext (SameBuffers s) (execOpenLayer o s) :=
  answered_buffers fun tk u => by
    simp only [serveOpenLayer, whenServed_bind, whenServed_pure]
    intros
    exact ⟨rfl, rfl⟩

theorem execEditLayer_buffers (o : Origin) : WhenNext (SameBuffers s) (execEditLayer o s) :=
  answered_buffers fun tk u => by simp [SameBuffers, serveEditLayer]

theorem execShowLayer_buffers (o : Origin) : WhenNext (SameBuffers s) (execShowLayer o s) :=
  answered_buffers fun tk u => by
    simp only [serveShowLayer, whenServed_bind, whenServed_pure]
    intros
    exact ⟨rfl, rfl⟩

theorem execHideLayer_buffers (o : Origin) : WhenNext (SameBuffers s) (execHideLayer o s) :=
  answered_buffers fun tk u => by
    simp only [serveHideLayer, whenServed_bind, whenServed_pure]
    intros
    exact ⟨rfl, rfl⟩

theorem execCloseLayer_buffers (o : Origin) : WhenNext (SameBuffers s) (execCloseLayer o s) :=
  answered_buffers fun tk u => by simp [SameBuffers, serveCloseLayer]

theorem execGateClose_buffers (o : Origin) : WhenNext (SameBuffers s) (execGateClose o s) :=
  answered_buffers fun tk u => by
    simp only [serveGateClose, whenServed_bind, whenServed_pure]
    intro _ _
    split <;> exact ⟨rfl, rfl⟩

theorem execGateOpen_buffers (o : Origin) : WhenNext (SameBuffers s) (execGateOpen o s) :=
  answered_buffers fun tk u => by
    simp only [serveGateOpen, whenServed_bind, whenServed_pure]
    intro _ _
    split <;> exact ⟨rfl, rfl⟩

theorem execStartCue_buffers (o : Origin) : WhenNext (SameBuffers s) (execStartCue o s) :=
  answered_buffers fun tk u => by simp [SameBuffers, serveStartCue]

theorem execStopCue_buffers (o : Origin) : WhenNext (SameBuffers s) (execStopCue o s) :=
  answered_buffers fun tk u => by simp [SameBuffers, serveStopCue]

theorem execStreamFrame_buffers (o : Origin) : WhenNext (SameBuffers s) (execStreamFrame o s) :=
  taken_buffers fun tk u => by
    unfold serveStreamFrame
    split <;> exact ⟨rfl, rfl⟩

theorem execHoldZone_buffers (o : Origin) : WhenNext (SameBuffers s) (execHoldZone o s) :=
  answered_buffers fun tk u => by simp [SameBuffers, serveHoldZone]

theorem execReleaseZone_buffers (o : Origin) : WhenNext (SameBuffers s) (execReleaseZone o s) :=
  answered_buffers fun tk u => by
    simp only [serveReleaseZone, whenServed_bind, whenServed_pure]
    intros
    exact ⟨rfl, rfl⟩

theorem execSetFlags_buffers (o : Origin) : WhenNext (SameBuffers s) (execSetFlags o s) :=
  answered_buffers fun tk u => by
    simp only [serveSetFlags, whenServed_bind, whenServed_pure]
    intros
    exact ⟨rfl, rfl⟩

theorem execTrigger_buffers (o : Origin) : WhenNext (SameBuffers s) (execTrigger o s) :=
  answered_buffers fun tk u => by simp [SameBuffers, serveTrigger]

theorem execClearHealth_buffers (o : Origin) : WhenNext (SameBuffers s) (execClearHealth o s) :=
  answered_buffers fun tk u => by
    simp only [serveClearHealth, whenServed_bind, whenServed_pure]
    intros
    exact ⟨rfl, rfl⟩

theorem execForget_buffers (o : Origin) : WhenNext (SameBuffers s) (execForget o s) :=
  answered_buffers fun tk u => by simp [SameBuffers, serveForget]

theorem execEnterRun_buffers (o : Origin) : WhenNext (SameBuffers s) (execEnterRun o s) :=
  answered_buffers fun tk u => by
    simp only [serveEnterRun, whenServed_bind, whenServed_pure]
    intro _ _
    split <;> exact ⟨rfl, rfl⟩

theorem execEnterSetup_buffers (o : Origin) : WhenNext (SameBuffers s) (execEnterSetup o s) :=
  answered_buffers fun tk u => by
    simp only [serveEnterSetup, whenServed_bind, whenServed_pure]
    intro _ _
    split
    · exact done_buffers ..
    · exact (done_buffers ..).trans (enterSetup_buffers _)

theorem execSleep_buffers (o : Origin) : WhenNext (SameBuffers s) (execSleep o s) :=
  answered_buffers fun tk u => by
    simp only [serveSleep, whenServed_bind, whenServed_pure]
    intros
    exact ⟨rfl, rfl⟩

theorem execFrameReceived_buffers (ch : Chan) (fmt : FrameFormat) (ident : Nat) (data : List Byte) :
    WhenNext (SameBuffers s) (execFrameReceived ch fmt ident data s) := by
  unfold execFrameReceived
  split
  · exact liveWhen_buffers (receive_buffers ..)
  · exact unchanged_buffers

theorem execFrameStart_buffers : WhenNext (SameBuffers s) (execFrameStart s) := by
  unfold execFrameStart
  split
  · exact unchanged_buffers
  · exact liveWhen_buffers (frameStart_buffers ..)

theorem execStreamStale_buffers (q : QueueNo) : WhenNext (SameBuffers s) (execStreamStale q s) := by
  unfold execStreamStale
  split
  · exact unchanged_buffers
  · exact liveWhen_buffers ⟨rfl, rfl⟩

theorem execComposeComplete_buffers : WhenNext (SameBuffers s) (execComposeComplete s) := by
  unfold execComposeComplete
  split
  · exact unchanged_buffers
  · exact live_buffers (completeCompose_buffers ..)

theorem execQuietThreshold_buffers (l : LoopNo) : WhenNext (SameBuffers s) (execQuietThreshold l s) := by
  unfold execQuietThreshold
  split
  · exact unchanged_buffers
  · exact liveWhen_buffers (changeLoop_buffers ..)

theorem execLoopReturnReceived_buffers (l : LoopNo) (ret : LoopReturn) :
    WhenNext (SameBuffers s) (execLoopReturnReceived l ret s) := by
  unfold execLoopReturnReceived
  split
  · exact unchanged_buffers
  · exact live_buffers (actOn_buffers ..)

theorem execLoopReturnTimeout_buffers (l : LoopNo) : WhenNext (SameBuffers s) (execLoopReturnTimeout l s) := by
  unfold execLoopReturnTimeout
  split
  · exact unchanged_buffers
  · exact liveWhen_buffers (actOn_buffers ..)

theorem execLoopFailed_buffers (l : LoopNo) (ret : Option LoopReturn) :
    WhenNext (SameBuffers s) (execLoopFailed l ret s) := by
  unfold execLoopFailed
  split
  · exact unchanged_buffers
  · exact liveWhen_buffers (actOn_buffers ..)

theorem execLineChangeAccepted_buffers (t : LineNo) : WhenNext (SameBuffers s) (execLineChangeAccepted t s) := by
  unfold execLineChangeAccepted
  split
  · exact unchanged_buffers
  · exact liveWhen_buffers (acceptChange_buffers ..)

theorem execFrameTransmitStart_buffers (ch : Chan) : WhenNext (SameBuffers s) (execFrameTransmitStart ch s) := by
  unfold execFrameTransmitStart
  split
  · exact unchanged_buffers
  · exact liveWhen_buffers ⟨rfl, rfl⟩

theorem execFrameTransmitted_buffers (ch : Chan) : WhenNext (SameBuffers s) (execFrameTransmitted ch s) := by
  unfold execFrameTransmitted
  split
  · exact unchanged_buffers
  · exact liveWhen_buffers (finishSend_buffers ..)

theorem execLoopBurstEnd_buffers (l : LoopNo) : WhenNext (SameBuffers s) (execLoopBurstEnd l s) := by
  unfold execLoopBurstEnd
  dsimp only
  split
  · exact unchanged_buffers
  · exact liveWhen_buffers ⟨rfl, rfl⟩

theorem execLineRawChange_buffers (t : LineNo) (level : Bool) :
    WhenNext (SameBuffers s) (execLineRawChange t level s) := by
  unfold execLineRawChange
  dsimp only
  split
  · exact unchanged_buffers
  · split <;> exact whenNext_next.mpr ⟨rfl, rfl⟩

theorem execResetPinAssert_buffers : WhenNext (SameBuffers s) (execResetPinAssert s) := live_buffers ⟨rfl, rfl⟩

end

/-- Every other command leaves both buffers as they are. -/
theorem exec_sameBuffers (c : Instr) (hc : setsBuffers c = false) (s : State) : WhenNext (SameBuffers s) (exec c s) := by
  cases c with
  | powerOn strap raw => cases hc
  | resetPinAssert => exact execResetPinAssert_buffers s
  | resetPinRelease strap => cases hc
  | frameReceived ch fmt ident data => exact execFrameReceived_buffers s ch fmt ident data
  | requestUnknownKind o => exact execRequestUnknownKind_buffers s o
  | setOrigin o => exact execSetOrigin_buffers s o
  | setZone o => exact execSetZone_buffers s o
  | clearZone o => exact execClearZone_buffers s o
  | setBin o => exact execSetBin_buffers s o
  | setLampBin o => exact execSetLampBin_buffers s o
  | setChain o => exact execSetChain_buffers s o
  | setLine o => exact execSetLine_buffers s o
  | setFlagOwner o => exact execSetFlagOwner_buffers s o
  | setGlare o => exact execSetGlare_buffers s o
  | setFrame o => exact execSetFrame_buffers s o
  | setWatch o => exact execSetWatch_buffers s o
  | writePattern o => cases hc
  | definePattern o => exact execDefinePattern_buffers s o
  | deletePattern o => exact execDeletePattern_buffers s o
  | writeKeys o => cases hc
  | defineCue o => exact execDefineCue_buffers s o
  | deleteCue o => exact execDeleteCue_buffers s o
  | bind o => exact execBind_buffers s o
  | unbind o => exact execUnbind_buffers s o
  | timeQuery o => exact execTimeQuery_buffers s o
  | setClock o => exact execSetClock_buffers s o
  | trimClock o => exact execTrimClock_buffers s o
  | readStatus o => exact execReadStatus_buffers s o
  | subscribe o => exact execSubscribe_buffers s o
  | readCapture o => exact execReadCapture_buffers s o
  | openLayer o => exact execOpenLayer_buffers s o
  | editLayer o => exact execEditLayer_buffers s o
  | showLayer o => exact execShowLayer_buffers s o
  | hideLayer o => exact execHideLayer_buffers s o
  | closeLayer o => exact execCloseLayer_buffers s o
  | gateClose o => exact execGateClose_buffers s o
  | gateOpen o => exact execGateOpen_buffers s o
  | startCue o => exact execStartCue_buffers s o
  | stopCue o => exact execStopCue_buffers s o
  | streamFrame o => exact execStreamFrame_buffers s o
  | holdZone o => exact execHoldZone_buffers s o
  | releaseZone o => exact execReleaseZone_buffers s o
  | setFlags o => exact execSetFlags_buffers s o
  | trigger o => exact execTrigger_buffers s o
  | clearHealth o => exact execClearHealth_buffers s o
  | forget o => exact execForget_buffers s o
  | enterRun o => exact execEnterRun_buffers s o
  | enterSetup o => exact execEnterSetup_buffers s o
  | sleep o => exact execSleep_buffers s o
  | restart o => cases hc
  | trimCorrection => exact liveWhen_buffers ⟨rfl, rfl⟩
  | frameStart => exact execFrameStart_buffers s
  | cueNaturalEnd c => exact atLastFrame_buffers fun cue => naturalEnd_buffers ..
  | cueReleaseEnd c => exact atLastFrame_buffers fun cue => endCue_buffers ..
  | streamStale q => exact execStreamStale_buffers s q
  | holdoffEnd l => exact liveWhen_buffers (endHoldoff_buffers ..)
  | composeComplete => exact execComposeComplete_buffers s
  | quietThreshold l => exact execQuietThreshold_buffers s l
  | loopReturnReceived l ret => exact execLoopReturnReceived_buffers s l ret
  | loopReturnTimeout l => exact execLoopReturnTimeout_buffers s l
  | loopFailed l ret => exact execLoopFailed_buffers s l ret
  | gateExpiry o => exact liveWhen_buffers (expireGate_buffers ..)
  | lineRawChange t level => exact execLineRawChange_buffers s t level
  | lineChangeAccepted t => exact execLineChangeAccepted_buffers s t
  | settle => exact liveWhen_buffers (fallAsleep_buffers _)
  | wakeCompletion => exact liveWhen_buffers (completeWake_buffers _)
  | frameTransmitStart ch => exact execFrameTransmitStart_buffers s ch
  | frameTransmitted ch => exact execFrameTransmitted_buffers s ch
  | channelError ch kind => exact liveWhen_buffers (channelErr_buffers ..)
  | channelRecovery ch => exact liveWhen_buffers (setChan_buffers ..)
  | loopBurstEnd l => exact execLoopBurstEnd_buffers s l

/-! ## Commands that write a buffer -/

theorem BuffersSound.of_same {s t : State} (h : BuffersSound s) (hst : SameBuffers s t) : BuffersSound t := by
  obtain ⟨hpattern, hpool⟩ := hst
  unfold BuffersSound
  rw [hpattern, hpool]
  exact h

/-- A reset, of whatever straps and lines, empties both buffers. -/
theorem buffersSound_of_empty {s : State} (hpattern : s.ss.pattern = []) (hpool : s.ce.pool = []) : BuffersSound s :=
  buffersSound_reset.of_same ⟨hpattern, hpool⟩

/-- A run within a buffer's size keeps every number within it. -/
theorem writeRun_within {α : Type} [DecidableEq α] {d : α} {m : Store α} {size first : Nat} {xs : List α}
    (hm : ∀ e ∈ m, e.1 < size) (hrun : first + xs.length ≤ size) : ∀ e ∈ writeRun d m first xs, e.1 < size := by
  intro e he
  rcases writeRun_mem d xs m first e he with hold | ⟨-, hnew⟩
  · exact hm e hold
  · omega

/-! ## The runs that requests carry -/

theorem itemsAt_length {α : Type} (d : List Byte) (i size n : Nat) (f : List Byte → Nat → α) :
    (itemsAt d i size n f).length = n := by
  simp [itemsAt]

theorem itemsAt_getElem? {α : Type} {d : List Byte} {i size n k : Nat} {f : List Byte → Nat → α} (hk : k < n) :
    (itemsAt d i size n f)[k]? = some (f d (i + size * k)) := by
  simp [itemsAt, hk]

theorem countIn_of_mem {lo hi n : Nat} (hlo : lo ≤ n) (hhi : n ≤ hi) : countIn lo hi n = n := if_pos ⟨hlo, hhi⟩

theorem runInside_iff {first count size : Nat} : runInside first count size = true ↔ first < size ∧ first + count ≤ size :=
  decide_eq_true_iff

/-- A list of found values is as long as what was looked for. -/
theorem allFound_length {α : Type} {l : List (Option α)} {xs : List α} (h : allFound l = some xs) :
    xs.length = l.length := by
  rw [allFound_eq_some.mp h, List.length_map]

section
variable {d : List Byte}

theorem writePatternArgs_entries (hlow : 1 ≤ byteAt d 4) (hhigh : byteAt d 4 ≤ 6) :
    (writePatternArgs d).entries = itemsAt d 5 7 (byteAt d 4) patEntryAt := by
  rw [writePatternArgs, countIn_of_mem hlow hhigh]

theorem writeKeysArgs_keys (hlow : 1 ≤ byteAt d 4) (hhigh : byteAt d 4 ≤ 6) :
    (writeKeysArgs d).keys = itemsAt d 5 9 (byteAt d 4) keyAt := by
  rw [writeKeysArgs, countIn_of_mem hlow hhigh]

/-- A WRITE_PATTERN that passes its first checks carries a run within pattern memory (R41). -/
theorem writePattern_run (hcount : ¬((writePatternArgs d).count = 0 ∨ (writePatternArgs d).count > 6))
    (hinside : runInside (writePatternArgs d).first (writePatternArgs d).count 4096 = true) :
    (writePatternArgs d).first + (writePatternArgs d).entries.length ≤ 4096 := by
  have hc : (writePatternArgs d).count = byteAt d 4 := rfl
  rw [hc] at hcount hinside
  rw [writePatternArgs_entries (by omega) (by omega), itemsAt_length]
  exact (runInside_iff.mp hinside).2

/-- A WRITE_KEYS that passes its first checks carries a run within the keyframe pool (R93). -/
theorem writeKeys_run {keys : List Keyframe} (hcount : ¬((writeKeysArgs d).count = 0 ∨ (writeKeysArgs d).count > 6))
    (hinside : runInside (writeKeysArgs d).first (writeKeysArgs d).count 1024 = true)
    (hkeys : allFound ((writeKeysArgs d).keys.map key?) = some keys) :
    (writeKeysArgs d).first + keys.length ≤ 1024 := by
  have hc : (writeKeysArgs d).count = byteAt d 4 := rfl
  rw [hc] at hcount hinside
  rw [allFound_length hkeys, List.length_map, writeKeysArgs_keys (by omega) (by omega), itemsAt_length]
  exact (runInside_iff.mp hinside).2

end

section
variable {s : State} (hs : BuffersSound s)
include hs

theorem execWritePattern_buffersSound (o : Origin) : WhenNext BuffersSound (execWritePattern o s) := by
  refine whenNext_takeRequest hs hs (fun _ => hs) fun rq => answer_keeps (fun _ => hs) ?_
  simp only [serveWritePattern, whenServed_bind, whenServed_pure, require_eq_ok, decide_eq_false_iff_not,
    Bool.not_eq_false']
  intro _ hcount _ hinside _ _
  obtain ⟨hwf, hsize, hpool⟩ := hs
  exact ⟨writeRun_wf _ _ _ _ hwf, writeRun_within hsize (writePattern_run hcount hinside), hpool⟩

theorem execWriteKeys_buffersSound (o : Origin) : WhenNext BuffersSound (execWriteKeys o s) := by
  refine whenNext_takeRequest hs hs (fun _ => hs) fun rq => answer_keeps (fun _ => hs) ?_
  simp only [serveWriteKeys, whenServed_bind, whenServed_pure, require_eq_ok, found_eq_ok, decide_eq_false_iff_not,
    Bool.not_eq_false']
  intro _ hcount _ hinside keys hkeys _ _
  obtain ⟨hwf, hsize, hpoolwf, hpool⟩ := hs
  exact ⟨hwf, hsize, writeRun_wf _ _ _ _ hpoolwf, writeRun_within hpool (writeKeys_run hcount hinside hkeys)⟩

theorem execRestart_buffersSound (o : Origin) : WhenNext BuffersSound (execRestart o s) := by
  refine whenNext_takeRequest hs hs (fun _ => hs) fun rq => answer_keeps (fun _ => hs) ?_
  simp only [serveRestart, whenServed_bind, whenServed_pure]
  exact fun _ _ => buffersSound_of_empty rfl rfl

/-- Every command keeps the law of the buffers. -/
theorem exec_buffersSound (c : Instr) : WhenNext BuffersSound (exec c s) := by
  by_cases hc : setsBuffers c = false
  · exact fun t ht => hs.of_same (exec_sameBuffers c hc s t ht)
  · cases c with
    | powerOn strap raw => exact whenNext_next.mpr (buffersSound_of_empty rfl rfl)
    | resetPinRelease strap =>
      refine whenNext_next.mpr ?_
      split
      · exact buffersSound_of_empty rfl rfl
      · exact hs
    | writePattern o => exact execWritePattern_buffersSound hs o
    | writeKeys o => exact execWriteKeys_buffersSound hs o
    | restart o => exact execRestart_buffersSound hs o
    | _ => exact absurd rfl hc

end

/-- Settles O8: WRITE_PATTERN and WRITE_KEYS write runs that lie within the buffers, the resets empty both, and every other
command leaves them. -/
theorem stepsKeepTheBuffersCanonical : Obligations.StepsKeepTheBuffersCanonical :=
  keptByStep_of_exec (fun _ _ hs => hs.of_same ⟨rfl, rfl⟩) (fun _ hs => hs.of_same ⟨rfl, rfl⟩)
    fun c _ hs => exec_buffersSound hs c

end Sys2Proof.Machine

/-! PROOF. WRITE_PATTERN and WRITE_KEYS (R41, R93): their checks in turn, and the run each writes. -/

namespace Sys2Proof.Machine

/-! ## Checks in turn -/

/-- Two checks with one code refuse as one. -/
theorem require_require {α : Type} (a b : Bool) (c : Code) (f : Unit → Except Code α) :
    (require a c >>= fun _ => require b c >>= f) = (require (a || b) c >>= f) := by
  cases a <;> rfl

/-- A run and the number of its entries as the checks of a write judge them (R41, R93). -/
theorem runChecks_iff {first count size : Nat} :
    (decide (count = 0 ∨ count > 6) || !runInside first count size) = true ↔
      count = 0 ∨ 6 < count ∨ size ≤ first ∨ size < first + count := by
  simp only [runInside, Bool.or_eq_true, decide_eq_true_eq, Bool.not_eq_true', decide_eq_false_iff_not]
  omega

theorem runChecks_pass {first count size : Nat} (hlow : 1 ≤ count) (hhigh : count ≤ 6) (hend : first + count ≤ size) :
    (decide (count = 0 ∨ count > 6) || !runInside first count size) = false := by
  rw [← Bool.not_eq_true, runChecks_iff]
  omega

/-- Every value of a list is found just when each is there. -/
theorem allFound_isSome {α : Type} {l : List (Option α)} : (allFound l).isSome = true ↔ ∀ x ∈ l, x.isSome = true := by
  induction l with
  | nil => simp [allFound]
  | cons x l ih => cases x <;> simp [allFound, ih]

section
variable {s : State} {o : Origin} {rq : Intake}

/-! ## WRITE_PATTERN -/

/-- A WRITE_PATTERN whose run is in range is left to the check of the requester's range (R41). -/
theorem exec_writePattern (h : Takes s o .writePattern rq) : exec (.writePattern o) s =
    .next (answer ⟨o, rq⟩ (s.popIntake o)
      (require (decide (byteAt rq.data 4 = 0 ∨ byteAt rq.data 4 > 6) || !runInside (leAt rq.data 2 2) (byteAt rq.data 4) 4096)
          .badValue >>= fun _ =>
        require (!entriesInRange (s.originRec o) (leAt rq.data 2 2) (byteAt rq.data 4)) .noRight >>= fun _ =>
        .ok (({ s with ss := { s.ss with
            pattern := writeRun PatEntry.blank s.ss.pattern (leAt rq.data 2 2) (writePatternArgs rq.data).entries } } : State)
          |>.popIntake o |>.done ⟨o, rq⟩ []))) := by
  rw [← require_require]
  exact takeRequest_takes (fun tk s => answer tk s (serveWritePattern tk (writePatternArgs tk.req.data) s)) h

theorem exec_writePattern_badValue (h : Takes s o .writePattern rq)
    (hbad : byteAt rq.data 4 = 0 ∨ 6 < byteAt rq.data 4 ∨ 4095 < leAt rq.data 2 2 ∨
      4096 < leAt rq.data 2 2 + byteAt rq.data 4) :
    exec (.writePattern o) s = .next (turnedAway s o rq .badValue) := by
  rw [exec_writePattern h, runChecks_iff.mpr hbad, require_true_bind, answer_error, refuse_popIntake]

theorem entriesInRange_iff {r : OriginRec} {first count : Nat} :
    entriesInRange r first count = true ↔ r.patFirst ≤ first ∧ first + count ≤ r.patLast + 1 := decide_eq_true_iff

theorem keysInRange_iff {r : OriginRec} {first count : Nat} :
    keysInRange r first count = true ↔ r.keyFirst ≤ first ∧ first + count ≤ r.keyLast + 1 := decide_eq_true_iff

theorem exec_writePattern_noRight (h : Takes s o .writePattern rq) (hlow : 1 ≤ byteAt rq.data 4) (hhigh : byteAt rq.data 4 ≤ 6)
    (hend : leAt rq.data 2 2 + byteAt rq.data 4 ≤ 4096)
    (hout : leAt rq.data 2 2 < (s.originRec o).patFirst ∨ (s.originRec o).patLast + 1 < leAt rq.data 2 2 + byteAt rq.data 4) :
    exec (.writePattern o) s = .next (turnedAway s o rq .noRight) := by
  have hright : (!entriesInRange (s.originRec o) (leAt rq.data 2 2) (byteAt rq.data 4)) = true := by
    rw [Bool.not_eq_true', ← Bool.not_eq_true, entriesInRange_iff]
    omega
  rw [exec_writePattern h, runChecks_pass hlow hhigh hend, require_false_bind, hright, require_true_bind, answer_error,
    refuse_popIntake]

/-- A WRITE_PATTERN that passes writes the entries it carries (R41). -/
theorem exec_writePattern_written (h : Takes s o .writePattern rq) (hlow : 1 ≤ byteAt rq.data 4) (hhigh : byteAt rq.data 4 ≤ 6)
    (hend : leAt rq.data 2 2 + byteAt rq.data 4 ≤ 4096) (hfirst : (s.originRec o).patFirst ≤ leAt rq.data 2 2)
    (hlast : leAt rq.data 2 2 + byteAt rq.data 4 ≤ (s.originRec o).patLast + 1) :
    exec (.writePattern o) s = .next (served
      { s with ss := { s.ss with
          pattern := writeRun PatEntry.blank s.ss.pattern (leAt rq.data 2 2)
            (itemsAt rq.data 5 7 (byteAt rq.data 4) patEntryAt) } } o rq .done false false []) := by
  have hright : (!entriesInRange (s.originRec o) (leAt rq.data 2 2) (byteAt rq.data 4)) = false := by
    rw [Bool.not_eq_false', entriesInRange_iff]
    exact ⟨hfirst, hlast⟩
  rw [exec_writePattern h, runChecks_pass hlow hhigh hend, require_false_bind, hright, require_false_bind, answer_ok,
    done_popIntake, writePatternArgs_entries hlow hhigh]

/-- The run reads as the entries of the request, every other entry as before (R39, R41). -/
theorem readPattern_written {m : Store PatEntry} (hm : Store.wf PatEntry.blank m = true) (d : List Byte) (first count i : Nat) :
    readPattern (writeRun PatEntry.blank m first (itemsAt d 5 7 count patEntryAt)) i =
      if first ≤ i ∧ i < first + count then ⟨rgbAt d (5 + 7 * (i - first)), byteAt d (11 + 7 * (i - first))⟩
      else readPattern m i := by
  rw [readPattern, readStore_writeRun _ _ _ _ hm, itemsAt_length]
  by_cases hi : first ≤ i ∧ i < first + count
  · rw [if_pos hi, if_pos hi, List.getD_eq_getElem?_getD, itemsAt_getElem? (by omega), Option.getD_some, patEntryAt]
    congr 2
    omega
  · rw [if_neg hi, if_neg hi, readPattern]

/-! ## WRITE_KEYS -/

theorem exec_writeKeys (h : Takes s o .writeKeys rq) : exec (.writeKeys o) s =
    .next (answer ⟨o, rq⟩ (s.popIntake o)
      (require (decide (byteAt rq.data 4 = 0 ∨ byteAt rq.data 4 > 6) || !runInside (leAt rq.data 2 2) (byteAt rq.data 4) 1024)
          .badValue >>= fun _ =>
        found (allFound ((writeKeysArgs rq.data).keys.map key?)) .badValue >>= fun keys =>
        require (!keysInRange (s.originRec o) (leAt rq.data 2 2) (byteAt rq.data 4)) .noRight >>= fun _ =>
        .ok (({ s with ce := { s.ce with pool := writeRun Keyframe.blank s.ce.pool (leAt rq.data 2 2) keys } } : State)
          |>.popIntake o |>.done ⟨o, rq⟩ []))) := by
  rw [← require_require]
  exact takeRequest_takes (fun tk s => answer tk s (serveWriteKeys tk (writeKeysArgs tk.req.data) s)) h

theorem key?_isSome {d : List Byte} {i : Nat} : (key? (keyAt d i)).isSome = (ease? (byteAt d (i + 2))).isSome := by
  rw [key?, Option.isSome_map, keyAt]

theorem key?_eq_some {d : List Byte} {i : Nat} {k : Keyframe} : key? (keyAt d i) = some k ↔
    k.time = leAt d i 2 ∧ some k.ease = ease? (byteAt d (i + 2)) ∧ k.value = rgbAt d (i + 3) := by
  obtain ⟨time, ease, value⟩ := k
  cases he : ease? (byteAt d (i + 2)) with
  | none => simp [key?, keyAt, he]
  | some e => simp [key?, keyAt, he, eq_comm, and_left_comm]

/-- The keyframes of a request are found just when each has a known ease (R93). -/
theorem keysFound_iff {d : List Byte} (hlow : 1 ≤ byteAt d 4) (hhigh : byteAt d 4 ≤ 6) :
    (allFound ((writeKeysArgs d).keys.map key?)).isSome = true ↔
      ∀ k, k < byteAt d 4 → (ease? (byteAt d (7 + 9 * k))).isSome = true := by
  have hplace : ∀ k, 5 + 9 * k + 2 = 7 + 9 * k := fun k => by omega
  rw [writeKeysArgs_keys hlow hhigh, allFound_isSome]
  simp only [itemsAt, List.map_map, List.mem_map, List.mem_range, Function.comp_apply, forall_exists_index, and_imp,
    forall_apply_eq_imp_iff₂, key?_isSome, hplace]

theorem exec_writeKeys_badValue (h : Takes s o .writeKeys rq)
    (hbad : byteAt rq.data 4 = 0 ∨ 6 < byteAt rq.data 4 ∨ 1023 < leAt rq.data 2 2 ∨ 1024 < leAt rq.data 2 2 + byteAt rq.data 4 ∨
      ¬∀ k, k < byteAt rq.data 4 → (ease? (byteAt rq.data (7 + 9 * k))).isSome = true) :
    exec (.writeKeys o) s = .next (turnedAway s o rq .badValue) := by
  rw [exec_writeKeys h]
  cases hrun : (decide (byteAt rq.data 4 = 0 ∨ byteAt rq.data 4 > 6) ||
      !runInside (leAt rq.data 2 2) (byteAt rq.data 4) 1024) with
  | true => rw [require_true_bind, answer_error, refuse_popIntake]
  | false =>
    rw [← Bool.not_eq_true, runChecks_iff] at hrun
    have heases : ¬∀ k, k < byteAt rq.data 4 → (ease? (byteAt rq.data (7 + 9 * k))).isSome = true := by
      rcases hbad with hb | hb | hb | hb | hb
      · exact absurd (.inl hb) hrun
      · exact absurd (.inr (.inl hb)) hrun
      · exact absurd (.inr (.inr (.inl hb))) hrun
      · exact absurd (.inr (.inr (.inr hb))) hrun
      · exact hb
    rw [← keysFound_iff (by omega) (by omega), Option.not_isSome_iff_eq_none] at heases
    rw [require_false_bind, heases, found_none_bind, answer_error, refuse_popIntake]

section
variable {keys : List Keyframe} (h : Takes s o .writeKeys rq) (hlow : 1 ≤ byteAt rq.data 4) (hhigh : byteAt rq.data 4 ≤ 6)
  (hend : leAt rq.data 2 2 + byteAt rq.data 4 ≤ 1024) (hkeys : allFound ((writeKeysArgs rq.data).keys.map key?) = some keys)
include h hlow hhigh hend hkeys

theorem exec_writeKeys_noRight
    (hout : leAt rq.data 2 2 < (s.originRec o).keyFirst ∨ (s.originRec o).keyLast + 1 < leAt rq.data 2 2 + byteAt rq.data 4) :
    exec (.writeKeys o) s = .next (turnedAway s o rq .noRight) := by
  have hright : (!keysInRange (s.originRec o) (leAt rq.data 2 2) (byteAt rq.data 4)) = true := by
    rw [Bool.not_eq_true', ← Bool.not_eq_true, keysInRange_iff]
    omega
  rw [exec_writeKeys h, runChecks_pass hlow hhigh hend, require_false_bind, hkeys, found_some_bind, hright, require_true_bind,
    answer_error, refuse_popIntake]

/-- A WRITE_KEYS that passes writes the keyframes it carries (R93). -/
theorem exec_writeKeys_written (hfirst : (s.originRec o).keyFirst ≤ leAt rq.data 2 2)
    (hlast : leAt rq.data 2 2 + byteAt rq.data 4 ≤ (s.originRec o).keyLast + 1) :
    exec (.writeKeys o) s = .next (served
      { s with ce := { s.ce with pool := writeRun Keyframe.blank s.ce.pool (leAt rq.data 2 2) keys } }
      o rq .done false false []) := by
  have hright : (!keysInRange (s.originRec o) (leAt rq.data 2 2) (byteAt rq.data 4)) = false := by
    rw [Bool.not_eq_false', keysInRange_iff]
    exact ⟨hfirst, hlast⟩
  rw [exec_writeKeys h, runChecks_pass hlow hhigh hend, require_false_bind, hkeys, found_some_bind, hright, require_false_bind,
    answer_ok, done_popIntake]

end

/-- The run reads as the keyframes of the request, every other keyframe as before (R91, R93). -/
theorem readKey_written {m : Store Keyframe} (hm : Store.wf Keyframe.blank m = true) {d : List Byte} {keys : List Keyframe}
    (hlow : 1 ≤ byteAt d 4) (hhigh : byteAt d 4 ≤ 6) (hkeys : allFound ((writeKeysArgs d).keys.map key?) = some keys)
    (first i : Nat) :
    if first ≤ i ∧ i < first + byteAt d 4 then
      key? (keyAt d (5 + 9 * (i - first))) = some (readKey (writeRun Keyframe.blank m first keys) i)
    else readKey (writeRun Keyframe.blank m first keys) i = readKey m i := by
  rw [writeKeysArgs_keys hlow hhigh] at hkeys
  have hlength : keys.length = byteAt d 4 := by rw [allFound_length hkeys, List.length_map, itemsAt_length]
  rw [readKey, readStore_writeRun _ _ _ _ hm, hlength]
  by_cases hi : first ≤ i ∧ i < first + byteAt d 4
  · have hplace : (itemsAt d 5 9 (byteAt d 4) keyAt)[i - first]? = some (keyAt d (5 + 9 * (i - first))) :=
      itemsAt_getElem? (by omega)
    have hkey : (some (key? (keyAt d (5 + 9 * (i - first)))) : Option (Option Keyframe)) = keys[i - first]?.map some := by
      rw [← List.getElem?_map, ← allFound_eq_some.mp hkeys, List.getElem?_map, hplace, Option.map_some]
    rw [if_pos hi, if_pos hi, List.getD_eq_getElem?_getD]
    cases hk : keys[i - first]? with
    | none => rw [hk] at hkey; cases hkey
    | some k => rw [hk] at hkey; exact Option.some.inj hkey
  · rw [if_neg hi, if_neg hi, readKey]

end

/-- Settles O38: each write by its checks in turn; the run it writes is read back by the law of runs of writes. -/
theorem writeRequestsFillTheirRuns : Obligations.WriteRequestsFillTheirRuns := by
  rintro o s rq ⟨hpattern, -, hpool, -⟩
  refine ⟨fun h => ⟨exec_writePattern_badValue h, exec_writePattern_noRight h, fun hlow hhigh hend hfirst hlast =>
    ⟨_, exec_writePattern_written h hlow hhigh hend hfirst hlast, readPattern_written hpattern _ _ _⟩⟩, fun h => ?_⟩
  refine ⟨exec_writeKeys_badValue h, fun hlow hhigh hend heases hout => ?_, fun hlow hhigh hend heases hfirst hlast => ?_⟩
  all_goals obtain ⟨keys, hkeys⟩ := Option.isSome_iff_exists.mp ((keysFound_iff hlow hhigh).mpr heases)
  · exact exec_writeKeys_noRight h hlow hhigh hend hkeys hout
  · refine ⟨_, exec_writeKeys_written h hlow hhigh hend hkeys hfirst hlast, fun i => ?_⟩
    have hread := readKey_written hpool hlow hhigh hkeys (leAt rq.data 2 2) i
    split at hread
    · next hi =>
      rw [if_pos hi]
      have hspec := key?_eq_some.mp hread
      rwa [show 5 + 9 * (i - leAt rq.data 2 2) + 2 = 7 + 9 * (i - leAt rq.data 2 2) by omega,
        show 5 + 9 * (i - leAt rq.data 2 2) + 3 = 8 + 9 * (i - leAt rq.data 2 2) by omega] at hspec
    · next hi =>
      rw [if_neg hi]
      exact hread

end Sys2Proof.Machine

/-! PROOF. DEFINE_PATTERN and DELETE_PATTERN (R43, R45). -/

namespace Sys2Proof.Machine

section
variable {s : State} {o : Origin} {rq : Intake}

/-! ## DEFINE_PATTERN -/

theorem exec_definePattern (h : Takes s o .definePattern rq) : exec (.definePattern o) s =
    .next (answer ⟨o, rq⟩ (s.popIntake o) (serveDefinePattern ⟨o, rq⟩ (definePatternArgs rq.data) (s.popIntake o))) :=
  takeRequest_takes (fun tk s => answer tk s (serveDefinePattern tk (definePatternArgs tk.req.data) s)) h

theorem exec_definePattern_badValue (h : Takes s o .definePattern rq)
    (hbad : leAt rq.data 4 2 = 0 ∨ 256 < leAt rq.data 4 2 ∨ repeat? (byteAt rq.data 6) = none ∨ 4095 < leAt rq.data 2 2 ∨
      4096 < leAt rq.data 2 2 + leAt rq.data 4 2) : exec (.definePattern o) s = .next (turnedAway s o rq .badValue) := by
  have hserve : serveDefinePattern ⟨o, rq⟩ (definePatternArgs rq.data) (s.popIntake o) = .error .badValue := by
    unfold serveDefinePattern definePatternArgs
    cases hlength : decide (leAt rq.data 4 2 = 0 ∨ leAt rq.data 4 2 > 256) with
    | true => rfl
    | false =>
      rw [require_false_bind]
      cases hrep : repeat? (byteAt rq.data 6) with
      | none => rfl
      | some rep =>
        have hout : runInside (leAt rq.data 2 2) (leAt rq.data 4 2) 4096 = false := by
          rw [← Bool.not_eq_true, runInside_iff]
          have := of_decide_eq_false hlength
          simp only [hrep, reduceCtorEq, false_or] at hbad
          omega
        rw [found_some_bind, hout]
        rfl
  rw [exec_definePattern h, hserve, answer_error, refuse_popIntake]

/-- A DEFINE_PATTERN whose fields are in range is left to the checks of the requester's range and of a free slot (R43). -/
theorem exec_definePattern_checked (h : Takes s o .definePattern rq) {rep : Repeat}
    (hrep : repeat? (byteAt rq.data 6) = some rep) (hlow : 1 ≤ leAt rq.data 4 2) (hhigh : leAt rq.data 4 2 ≤ 256)
    (hend : leAt rq.data 2 2 + leAt rq.data 4 2 ≤ 4096) : exec (.definePattern o) s =
      .next (answer ⟨o, rq⟩ (s.popIntake o)
        (require (!entriesInRange (s.originRec o) (leAt rq.data 2 2) (leAt rq.data 4 2)) .noRight >>= fun _ =>
          found s.freeSlot? .noRoom >>= fun n =>
          .ok (((s.setSlot n (some ⟨o, leAt rq.data 2 2, leAt rq.data 4 2, rep⟩)).popIntake o).done ⟨o, rq⟩
            [oneByte n.val]))) := by
  have hlength : decide (leAt rq.data 4 2 = 0 ∨ leAt rq.data 4 2 > 256) = false := by
    rw [decide_eq_false_iff_not]
    omega
  have hinside : runInside (leAt rq.data 2 2) (leAt rq.data 4 2) 4096 = true := runInside_iff.mpr ⟨by omega, hend⟩
  rw [exec_definePattern h, serveDefinePattern, definePatternArgs, hlength, require_false_bind, hrep, found_some_bind, hinside]
  rfl

theorem freeSlot?_of_lowest {n : SlotNo} (hn : s.ss.slots[n] = none)
    (hlow : ∀ m : SlotNo, m < n → s.ss.slots[m].isSome = true) :
    s.freeSlot? = some n := by
  refine find_finRange_eq_some.mpr ⟨by rw [hn]; rfl, fun m hm => ?_⟩
  rw [Option.isNone_eq_false_iff]
  exact hlow m hm

theorem freeSlot?_none (h : ∀ n : SlotNo, s.ss.slots[n].isSome = true) : s.freeSlot? = none := by
  refine List.find?_eq_none.mpr fun n _ => ?_
  rw [Bool.not_eq_true, Option.isNone_eq_false_iff]
  exact h n

/-! ## DELETE_PATTERN -/

theorem exec_deletePattern (h : Takes s o .deletePattern rq) : exec (.deletePattern o) s =
    .next (answer ⟨o, rq⟩ (s.popIntake o) (serveDeletePattern ⟨o, rq⟩ (byteAt rq.data 2) (s.popIntake o))) :=
  takeRequest_takes (fun tk s => answer tk s (serveDeletePattern tk (byteAt tk.req.data 2) s)) h

/-- A DELETE_PATTERN of a slot number is left to the checks of a defined slot and of its owner (R45). -/
theorem exec_deletePattern_checked (h : Takes s o .deletePattern rq) {n : SlotNo} (hn : byteAt rq.data 2 = n.val) :
    exec (.deletePattern o) s = .next (answer ⟨o, rq⟩ (s.popIntake o)
      (found s.ss.slots[n] .notFound >>= fun x => require (x.owner ≠ o) .notOwner >>= fun _ =>
        .ok (((s.deleteSlot n).popIntake o).done ⟨o, rq⟩ []))) := by
  rw [exec_deletePattern h, serveDeletePattern, hn, fin?_val, found_some_bind]
  rfl

end

/-- Settles O39: each request by its checks in turn; a deleted slot's marks are `detachFrom` at every layer. -/
theorem patternSlotsAreDefinedAndDeleted : Obligations.PatternSlotsAreDefinedAndDeleted := by
  intro o s rq
  refine ⟨fun h => ⟨exec_definePattern_badValue h, fun rep hrep hlow hhigh hend => ?_⟩, fun h =>
    ⟨fun hout => ?_, fun n hn => ?_⟩⟩
  · rw [exec_definePattern_checked h hrep hlow hhigh hend]
    refine ⟨fun hout => ?_, fun hfirst hlast => ⟨fun hfull => ?_, fun n hn hlowest => ?_⟩⟩
    · have hright : entriesInRange (s.originRec o) (leAt rq.data 2 2) (leAt rq.data 4 2) = false := by
        rw [← Bool.not_eq_true, entriesInRange_iff]
        omega
      rw [hright, Bool.not_false, require_true_bind, answer_error, refuse_popIntake]
    all_goals rw [entriesInRange_iff.mpr ⟨hfirst, hlast⟩, Bool.not_true, require_false_bind]
    · rw [freeSlot?_none hfull, found_none_bind, answer_error, refuse_popIntake]
    · rw [freeSlot?_of_lowest hn hlowest, found_some_bind, answer_ok, done_popIntake, State.setSlot]
  · rw [exec_deletePattern h, serveDeletePattern, fin?_ge (by omega), found_none_bind, answer_error, refuse_popIntake]
  · rw [exec_deletePattern_checked h hn]
    refine ⟨fun hnone => ?_, fun x hx => ⟨fun hown => ?_, fun hown => ?_⟩⟩
    · rw [hnone, found_none_bind, answer_error, refuse_popIntake]
    all_goals rw [hx, found_some_bind]
    · rw [decide_eq_true hown, require_true_bind, answer_error, refuse_popIntake]
    · rw [decide_eq_false (not_not.mpr hown), require_false_bind, answer_ok, done_popIntake]
      exact ⟨mapAt s.lt.layers fun _ l => detachFrom n l, rfl, fun i => mapAt_get ..⟩

end Sys2Proof.Machine

/-! PROOF. STREAM_FRAME (R49, R50), and STREAM_STALE at the frame start that is due (R52). -/

namespace Sys2Proof.Machine

/-! ## STREAM_FRAME -/

section
variable {s : State} {o : Origin} {rq : Intake}

theorem exec_streamFrame (h : Takes s o .streamFrame rq) : exec (.streamFrame o) s =
    .next (serveStreamFrame ⟨o, rq⟩ (streamFrameArgs rq.data) (s.popIntake o)) :=
  takeRequest_takes (fun tk s => serveStreamFrame tk (streamFrameArgs tk.req.data) s) h

theorem showsLater_iff {q : StreamQueue} {shows : Time} : showsLater q shows = true ↔
    (∀ f, q.current = some f → 0 < (shows - f.show').toInt) ∧ ∀ f ∈ q.pending, 0 < (shows - f.show').toInt := by
  have hlater : ∀ f : StreamFrame, timeLater shows f.show' = true ↔ 0 < (shows - f.show').toInt := fun f => decide_eq_true_iff
  rw [showsLater, Bool.and_eq_true, List.all_eq_true]
  simp only [hlater]
  refine and_congr_left fun _ => ?_
  cases q.current with
  | none => simp
  | some f => simp [hlater]

theorem countIn_eq_zero {lo hi n : Nat} (hlo : 1 ≤ lo) : countIn lo hi n = 0 ↔ ¬(lo ≤ n ∧ n ≤ hi) := by
  unfold countIn
  split <;> omega

/-- What a frame for the queue `q` of layer `i` must meet to be accepted (R49). -/
def StreamAccepts (s : State) (o : Origin) (rq : Intake) (i : LayerNo) (q : QueueNo) : Prop :=
  s.lt.layers[i].state ≠ .free ∧ s.lt.layers[i].owner = some o ∧ 1 ≤ byteAt rq.data 9 ∧ byteAt rq.data 9 ≤ 16 ∧
    (BitVec.ofNat 48 (leAt rq.data 3 6) - rq.stamp).toInt ≤ 2000000 ∧
    (∀ f, s.ss.queues[q].current = some f → 0 < (BitVec.ofNat 48 (leAt rq.data 3 6) - f.show').toInt) ∧
    ∀ f ∈ s.ss.queues[q].pending, 0 < (BitVec.ofNat 48 (leAt rq.data 3 6) - f.show').toInt

/-- A frame for a layer with a queue is accepted into that queue or discarded (R49). -/
theorem streamQueueFor_bound {i : LayerNo} {q : QueueNo} (hrun : Running s) (hi : byteAt rq.data 2 = i.val)
    (hq : s.heldQueue i = some q) :
    (StreamAccepts s o rq i q → (s.popIntake o).streamQueueFor ⟨o, rq⟩ (streamFrameArgs rq.data) = some q) ∧
    (¬StreamAccepts s o rq i q → (s.popIntake o).streamQueueFor ⟨o, rq⟩ (streamFrameArgs rq.data) = none) := by
  have hset := popIntake_inSetup hrun o
  have hheld : (s.popIntake o).heldQueue i = some q := hq
  have hlayer : (s.popIntake o).lt.layers[i] = s.lt.layers[i] := rfl
  have hqueue : (s.popIntake o).ss.queues[q] = s.ss.queues[q] := rfl
  simp only [State.streamQueueFor, streamFrameArgs, hi, fin?_val, hheld, hset, hlayer, hqueue, Bool.false_or,
    Bool.or_eq_true, beq_iff_eq, bne_iff_ne, decide_eq_true_eq, Bool.not_eq_true', ← Bool.not_eq_true, showsLater_iff,
    countIn_eq_zero (Nat.le_refl 1), timeDiff]
  refine ⟨fun ⟨hfree, hown, hlow, hhigh, hnear, hcur, hpend⟩ => if_neg ?_, fun hno => if_pos ?_⟩
  · rintro ((((h | h) | h) | h) | h)
    · exact hfree h
    · exact h hown
    · exact h ⟨hlow, hhigh⟩
    · exact absurd hnear (by omega)
    · exact h ⟨hcur, hpend⟩
  · by_contra hall
    simp only [not_or, not_not, not_lt, gt_iff_lt] at hall
    obtain ⟨⟨⟨⟨hfree, hown⟩, hlow, hhigh⟩, hnear⟩, hcur, hpend⟩ := hall
    exact hno ⟨hfree, hown, hlow, hhigh, hnear, hcur, hpend⟩

theorem exec_streamFrame_discarded (h : Takes s o .streamFrame rq)
    (hnone : (s.popIntake o).streamQueueFor ⟨o, rq⟩ (streamFrameArgs rq.data) = none) :
    exec (.streamFrame o) s = .next (s.popIntake o) := by
  rw [exec_streamFrame h, serveStreamFrame, hnone]

/-- An accepted frame joins its queue last, and nothing else changes (R50). -/
theorem exec_streamFrame_accepted (h : Takes s o .streamFrame rq) {q : QueueNo}
    (hq : (s.popIntake o).streamQueueFor ⟨o, rq⟩ (streamFrameArgs rq.data) = some q) :
    exec (.streamFrame o) s = .next ((s.popIntake o).setQueue q (acceptFrame s.ss.queues[q]
      ⟨BitVec.ofNat 48 (leAt rq.data 3 6), (streamFrameArgs rq.data).entries⟩ s.sc.local')) := by
  rw [exec_streamFrame h, serveStreamFrame, hq]
  rfl

theorem acceptFrame_eq (q : StreamQueue) (f : StreamFrame) (now : Time) : acceptFrame q f now =
    { q with pending := (if q.pending.length < 4 then q.pending else q.pending.tail) ++ [f], last := some now } := by
  unfold acceptFrame
  by_cases hlen : q.pending.length < 4
  · rw [if_pos hlen, if_neg (by omega)]
  · rw [if_neg hlen, if_pos (by omega)]

/-- The entries of a frame of 1 to 16 (11.7). -/
theorem streamFrameArgs_entries {d : List Byte} (hlow : 1 ≤ byteAt d 9) (hhigh : byteAt d 9 ≤ 16) :
    (streamFrameArgs d).entries.length = byteAt d 9 ∧ ∀ k, k < byteAt d 9 → (streamFrameArgs d).entries[k]? =
      some ⟨byteAt d (10 + 3 * k), byteAt d (11 + 3 * k), byteAt d (12 + 3 * k)⟩ := by
  rw [streamFrameArgs, countIn_of_mem hlow hhigh]
  refine ⟨itemsAt_length .., fun k hk => ?_⟩
  rw [itemsAt_getElem? hk, codeRgbAt, show 10 + 3 * k + 1 = 11 + 3 * k by omega, show 10 + 3 * k + 2 = 12 + 3 * k by omega]

/-- A frame for a layer that holds no queue has no queue to join (R49). -/
theorem streamQueueFor_unbound (hno : ∀ (i : LayerNo) (q : QueueNo), byteAt rq.data 2 = i.val → s.ss.queues[q].bound ≠ some i) :
    (s.popIntake o).streamQueueFor ⟨o, rq⟩ (streamFrameArgs rq.data) = none := by
  rw [State.streamQueueFor, streamFrameArgs]
  dsimp only
  cases hi : fin? 16 (byteAt rq.data 2) with
  | none => rfl
  | some i =>
    have hbyte : byteAt rq.data 2 = i.val := by
      obtain ⟨hlt, rfl⟩ : ∃ hlt : byteAt rq.data 2 < 16, (⟨byteAt rq.data 2, hlt⟩ : LayerNo) = i := by
        simpa [fin?] using hi
      rfl
    have hheld : (s.popIntake o).heldQueue i = none := heldQueue_eq_none fun q => hno i q hbyte
    dsimp only
    rw [hheld]

end

/-! ## What a frame start leaves of STREAM sources -/

/-- The queue and the maximum age of a STREAM source. -/
def streamOf : Source → Option (QueueNo × Nat)
  | .stream q age => some (q, age)
  | _ => none

theorem streamOf_eq_some {src : Source} {q : QueueNo} {age : Nat} : streamOf src = some (q, age) ↔ src = .stream q age := by
  cases src <;> simp [streamOf]

/-- The live sources that are STREAM are the same at every layer. -/
def SameStreams (s t : State) : Prop :=
  ∀ i : LayerNo, streamOf t.lt.layers[i].ed.source = streamOf s.lt.layers[i].ed.source

theorem SameStreams.refl (s : State) : SameStreams s s := fun _ => rfl

theorem SameStreams.trans {s t u : State} (h : SameStreams s t) (g : SameStreams t u) : SameStreams s u :=
  fun i => (g i).trans (h i)

theorem SameStreams.of_parts {s t : State} (h : layerParts t = layerParts s) : SameStreams s t := fun i => by
  rw [(layerParts_eq_iff.mp h).1]

theorem SameStreams.setLayer {s : State} {i : LayerNo} {l : Layer}
    (h : streamOf l.ed.source = streamOf s.lt.layers[i].ed.source) : SameStreams s (s.setLayer i l) := by
  intro j
  rw [setLayer_layers, setAt_get]
  split
  · next hj => rw [h, hj]
  · rfl

theorem putValue_streamOf (ed : Editable) (tgt : Target) (v : Triple) :
    streamOf (putValue ed tgt v).source = streamOf ed.source := by
  cases tgt with
  | colour => cases h : ed.source <;> simp [putValue, h, streamOf]
  | level | offset | opacity => rfl

theorem heldFields_streamOf (s : State) (cue : Cue) (ed : Editable) :
    streamOf (s.heldFields cue ed).source = streamOf ed.source := by
  unfold State.heldFields
  induction s.soundTracks cue generalizing ed with
  | nil => rfl
  | cons tr rest ih => rw [List.foldl_cons, ih, putValue_streamOf]

theorem endedLayer_streamOf (s : State) (cue : Cue) (l : Layer) :
    streamOf (s.endedLayer cue l).ed.source = streamOf l.ed.source := by
  rw [endedLayer_eq]
  split
  · rfl
  · cases cue.ending with
    | hold => exact heldFields_streamOf ..
    | restore => rfl
    | hide => rfl

theorem endIfDue_streams (s : State) (tf : Time) (c : CueNo) : SameStreams s (s.endIfDue tf c) := by
  unfold State.endIfDue
  split
  · exact .refl s
  · split
    · exact .of_parts (endCue_parts ..)
    · split
      · exact (SameStreams.setLayer (endedLayer_streamOf ..)).trans (.of_parts (endCue_parts ..))
      · exact .refl s

theorem cueEnds_streams (s : State) (tf : Time) : SameStreams s (s.cueEnds tf) :=
  foldl_related SameStreams.refl SameStreams.trans (fun u c => endIfDue_streams u tf c) _ s

theorem startCueAt_streams (s : State) (tf : Time) (c : CueNo) (cue : Cue) (start : Time) :
    SameStreams s (s.startCueAt tf c cue start) := by
  have key : ∀ u : State, layerParts u = layerParts s → SameStreams s
      (if cue.autoShow = true then u.setLayer cue.layer { u.lt.layers[cue.layer] with state := .shown } else u) := by
    intro u hu
    split
    · exact (SameStreams.of_parts hu).trans (.setLayer rfl)
    · exact .of_parts hu
  unfold State.startCueAt
  dsimp only
  apply key
  split
  · exact (notify_parts ..).trans (setCue_parts ..)
  · exact setCue_parts ..

theorem resolve_streams (s : State) (tf : Time) (e : StartEntry) : SameStreams s (s.resolve tf e) := by
  unfold State.resolve
  split
  · exact .refl s
  · dsimp only
    split
    · exact .of_parts (endCue_parts ..)
    · exact (SameStreams.of_parts (endCuesWhere_parts ..)).trans (startCueAt_streams _ tf e.cue _ e.start)

theorem dueStarts_streams (s : State) (tf : Time) : SameStreams s (s.dueStarts tf) :=
  (SameStreams.of_parts (setStartQueue_parts s (s.ce.queue.filter fun e => !startDue tf e))).trans
    (foldl_related SameStreams.refl SameStreams.trans (fun u e => resolve_streams u tf e) _ _)

theorem framed_streams (s : State) (tf : Time) : SameStreams s (framed s tf) := by
  intro i
  rw [framed_layer, steppedLayer]
  split <;> rfl

section
variable (s : State) (tf : Time)

/-- The state that a frame start has once its due starts and its ends of cues are done. -/
def afterCues : State := ((s.raiseFrame tf).applyGates.dueStarts tf).cueEnds tf

/-- Between its gates and its streams a frame start leaves the queues, the clocks and the STREAM sources (R88). -/
theorem afterCues_spec : (afterCues s tf).ss.queues = s.applyGates.ss.queues ∧ (afterCues s tf).sc.local' = s.sc.local' ∧
    SameStreams s.applyGates (afterCues s tf) := by
  have hends := CueFrame.cueEnds ((s.raiseFrame tf).applyGates.dueStarts tf) tf
  have hstarts := CueFrame.dueStarts (s.raiseFrame tf).applyGates tf
  have hstreams := (dueStarts_streams (s.raiseFrame tf).applyGates tf).trans (cueEnds_streams _ tf)
  change CueFrame _ (afterCues s tf) at hends
  change SameStreams _ (afterCues s tf) at hstreams
  refine ⟨by rw [hends.rest.1, hstarts.rest.1]; rfl, ?_, hstreams⟩
  unfold CueFrame at hends hstarts
  rw [hends, hstarts]
  rfl

theorem frameStart_queue (q : QueueNo) : (s.frameStart tf).ss.queues[q] = (framed (afterCues s tf) tf).ss.queues[q] := by
  rw [frameStart_framed]
  rfl

theorem frameStart_streams : SameStreams s.applyGates (s.frameStart tf) := by
  rw [frameStart_framed]
  have hframed : SameStreams (framed (afterCues s tf) tf) ((framed (afterCues s tf) tf).beginCompose tf) := fun _ => rfl
  exact ((afterCues_spec s tf).2.2.trans (framed_streams _ tf)).trans hframed

/-- The row's judgement is that of the frame start whole (R52). -/
theorem staleAt_iff (q : QueueNo) : s.staleAt tf q = true ↔
    ∃ i, (s.frameStart tf).ss.queues[q].bound = some i ∧ ((s.frameStart tf).ss.queues[q].current = none ∨
      ∃ last p age, (s.frameStart tf).ss.queues[q].last = some last ∧
        (s.frameStart tf).lt.layers[i].ed.source = .stream p age ∧ age * 1000 < (s.sc.local' - last).toNat) := by
  have hqueue : (s.applyGates.promote tf).ss.queues[q] = promoteQueue tf s.applyGates.ss.queues[q] := mapAt_get ..
  have hlayers : (s.applyGates.promote tf).lt.layers = s.applyGates.lt.layers := rfl
  have hlocal : (s.applyGates.promote tf).sc.local' = s.sc.local' := rfl
  obtain ⟨hqueues, -, -⟩ := afterCues_spec s tf
  rw [State.staleAt, hqueue, hlayers, hlocal, isStale_iff, frameStart_queue, framed_queue, hqueues]
  simp only [← streamOf_eq_some, frameStart_streams s tf _]

end

/-! ## STREAM_STALE -/

section
variable {s : State} {q : QueueNo}

theorem exec_streamStale_waits (h : ∀ tf, ¬FrameDue s tf) : exec (.streamStale q) s = .next s := by
  change execStreamStale q s = _
  rw [execStreamStale]
  split
  · rfl
  · rw [frameDue_not h, Bool.false_and, liveWhen_false]

theorem exec_streamStale_due {tf : Time} (hr : s.ps.resetHeld = false) (h : FrameDue s tf) : exec (.streamStale q) s =
    .next (if s.staleAt tf q = true then s.setQueue q { s.ss.queues[q] with stale := true } else s) := by
  change execStreamStale q s = _
  rw [execStreamStale, h.1]
  dsimp only
  rw [frameDue_of h, Bool.true_and]
  cases s.staleAt tf q with
  | false => exact liveWhen_false ..
  | true => exact liveWhen_true _ hr

end

/-- Settles O48: a frame by the queue it is for and what it must meet; the stale row by the frame start's own judgement. -/
theorem streamFramesAreJudged : Obligations.StreamFramesAreJudged := by
  refine ⟨fun o s rq i q h hrun hstreams hi hb => ?_, fun o s rq h hno => ?_, fun s q hr =>
    ⟨exec_streamStale_waits, fun tf hd => ?_⟩⟩
  · obtain ⟨haccept, hdiscard⟩ := streamQueueFor_bound (o := o) hrun hi (hstreams.heldQueue_iff.mpr hb)
    refine ⟨fun hbad => exec_streamFrame_discarded h (hdiscard hbad), fun hgood => ?_⟩
    have ⟨_, _, hlow, hhigh, _⟩ := hgood
    obtain ⟨hlength, hentries⟩ := streamFrameArgs_entries hlow hhigh
    refine ⟨⟨_, (streamFrameArgs rq.data).entries⟩, rfl, hlength, hentries, ?_⟩
    rw [exec_streamFrame_accepted h (haccept hgood), acceptFrame_eq]
    rfl
  · exact exec_streamFrame_discarded h (streamQueueFor_unbound hno)
  · intro t x stale
    have hiff : s.staleAt tf q = true ↔ stale := by
      unfold stale x t
      rw [staleAt_iff s tf q]
    rw [exec_streamStale_due hr hd]
    exact ⟨fun hstale => by rw [if_pos (hiff.mpr hstale)], fun hfresh => by rw [if_neg fun h => hfresh (hiff.mp h)]⟩

end Sys2Proof.Machine

/-! PROOF. Power-on, the RESET pin and RESTART, and what a reset leaves in each record (R162, R163, R187, R193). -/

namespace Sys2Proof.Machine

/-! ## The records after a reset -/

theorem replicate_get {α : Type} {n : Nat} (x : α) (i : Fin n) : (Vector.replicate n x)[i] = x := by
  rw [Fin.getElem_fin, Vector.getElem_replicate]

section
variable (strap : Fin 8) (raw : LineNo → Bool) (pending : List Instr) (n : Nat)

theorem fresh_port (o : Origin) : (State.fresh strap raw pending n).port o = Port.fresh := replicate_get ..

theorem fresh_gate (o : Origin) : (State.fresh strap raw pending n).gate o = .opened := replicate_get ..

theorem fresh_line (k : LineNo) : (State.fresh strap raw pending n).tu.lines[k] = Line.fresh (raw k) := tabulate_get ..

/-- R135: the default records, each origin's keyframe and pattern ranges a quarter of the buffers. -/
theorem fresh_originRec (o : Origin) : (State.fresh strap raw pending n).originRec o =
    ⟨(match o with | .body => 3 | .media => 2 | .assist => 4 | .service => 5),
      (match o with | .body => 2 | .media => 0 | .assist => 2 | .service => 0), 16, OriginRec.windowsFresh,
      256 * o.idx.val, 256 * o.idx.val + 255, 1024 * o.idx.val, 1024 * o.idx.val + 1023⟩ := by
  cases o <;> rfl

theorem windowsFresh_disabled (k : Fin 4) (h : k ≠ 0) : OriginRec.windowsFresh[k] = ⟨false, 0, 0⟩ := by
  match k with
  | 0 => exact absurd rfl h
  | 1 | 2 | 3 => rfl

theorem fresh_writer (f : FlagNo) : (State.fresh strap raw pending n).tu.writers[f] =
    if f.val ≤ 15 then .origin .body else if f.val ≤ 23 then .origin .assist else .origin .media := by
  have hwriter : (State.fresh strap raw pending n).tu.writers[f] = Writer.fresh f := tabulate_get ..
  simp only [hwriter, Writer.fresh, Nat.lt_succ_iff]

end

/-! ## The pin asserted -/

/-- Abandoning what both channels send leaves every frame waiting (R175, R187). -/
theorem abandonOn_both (tx : List TxFrame) :
    abandonOn .cb (abandonOn .ca tx) = tx.map fun f => { f with sendingOn := none } := by
  rw [abandonOn, abandonOn, List.map_map]
  refine List.map_congr_left fun f _ => ?_
  obtain ⟨bytes, bound, sendingOn⟩ := f
  cases sendingOn with
  | none => rfl
  | some ch => cases ch <;> rfl

theorem abandonWork_port (s : State) (o : Origin) : s.abandonWork.zeroClocks.holdReset.port o =
    { s.port o with tx := (s.port o).tx.map fun f => { f with sendingOn := none } } := by
  have hports : s.abandonWork.zeroClocks.holdReset.port o =
      (mapAt (mapAt s.mp.ports fun _ p => { p with tx := abandonOn .ca p.tx }) fun _ p =>
        { p with tx := abandonOn .cb p.tx })[o.idx] := rfl
  rw [hports, mapAt_get, mapAt_get]
  dsimp only
  rw [abandonOn_both]
  rfl

theorem exec_resetPinAssert {s : State} (hr : s.ps.resetHeld = false) :
    exec .resetPinAssert s = .next s.abandonWork.zeroClocks.holdReset := live_free _ hr

/-! ## RESTART -/

section
variable {s : State} {o : Origin} {rq : Intake}

theorem exec_restart (h : Takes s o .restart rq) : exec (.restart o) s =
    .next (answer ⟨o, rq⟩ (s.popIntake o) (serveRestart ⟨o, rq⟩ (s.popIntake o))) :=
  takeRequest_takes (fun tk s => answer tk s (serveRestart tk s)) h

theorem exec_restart_noRight (h : Takes s o .restart rq) (ho : o ≠ .service) :
    exec (.restart o) s = .next (turnedAway s o rq .noRight) := by
  rw [exec_restart h, serveRestart, decide_eq_true ho]
  exact congrArg _ (refuse_popIntake ..)

theorem exec_restart_service (h : Takes s .service .restart rq) :
    exec (.restart .service) s = .next (s.restarted.done ⟨.service, rq⟩ []) := by
  rw [exec_restart h]
  rfl

/-- The health map after a RESTART: every record without its queried mark (R163). -/
theorem unqueried_all {health : Vector Health 384}
    (hh : ∀ lam : LampNo, health[lam] = { s.lc.health[lam] with queried := false }) :
    unqueried (fun _ => true) s.lc.health = health :=
  vec_ext fun lam => by rw [unqueried, mapAt_get, hh, if_pos rfl]

/-- The reply enters a port that a reset has emptied (R180, R193). -/
theorem restarted_done : s.restarted.done ⟨.service, rq⟩ [] = s.restarted.setPort .service { Port.fresh with
    tx := [⟨[oneByte (byteAt rq.data 0), oneByte (byteAt rq.data 1), 0, 0], some rq.chan, none⟩] } := by
  have hport : s.restarted.port .service = Port.fresh :=
    fresh_port s.mp.strap s.rawLevels s.pending s.freeCount .service
  unfold State.done State.reply
  dsimp only
  rw [hport]
  rfl

end

/-- Settles O57: each reset by the block values it takes, record by record. -/
theorem resetsStartThePartAfresh : Obligations.ResetsStartThePartAfresh := by
  refine ⟨fun strap raw s => ⟨_, rfl, rfl, rfl, rfl, fun k => ?_⟩, fun strap s => rfl, fun strap raw pending n => ?_,
    fun s hr => ⟨_, exec_resetPinAssert hr, rfl, fun l => mapAt_get .., abandonWork_port s⟩, fun o s rq h => ?_⟩
  · rw [fresh_line]
    exact ⟨rfl, rfl⟩
  · refine ⟨rfl, rfl, rfl, fun o => ⟨fresh_port .., fresh_gate ..⟩, rfl, rfl, rfl,
      fun z => ⟨replicate_get .., replicate_get ..⟩, fun o => ?_, fresh_writer strap raw pending n,
      fun k => replicate_get .., rfl, fun b => replicate_get .., rfl, fun q => replicate_get .., fun w => replicate_get ..,
      fresh_line strap raw pending n, rfl, fun i => replicate_get .., rfl, rfl, rfl, fun i => replicate_get ..,
      fun c => replicate_get .., fun i => replicate_get ..,
      fun l => ⟨replicate_get .., replicate_get .., replicate_get ..⟩,
      fun lam => ⟨replicate_get .., replicate_get ..⟩, rfl, rfl, rfl⟩
    rw [fresh_originRec]
    exact ⟨rfl, rfl, rfl, rfl, windowsFresh_disabled, rfl, rfl, rfl, rfl⟩
  · refine ⟨exec_restart_noRight h, ?_⟩
    rintro rfl health hh f
    have hport : f.port .service = Port.fresh := fresh_port ..
    rw [exec_restart_service h, restarted_done, State.restarted, unqueried_all hh, hport]
    rfl

end Sys2Proof.Machine

/-! PROOF. Sources sampled, levelled and blended at one lamp (R44, R60 to R65). -/

namespace Sys2Proof.Machine

/-! ## Blends (R65) -/

/-- The multiplier of a TINT is 16-bit. -/
theorem tintFactor_le {a cs : Nat} (ha : a ≤ 65535) (hcs : cs ≤ 65535) :
    (cs * a + 65535 * (65535 - a) + 32767) / 65535 ≤ 65535 := by
  have hmix : cs * a ≤ 65535 * a := Nat.mul_le_mul_right a hcs
  omega

/-- A 16-bit multiplier brings a channel down or leaves it. -/
theorem scaled_le {x k : Nat} (hk : k ≤ 65535) : x * k / 65535 ≤ x :=
  Nat.div_le_of_le_mul (by rw [Nat.mul_comm 65535]; exact Nat.mul_le_mul_left x hk)

theorem blendChannel_tint_le {a cs : Nat} (ha : a ≤ 65535) (hcs : cs ≤ 65535) (acc : Nat) :
    blendChannel .tint a cs acc ≤ acc := scaled_le (tintFactor_le ha hcs)

theorem blendChannel_le (b : Blend) {a cs acc : Nat} (ha : a ≤ 65535) (hcs : cs ≤ 65535) (hacc : acc ≤ 65535) :
    blendChannel b a cs acc ≤ 65535 := by
  cases b with
  | replace =>
    have hsource : cs * a ≤ 65535 * a := Nat.mul_le_mul_right a hcs
    have hbeneath : acc * (65535 - a) ≤ 65535 * (65535 - a) := Nat.mul_le_mul_right _ hacc
    simp only [blendChannel]
    omega
  | add => exact Nat.min_le_left ..
  | max =>
    have hscaled : cs * a / 65535 ≤ cs := scaled_le ha
    rw [blendChannel]
    exact Nat.max_le.mpr ⟨hacc, hscaled.trans hcs⟩
  | tint => exact (blendChannel_tint_le ha hcs acc).trans hacc

/-- At full alpha a blend does just what its name says (R65). -/
theorem blendChannel_full (cs acc : Nat) :
    blendChannel .replace 65535 cs acc = cs ∧ blendChannel .add 65535 cs acc = min 65535 (acc + cs) ∧
      blendChannel .max 65535 cs acc = max acc cs ∧ blendChannel .tint 65535 cs acc = acc * cs / 65535 := by
  have hdiv : cs * 65535 / 65535 = cs := Nat.mul_div_cancel cs (by omega)
  have hround : (cs * 65535 + 32767) / 65535 = cs := by
    rw [Nat.mul_comm, Nat.mul_add_div (by omega)]
    rfl
  simp only [blendChannel, Nat.sub_self, Nat.mul_zero, Nat.add_zero, hdiv, hround, and_self]

/-! ## Pattern slots (R44, R61) -/

section
variable {mem : Store PatEntry} {sl : Slot} {i : Int}

theorem slotEntry_inside {j : Nat} (hj : j < sl.length) (hi : i = j) : slotEntry mem sl i = readPattern mem (sl.first + j) := by
  subst hi
  unfold slotEntry
  cases sl.rep with
  | wrap =>
    have hmod : (j : Int) % sl.length = j := Int.emod_eq_of_lt (by omega) (by omega)
    simp only [hmod, Int.toNat_natCast]
  | edge =>
    have hnear : (min (sl.length - 1 : Int) (max 0 (j : Int))).toNat = j := by omega
    simp only [hnear]
  | clip =>
    have hin : (0 : Int) ≤ j ∧ (j : Int) < sl.length := by omega
    simp only [if_pos hin, Int.toNat_natCast]

theorem slotEntry_wrap (hrep : sl.rep = .wrap) {j : Nat} {k : Int} (hj : j < sl.length) (hi : i = j + k * sl.length) :
    slotEntry mem sl i = readPattern mem (sl.first + j) := by
  have hmod : i % sl.length = j := by
    rw [hi, Int.add_mul_emod_self_right]
    exact Int.emod_eq_of_lt (by omega) (by omega)
  rw [slotEntry, hrep]
  simp only [hmod, Int.toNat_natCast]

theorem slotEntry_edge_below (hrep : sl.rep = .edge) (hi : i < 0) :
    slotEntry mem sl i = readPattern mem sl.first := by
  have hnear : (min (sl.length - 1 : Int) (max 0 i)).toNat = 0 := by omega
  rw [slotEntry, hrep]
  simp only [hnear, Nat.add_zero]

theorem slotEntry_edge_above (hlen : 1 ≤ sl.length) (hrep : sl.rep = .edge) (hi : (sl.length : Int) ≤ i) :
    slotEntry mem sl i = readPattern mem (sl.first + sl.length - 1) := by
  have hnear : sl.first + (min (sl.length - 1 : Int) (max 0 i)).toNat = sl.first + sl.length - 1 := by omega
  rw [slotEntry, hrep]
  simp only [hnear]

theorem slotEntry_clip (hrep : sl.rep = .clip) (hi : i < 0 ∨ (sl.length : Int) ≤ i) :
    slotEntry mem sl i = ⟨⟨0, 0, 0⟩, 0⟩ := by
  rw [slotEntry, hrep]
  exact if_neg (by omega)

end

/-- A coordinate of `i` whole lamps and `f` sixteenths mixes entries `i` and `i + 1` (R61). -/
theorem samplePattern_at (mem : Store PatEntry) (sl : Slot) (i : Int) {f : Nat} (hf : f < 16) :
    samplePattern mem sl (16 * i + f) = mixEntries (slotEntry mem sl i) (slotEntry mem sl (i + 1)) f := by
  have hplace : (16 * i + f) / 16 = i := by omega
  have hsixteenths : (16 * i + f - 16 * i).toNat = f := by omega
  rw [samplePattern, hplace, hsixteenths]

section
variable {zones : Vector (Option Zone) 32} {ed : Editable} {z : ZoneNo}

theorem ringWraps_iff : ringWraps zones ed z = true ↔ ed.span = .each ∧ ∃ x, zones[z] = some x ∧ x.kind = .ring := by
  rw [ringWraps, Bool.and_eq_true, beq_iff_eq, Option.any_eq_true]
  simp only [beq_iff_eq]

theorem patternCoord_line (h : ¬(ed.span = .each ∧ ∃ x, zones[z] = some x ∧ x.kind = .ring)) (p : Nat) :
    patternCoord zones ed z p = 16 * p - ed.offset := by
  rw [patternCoord]
  exact if_neg fun hw => h (ringWraps_iff.mp hw)

/-- On a RING an EACH layer's coordinate is the remainder modulo its length (R61). -/
theorem patternCoord_ring (h : ed.span = .each ∧ ∃ x, zones[z] = some x ∧ x.kind = .ring)
    (hlen : (0 : Int) < 16 * lengthOf zones z) (p : Nat) :
    0 ≤ patternCoord zones ed z p ∧ patternCoord zones ed z p < 16 * lengthOf zones z ∧
      ∃ k : Int, patternCoord zones ed z p = 16 * p - ed.offset + k * (16 * lengthOf zones z) := by
  have hcoord : patternCoord zones ed z p = (16 * p - ed.offset) % (16 * lengthOf zones z) := by
    rw [patternCoord, ringWraps_iff.mpr h]
    simp only [if_true, Nat.cast_mul, Nat.cast_ofNat]
  rw [hcoord]
  refine ⟨Int.emod_nonneg _ (by omega), Int.emod_lt_of_pos _ hlen, -((16 * p - ed.offset) / (16 * lengthOf zones z)), ?_⟩
  have hdivision := Int.emod_add_mul_ediv (16 * p - ed.offset) (16 * lengthOf zones z)
  linarith

end

/-! ## Streams, levels, alpha (R62, R63, R64) -/

/-- A place on a line falls in one entry of a frame (R62). -/
theorem sampleStream_at (f : StreamFrame) {p n : Nat} (hp : p < n) (hf : f.entries ≠ []) :
    ∃ e, f.entries[p * f.entries.length / n]? = some e ∧
      sampleStream f p n = ⟨decodeCode e.r, decodeCode e.g, decodeCode e.b⟩ := by
  have hlen : 0 < f.entries.length := List.length_pos_iff.mpr hf
  have hplace : p * f.entries.length / n < f.entries.length :=
    Nat.div_lt_of_lt_mul (Nat.mul_lt_mul_of_pos_right hp hlen)
  refine ⟨f.entries[p * f.entries.length / n], List.getElem?_eq_getElem hplace, ?_⟩
  rw [sampleStream, List.getD_eq_getElem?_getD, List.getElem?_eq_getElem hplace, Option.getD_some, Rgb.each]

theorem decodeCode_le {v : Nat} (hv : v ≤ 255) : decodeCode v ≤ 65535 := by
  have hsquare : v * v ≤ 255 * 255 := Nat.mul_le_mul hv hv
  unfold decodeCode
  omega

theorem levelFactor_le {level : Nat} (h : level ≤ 65535) : levelFactor level ≤ 65535 := by
  have hsquare : level * level ≤ 65535 * 65535 := Nat.mul_le_mul h h
  unfold levelFactor
  omega

theorem alphaOf_le {opacity coverage presence : Nat} (ho : opacity ≤ 255) (hc : coverage ≤ 255) (hp : presence ≤ 65535) :
    alphaOf opacity coverage presence ≤ 65535 := by
  have hproduct : opacity * coverage * presence ≤ 255 * 255 * 65535 := Nat.mul_le_mul (Nat.mul_le_mul ho hc) hp
  unfold alphaOf
  omega

/-- Only full opacity, coverage and presence give full alpha (R64). -/
theorem alphaOf_full_iff {opacity coverage presence : Nat} (ho : opacity ≤ 255) (hc : coverage ≤ 255) (hp : presence ≤ 65535) :
    alphaOf opacity coverage presence = 65535 ↔ opacity = 255 ∧ coverage = 255 ∧ presence = 65535 := by
  refine ⟨fun h => ?_, fun ⟨h1, h2, h3⟩ => by rw [h1, h2, h3]; rfl⟩
  have hfull : 255 * 255 * 65535 ≤ opacity * coverage * presence := by
    unfold alphaOf at h
    omega
  refine ⟨?_, ?_, ?_⟩
  · by_contra hno
    have : opacity * coverage * presence ≤ 254 * 255 * 65535 := Nat.mul_le_mul (Nat.mul_le_mul (by omega) hc) hp
    omega
  · by_contra hno
    have : opacity * coverage * presence ≤ 255 * 254 * 65535 := Nat.mul_le_mul (Nat.mul_le_mul ho (by omega)) hp
    omega
  · by_contra hno
    have : opacity * coverage * presence ≤ 255 * 255 * 65534 := Nat.mul_le_mul (Nat.mul_le_mul ho hc) (by omega)
    omega

/-! ## One layer at one lamp (R60, R65) -/

section
variable {c : Compose} {z : ZoneNo} {q : Nat} {y : ComposeLayer}

theorem sourceColour_solid {col : Rgb} (h : y.ed.source = .solid col) : sourceColour c y z q = ⟨col, 255⟩ := by
  rw [sourceColour, h]

theorem sourceColour_pattern {n : SlotNo} {sl : Slot} (h : y.ed.source = .pattern n) (hn : c.slots[n] = some sl) :
    sourceColour c y z q = samplePattern c.pattern sl (patternCoord c.zones y.ed z (linePlace c.zones y.ed z q).1) := by
  rw [sourceColour, h]
  dsimp only
  rw [hn]

theorem sourceColour_stream {k : QueueNo} {age : Nat} {f : StreamFrame} (h : y.ed.source = .stream k age)
    (hf : y.frame = some f) : sourceColour c y z q =
      ⟨sampleStream f (linePlace c.zones y.ed z q).1 (linePlace c.zones y.ed z q).2, 255⟩ := by
  rw [sourceColour, h]
  dsimp only
  rw [hf]

variable {lam : LampNo} {acc : Acc} {i : LayerNo}

/-- A layer that is skipped, void, or of alpha 0 leaves the colour beneath (R59, R65). -/
theorem layerAt_colour_kept (h : skipped c z lam c.layers[i] = true ∨ c.layers[i].isVoid = true ∨
    alphaOf c.layers[i].ed.opacity (sourceColour c c.layers[i] z q).coverage c.layers[i].presence = 0) :
    (layerAt c z lam q acc i).colour = acc.colour := by
  unfold layerAt
  dsimp only
  split
  · rfl
  · next hskip =>
    split
    · split <;> rfl
    · next hvoid => rw [if_pos ((h.resolve_left hskip).resolve_left hvoid)]

/-- Any other layer blends its levelled colour (R63, R65). -/
theorem layerAt_colour_blended (hskip : skipped c z lam c.layers[i] = false) (hvoid : c.layers[i].isVoid = false)
    (ha : alphaOf c.layers[i].ed.opacity (sourceColour c c.layers[i] z q).coverage c.layers[i].presence ≠ 0) :
    (layerAt c z lam q acc i).colour = Rgb.zip (blendChannel c.layers[i].ed.blend
        (alphaOf c.layers[i].ed.opacity (sourceColour c c.layers[i] z q).coverage c.layers[i].presence))
      (levelled c.layers[i].ed.level (sourceColour c c.layers[i] z q).colour) acc.colour := by
  unfold layerAt
  dsimp only
  rw [hskip, hvoid, if_neg Bool.false_ne_true, if_neg Bool.false_ne_true, if_neg ha, Acc.blended]

end

/-- Settles O21: each stage of a contribution by its own law. -/
theorem blendsStayInRange : Obligations.BlendsStayInRange := by
  refine ⟨fun b a cs acc ha hcs hacc => ?_, fun a cs acc => ⟨rfl, rfl, rfl, rfl⟩, fun mem sl i hlen => ?_,
    fun mem sl i f hf => samplePattern_at mem sl i hf, fun zones ed z p => ⟨fun h => patternCoord_line h p,
      fun h hlen => patternCoord_ring h hlen p⟩, fun f p n hp hf => sampleStream_at f hp hf,
    fun v => ⟨rfl, decodeCode_le⟩, ⟨rfl, rfl⟩, fun level h => ⟨rfl, levelFactor_le h⟩, ⟨rfl, rfl, rfl⟩,
    fun opacity coverage presence ho hc hp => ⟨rfl, alphaOf_le ho hc hp, alphaOf_full_iff ho hc hp⟩,
    fun c z lam q acc i => ⟨fun col => sourceColour_solid, fun n sl => sourceColour_pattern, fun k age f => sourceColour_stream,
      layerAt_colour_kept, layerAt_colour_blended⟩⟩
  · obtain ⟨hreplace, hadd, hmax, htint⟩ := blendChannel_full cs acc
    exact ⟨blendChannel_le b ha hcs hacc, hreplace, hadd, hmax, htint, blendChannel_tint_le ha hcs acc⟩
  · exact ⟨fun j => slotEntry_inside, fun hrep j k => slotEntry_wrap hrep,
      fun hrep => ⟨slotEntry_edge_below hrep, slotEntry_edge_above hlen hrep⟩, slotEntry_clip⟩

end Sys2Proof.Machine

/-! PROOF. FORGET (R146, R147, R148): its cues and starts, its slots, its layers and queues, and the teardown whole. -/

namespace Sys2Proof.Machine

/-! ## What a teardown can touch -/

/-- Nothing differs but what FORGET tears down: ports, holds, flags, bind entries, cues and starts, layers and gates, slots and
queues, and the gone marks of a compose in flight. -/
def ForgetFrame (s t : State) : Prop :=
  t = { s with mp := { s.mp with ports := t.mp.ports }
               ot := { s.ot with holds := t.ot.holds }
               tu := { s.tu with flags := t.tu.flags, binds := t.tu.binds }
               ce := { s.ce with cues := t.ce.cues, queue := t.ce.queue }
               lt := t.lt
               ss := { s.ss with slots := t.ss.slots, queues := t.ss.queues }
               co := { s.co with inFlight := t.co.inFlight } }

theorem ForgetFrame.refl (s : State) : ForgetFrame s s := rfl

theorem ForgetFrame.trans {s t u : State} (h : ForgetFrame s t) (g : ForgetFrame t u) : ForgetFrame s u := by
  unfold ForgetFrame at *
  rw [g, h]

/-- Nothing differs but ports, cue records and the start queue. -/
def StartsFrame (s t : State) : Prop :=
  t = { s with mp := { s.mp with ports := t.mp.ports }, ce := { s.ce with cues := t.ce.cues, queue := t.ce.queue } }

theorem StartsFrame.refl (s : State) : StartsFrame s s := rfl

theorem StartsFrame.trans {s t u : State} (h : StartsFrame s t) (g : StartsFrame t u) : StartsFrame s u := by
  unfold StartsFrame at *
  rw [g, h]

theorem StartsFrame.notify (s : State) (o : Origin) (n : Notice) : StartsFrame s (s.notify o n) := by
  have h := notify_frame s o n
  generalize s.notify o n = t at h ⊢
  rw [h]
  rfl

theorem StartsFrame.parts {s t : State} (h : StartsFrame s t) :
    t.tu = s.tu ∧ t.ot = s.ot ∧ t.lt = s.lt ∧ t.ss = s.ss ∧ t.co = s.co := by
  unfold StartsFrame at h
  rw [h]
  exact ⟨rfl, rfl, rfl, rfl, rfl⟩

theorem StartsFrame.forget {s t : State} (h : StartsFrame s t) : ForgetFrame s t := by
  unfold StartsFrame at h
  rw [h]
  rfl

/-- Nothing differs but slots and layers. -/
def SlotsFrame (s t : State) : Prop :=
  t = { s with lt := { s.lt with layers := t.lt.layers }, ss := { s.ss with slots := t.ss.slots } }

theorem SlotsFrame.refl (s : State) : SlotsFrame s s := rfl

theorem SlotsFrame.trans {s t u : State} (h : SlotsFrame s t) (g : SlotsFrame t u) : SlotsFrame s u := by
  unfold SlotsFrame at *
  rw [g, h]

theorem SlotsFrame.parts {s t : State} (h : SlotsFrame s t) :
    t.mp = s.mp ∧ t.tu = s.tu ∧ t.ot = s.ot ∧ t.ce = s.ce ∧ t.co = s.co ∧ t.lt.gates = s.lt.gates ∧ t.ss.queues = s.ss.queues := by
  unfold SlotsFrame at h
  rw [h]
  exact ⟨rfl, rfl, rfl, rfl, rfl, rfl, rfl⟩

theorem SlotsFrame.forget {s t : State} (h : SlotsFrame s t) : ForgetFrame s t := by
  unfold SlotsFrame at h
  rw [h]
  rfl

/-! ## Cues and starts (R113, R147 step 2) -/

/-- FORGET takes the cue's entry from the start queue: the origin owns the cue, or has scheduled it. -/
def dropsStart (q : Origin) (x : Option Cue) (scheduled : Bool) : Bool := x.any fun cue => cue.owner == q || scheduled

/-- A cue record after FORGET. -/
def forgottenCue (q : Origin) (scheduled : Bool) (x : Option Cue) : Option Cue :=
  x.bind fun cue => if cue.owner = q then none else some { cue with run := if scheduled = true then .ready else cue.run }

theorem emptyCue_frame (s : State) (c : CueNo) (cue : Cue) (why : EndReason) : StartsFrame s (s.emptyCue c cue why) := by
  unfold State.emptyCue
  dsimp only
  split
  · rfl
  · exact StartsFrame.trans (t := (s.setCue c none).setStartQueue (dropEntry c s.ce.queue)) rfl (.notify ..)

theorem emptyCue_ce (s : State) (c : CueNo) (cue : Cue) (why : EndReason) : (s.emptyCue c cue why).ce =
    { s.ce with cues := setAt s.ce.cues c none, queue := dropEntry c s.ce.queue } := by
  unfold State.emptyCue
  dsimp only
  split
  · rfl
  · rw [notify_frame]
    rfl

theorem endCue_ce (s : State) (c : CueNo) (cue : Cue) (why : EndReason) : (s.endCue c cue why).ce =
    { s.ce with cues := setAt s.ce.cues c (some { cue with run := .ready }) } := by
  rw [State.endCue, notify_frame]
  rfl

section
variable (q : Origin) (s : State)

theorem forgetCue_frame (c : CueNo) : StartsFrame s (s.forgetCue q c) := by
  unfold State.forgetCue
  split
  · exact .refl s
  · split
    · exact emptyCue_frame ..
    · split
      · exact StartsFrame.trans (t := (s.setStartQueue (dropEntry c s.ce.queue)).setCue c _) rfl (.notify ..)
      · exact .refl s

theorem forgetCues_frame : StartsFrame s (s.forgetCues q) :=
  foldl_related StartsFrame.refl StartsFrame.trans (fun u c => forgetCue_frame q u c) _ s

/-- One cue at FORGET: its record, and its entry in the start queue. -/
theorem forgetCue_ce (c : CueNo) : (s.forgetCue q c).ce = { s.ce with
    cues := setAt s.ce.cues c (forgottenCue q (s.scheduledBy q c) s.ce.cues[c])
    queue := if dropsStart q s.ce.cues[c] (s.scheduledBy q c) = true then dropEntry c s.ce.queue else s.ce.queue } := by
  unfold State.forgetCue
  cases hc : s.ce.cues[c] with
  | none =>
    have hself : setAt s.ce.cues c none = s.ce.cues := hc ▸ setAt_self s.ce.cues c
    simp only [forgottenCue, dropsStart, Option.bind_none, Option.any_none, hself, Bool.false_eq_true, if_false]
  | some cue =>
    simp only [forgottenCue, dropsStart, Option.bind_some, Option.any_some, Bool.or_eq_true, beq_iff_eq]
    by_cases ho : cue.owner = q
    · rw [if_pos ho, if_pos ho, if_pos (.inl ho), emptyCue_ce]
    · rw [if_neg ho, if_neg ho]
      by_cases hb : s.scheduledBy q c = true
      · rw [if_pos hb, if_pos (Or.inr hb), endCue_ce]
        simp only [if_pos hb]
        rfl
      · have hself : setAt s.ce.cues c (some cue) = s.ce.cues := hc ▸ setAt_self s.ce.cues c
        rw [if_neg hb, if_neg (not_or.mpr ⟨ho, hb⟩)]
        simp only [if_neg hb, hself]

theorem scheduledBy_dropEntry (c d : CueNo) : (s.setStartQueue (dropEntry c s.ce.queue)).scheduledBy q d =
    if d = c then false else s.scheduledBy q d := by
  simp only [State.scheduledBy, setStartQueue_queue, dropEntry, List.any_filter]
  split
  · next h =>
    subst h
    exact List.any_eq_false.mpr fun e _ => by simp; tauto
  · next h =>
    refine congrArg (List.any s.ce.queue) (funext fun e => ?_)
    by_cases he : e.cue = d
    · simp [he, h]
    · simp [beq_eq_false_iff_ne.mpr he]

/-- What FORGET reads of each cue: its record, and whether the origin has scheduled it. -/
def startView : Vector (Option Cue × Bool) 24 := tabulate fun c => (s.ce.cues[c], s.scheduledBy q c)

theorem startView_get (c : CueNo) : (startView q s)[c] = (s.ce.cues[c], s.scheduledBy q c) := tabulate_get ..

/-- One cue at FORGET changes what is read of that cue alone. -/
theorem forgetCue_view (c d : CueNo) : (startView q (s.forgetCue q c))[d] = if d = c then
    (forgottenCue q (startView q s)[c].2 (startView q s)[c].1,
      !dropsStart q (startView q s)[c].1 (startView q s)[c].2 && (startView q s)[c].2)
    else (startView q s)[d] := by
  have hcues : (s.forgetCue q c).ce.cues[d] =
      if d = c then forgottenCue q (s.scheduledBy q c) s.ce.cues[c] else s.ce.cues[d] := by
    simp only [forgetCue_ce, setAt_get]
  have hsched : (s.forgetCue q c).scheduledBy q d = if d = c then
      !dropsStart q s.ce.cues[c] (s.scheduledBy q c) && s.scheduledBy q c else s.scheduledBy q d := by
    have hqueue : (s.forgetCue q c).scheduledBy q d = if dropsStart q s.ce.cues[c] (s.scheduledBy q c) = true then
        (s.setStartQueue (dropEntry c s.ce.queue)).scheduledBy q d else s.scheduledBy q d := by
      rw [State.scheduledBy, forgetCue_ce]
      split <;> rfl
    rw [hqueue, scheduledBy_dropEntry]
    cases dropsStart q s.ce.cues[c] (s.scheduledBy q c) <;> by_cases hd : d = c <;> simp [hd]
  simp only [startView_get, hcues, hsched]
  split <;> rfl

theorem forgetCues_eq :
    s.forgetCues q = List.foldl (α := State) (β := Fin 24) (fun u c => u.forgetCue q c) s (List.finRange 24) := rfl

/-- What FORGET leaves of a cue record and of its start. -/
def forgottenView (q : Origin) (x : Option Cue × Bool) : Option Cue × Bool :=
  (forgottenCue q x.2 x.1, !dropsStart q x.1 x.2 && x.2)

theorem forgetCueList_view (l : List CueNo) (hl : l.Nodup) (c : CueNo) :
    (startView q (l.foldl (fun u c => u.forgetCue q c) s))[c] =
      if c ∈ l then forgottenView q (startView q s)[c] else (startView q s)[c] :=
  foldl_records (startView q) (fun _ => ()) (fun _ _ => forgottenView q) (fun _ _ => rfl) (forgetCue_view q) l hl s c

/-- Every cue record after FORGET. -/
theorem forgetCues_cue (c : CueNo) : (s.forgetCues q).ce.cues[c] = forgottenCue q (s.scheduledBy q c) s.ce.cues[c] := by
  have hview := forgetCueList_view q s _ (List.nodup_finRange 24) c
  rw [if_pos (List.mem_finRange c), startView_get, startView_get, forgottenView, Prod.mk.injEq] at hview
  rw [forgetCues_eq]
  rw [hview.1]

/-- The start queue after the cues of a list: without the entries of those that FORGET drops. -/
theorem forgetCueList_queue (l : List CueNo) (hl : l.Nodup) : (l.foldl (fun u c => u.forgetCue q c) s).ce.queue =
    s.ce.queue.filter fun e => !(decide (e.cue ∈ l) && dropsStart q s.ce.cues[e.cue] (s.scheduledBy q e.cue)) := by
  induction l generalizing s with
  | nil => simp
  | cons c l ih =>
    obtain ⟨hc, hl⟩ := List.nodup_cons.mp hl
    have hqueue : (s.forgetCue q c).ce.queue =
        s.ce.queue.filter fun e => !(decide (e.cue = c) && dropsStart q s.ce.cues[c] (s.scheduledBy q c)) := by
      rw [forgetCue_ce]
      dsimp only
      cases dropsStart q s.ce.cues[c] (s.scheduledBy q c) with
      | true => simp [dropEntry, bne, beq_eq_decide]
      | false => simp
    rw [List.foldl_cons, ih (s.forgetCue q c) hl, hqueue, List.filter_filter]
    refine List.filter_congr fun e _ => ?_
    by_cases he : e.cue = c
    · subst he
      simp [hc]
    · have hview := forgetCue_view q s c e.cue
      rw [if_neg he, startView_get, startView_get, Prod.mk.injEq] at hview
      simp [he, hview.1, hview.2]

theorem forgetCues_queue : (s.forgetCues q).ce.queue =
    s.ce.queue.filter fun e => !dropsStart q s.ce.cues[e.cue] (s.scheduledBy q e.cue) := by
  rw [forgetCues_eq, forgetCueList_queue q s _ (List.nodup_finRange 24)]
  refine List.filter_congr fun e _ => ?_
  rw [decide_eq_true (List.mem_finRange _), Bool.true_and]

/-- An entry that the origin has scheduled is that of its cue, since no cue has two (R98). -/
theorem scheduledBy_entry {s : State} (hs : CuesSound s) {e : StartEntry} (he : e ∈ s.ce.queue) :
    s.scheduledBy q e.cue = true ↔ e.scheduler = q := by
  obtain ⟨-, hone, -⟩ := hs
  simp only [State.scheduledBy, List.any_eq_true, Bool.and_eq_true, beq_iff_eq]
  refine ⟨fun ⟨d, hd, hcue, hsch⟩ => ?_, fun h => ⟨e, he, rfl, h⟩⟩
  rw [← List.inj_on_of_nodup_map hone hd he hcue, hsch]

/-- With at most one entry for a cue FORGET drops just the entries the origin has scheduled and those of its own
cues (R94, R98). -/
theorem forgetCues_queue_sound {s u : State} (hs : CuesSound s) (hu : u.ce = s.ce) : (u.forgetCues q).ce.queue =
    s.ce.queue.filter fun e => e.scheduler != q && !s.ce.cues[e.cue].any fun cue => cue.owner == q := by
  have hview : ∀ c, u.scheduledBy q c = s.scheduledBy q c := fun c => by rw [State.scheduledBy, hu, State.scheduledBy]
  simp only [forgetCues_queue, hview, hu]
  refine List.filter_congr fun e he => ?_
  have ⟨_, _, hdefined, _⟩ := hs
  obtain ⟨cue, hcue, -⟩ := (hdefined e.cue).mp ⟨e, he, rfl⟩
  have hsched : s.scheduledBy q e.cue = (e.scheduler == q) := by
    rw [Bool.eq_iff_iff, scheduledBy_entry q hs he, beq_iff_eq]
  rw [dropsStart, hcue, hsched, Option.any_some, Option.any_some, Bool.not_or, Bool.and_comm, bne]

/-- The ends that FORGET tells of, in ascending cue number (R113, R115). -/
theorem forgetCues_mp (v : State) (hv : s.mp = v.mp) : (s.forgetCues q).mp = (endsTold s.ce.cues
    (fun c cue => if cue.owner = q then cue.run != .ready else s.scheduledBy q c) .forgotten v).mp := by
  refine foldl_told (startView q) (fun _ => ()) (start := s) (fun _ _ => rfl) (fun u c d hd => ?_)
    (fun u w c _ hc hmp => ?_) _ (List.nodup_finRange 24) s v rfl (fun _ _ => rfl) hv
  · exact (forgetCue_view q u c d).trans (if_neg hd)
  · rw [startView_get, startView_get, Prod.mk.injEq] at hc
    obtain ⟨hcue, hsched⟩ := hc
    dsimp only
    rw [State.forgetCue, hcue, hsched]
    cases s.ce.cues[c] with
    | none => exact hmp
    | some cue =>
      dsimp only
      by_cases ho : cue.owner = q
      · simp only [if_pos ho, State.emptyCue, bne_iff_ne, ite_not]
        split
        · exact hmp
        · exact notify_mp_congr (show ((u.setCue c none).setStartQueue _).mp = w.mp from hmp) _ _
      · simp only [if_neg ho]
        split
        · have hset : ((u.setStartQueue (dropEntry c u.ce.queue)).setCue c (some { cue with run := .ready })).mp = w.mp := hmp
          rw [State.endCue]
          exact notify_mp_congr hset _ _
        · exact hmp

end

/-! ## Slots (R45, R46, R147 step 4) -/

/-- A layer with its live source and its copy marked detached where they are lost. -/
def detachLost (lost : Source → Bool) (l : Layer) : Layer :=
  { l with detached := l.detached || lost l.ed.source
           copy := l.copy.map fun c => { c with detached := c.detached || lost c.ed.source } }

theorem detachLost_none (l : Layer) : detachLost (fun _ => false) l = l := by
  have hcopy : (l.copy.map fun c => { c with detached := c.detached || false }) = l.copy := by
    cases l.copy with
    | none => rfl
    | some c => rw [Option.map_some, Bool.or_false]
  rw [detachLost, Bool.or_false, hcopy]

theorem detachLost_detachLost (f g : Source → Bool) (l : Layer) :
    detachLost f (detachLost g l) = detachLost (fun src => g src || f src) l := by
  simp only [detachLost, Option.map_map, Function.comp_def, Bool.or_assoc]

/-- The source names one of the slots of the list, and the origin owns it. -/
def namesLost (q : Origin) (slots : Vector (Option Slot) 16) (l : List SlotNo) : Source → Bool
  | .pattern n => decide (n ∈ l) && slots[n].any fun x => x.owner == q
  | _ => false

section
variable (q : Origin) (s : State)

/-- One slot at FORGET. -/
def forgetSlot (n : SlotNo) : State := if s.ss.slots[n].any fun x => x.owner == q then s.deleteSlot n else s

theorem forgetSlots_eq : s.forgetSlots q = (List.finRange 16).foldl (forgetSlot q) s := rfl

theorem forgetSlot_frame (n : SlotNo) : SlotsFrame s (forgetSlot q s n) := by
  unfold forgetSlot
  split <;> rfl

theorem forgetSlots_frame : SlotsFrame s (s.forgetSlots q) :=
  foldl_related SlotsFrame.refl SlotsFrame.trans (fun u n => forgetSlot_frame q u n) _ s

theorem forgetSlot_slot (n m : SlotNo) : (forgetSlot q s n).ss.slots[m] =
    if m = n then s.ss.slots[n].filter fun x => x.owner != q else s.ss.slots[m] := by
  unfold forgetSlot
  cases hn : s.ss.slots[n] with
  | none =>
    rw [Option.any_none, if_neg Bool.false_ne_true, Option.filter_none]
    split
    · next h => rw [h, hn]
    · rfl
  | some x =>
    rw [Option.any_some, Option.filter_some]
    by_cases ho : x.owner = q
    · have hfilter : (if (x.owner != q) = true then some x else none) = none := if_neg (by simpa using ho)
      rw [if_pos (beq_iff_eq.mpr ho), hfilter]
      exact setAt_get ..
    · have hfilter : (if (x.owner != q) = true then some x else none) = some x := if_pos (bne_iff_ne.mpr ho)
      rw [if_neg (by simpa using ho), hfilter]
      split
      · next h => rw [h, hn]
      · rfl

theorem forgetSlotList_slot (l : List SlotNo) (hl : l.Nodup) (n : SlotNo) : (l.foldl (forgetSlot q) s).ss.slots[n] =
    if n ∈ l then s.ss.slots[n].filter fun x => x.owner != q else s.ss.slots[n] :=
  foldl_records (·.ss.slots) (fun _ => ()) (fun _ _ x => x.filter fun x => x.owner != q) (fun _ _ => rfl)
    (forgetSlot_slot q) l hl s n

/-- Every slot after FORGET. -/
theorem forgetSlots_slot (n : SlotNo) : (s.forgetSlots q).ss.slots[n] = s.ss.slots[n].filter fun x => x.owner != q := by
  rw [forgetSlots_eq, forgetSlotList_slot q s _ (List.nodup_finRange 16), if_pos (List.mem_finRange n)]

theorem namesLost_single (n : SlotNo) : namesLost q s.ss.slots [n] =
    fun src => (s.ss.slots[n].any fun x => x.owner == q) && src == .pattern n := by
  funext src
  cases src with
  | solid _ | stream _ _ => exact (Bool.and_false _).symm
  | pattern m =>
    by_cases hm : m = n
    · subst hm
      rw [namesLost, decide_eq_true (List.mem_singleton_self m), beq_self_eq_true, Bool.true_and, Bool.and_true]
    · have hsource : (Source.pattern m == .pattern n) = false := beq_eq_false_iff_ne.mpr fun h => hm (Source.pattern.inj h)
      rw [namesLost, decide_eq_false (mt List.mem_singleton.mp hm), hsource, Bool.false_and, Bool.and_false]

theorem forgetSlot_layer (n : SlotNo) (i : LayerNo) :
    (forgetSlot q s n).lt.layers[i] = detachLost (namesLost q s.ss.slots [n]) s.lt.layers[i] := by
  rw [namesLost_single]
  unfold forgetSlot
  cases s.ss.slots[n].any fun x => x.owner == q with
  | true =>
    simp only [if_true, Bool.true_and]
    exact mapAt_get ..
  | false => simp only [Bool.false_eq_true, if_false, Bool.false_and, detachLost_none]

/-- A slot deleted is lost once: its own marks and those of the slots after it make up the marks of all. -/
theorem namesLost_cons (n : SlotNo) (l : List SlotNo) : namesLost q s.ss.slots (n :: l) =
    fun src => namesLost q s.ss.slots [n] src || namesLost q (forgetSlot q s n).ss.slots l src := by
  funext src
  cases src with
  | solid _ | stream _ _ => rfl
  | pattern m =>
    have hkept : (s.ss.slots[m].filter fun x => x.owner != q).any (fun x => x.owner == q) = false := by
      cases s.ss.slots[m] with
      | none => rfl
      | some x => by_cases ho : x.owner = q <;> simp [Option.filter_some, ho]
    simp only [namesLost, forgetSlot_slot]
    by_cases hm : m = n
    · subst hm
      rw [if_pos rfl, hkept, Bool.and_false, Bool.or_false, decide_eq_true List.mem_cons_self,
        decide_eq_true (List.mem_singleton_self m)]
    · simp only [hm, if_false, List.mem_cons, List.not_mem_nil, or_false, false_or, decide_false, Bool.false_and,
        Bool.false_or]

theorem forgetSlotList_layer (l : List SlotNo) (i : LayerNo) :
    (l.foldl (forgetSlot q) s).lt.layers[i] = detachLost (namesLost q s.ss.slots l) s.lt.layers[i] := by
  induction l generalizing s with
  | nil =>
    have hlost : namesLost q s.ss.slots [] = fun _ => false := by
      funext src
      cases src <;> simp [namesLost]
    rw [hlost, detachLost_none]
    rfl
  | cons n l ih => rw [List.foldl_cons, ih, forgetSlot_layer, detachLost_detachLost, namesLost_cons q s n l]

/-- Every layer after the slots of FORGET. -/
theorem forgetSlots_layer (i : LayerNo) : (s.forgetSlots q).lt.layers[i] =
    detachLost (namesLost q s.ss.slots (List.finRange 16)) s.lt.layers[i] := by
  simp only [forgetSlots_eq]
  exact forgetSlotList_layer q s _ i

end

/-! ## Layers, gates and queues (R32, R46, R67, R147 steps 1 and 3) -/

section
variable (q : Origin) (s : State)

theorem freeLayersWhere_queue {s : State} (hs : StreamsSound s) (p : LayerNo → Layer → Bool) (k : QueueNo) :
    (s.freeLayersWhere p).ss.queues[k] =
      if ∃ i, s.ss.queues[k].bound = some i ∧ p i s.lt.layers[i] = true then StreamQueue.freed else s.ss.queues[k] := by
  have hlayer := freeLayersWhere_layer s p
  have hrelease : (s.freeLayersWhere p).ss.queues[k] = match s.ss.queues[k].bound with
      | none => s.ss.queues[k]
      | some i => if usesStream (s.freeLayersWhere p).lt.layers[i] = true then s.ss.queues[k] else StreamQueue.freed := by
    rw [State.freeLayersWhere, releaseQueues_queue]
    rfl
  rw [hrelease]
  cases hb : s.ss.queues[k].bound with
  | none => rw [if_neg nofun]
  | some i =>
    simp only [Option.some.injEq, exists_eq_left', hlayer]
    by_cases hp : p i s.lt.layers[i] = true
    · rw [if_pos hp, if_pos hp, if_neg fun hu => (usesStream_iff.mp hu).elim not_namesQueue_freed]
    · rw [if_neg hp, if_neg hp, if_pos (usesStream_iff.mpr ⟨k, (hs.1 k i).mp hb⟩)]

/-- The state after FORGET's step 1: the copies dropped, the gate open. -/
def forgottenCopies : State := (s.discardCopies q).setGate q .opened

/-- The state after FORGET's step 3: the cues ended and the layers freed. -/
def forgottenLayers : State := ((forgottenCopies q s).forgetCues q).freeLayersWhere fun _ l => ownedBy q l

theorem forgottenCopies_layer (i : LayerNo) : (forgottenCopies q s).lt.layers[i] =
    if s.lt.layers[i].owner = some q then { s.lt.layers[i] with copy := none } else s.lt.layers[i] := mapAt_get ..

theorem forgottenCopies_owned {s : State} (hs : LayersSound s) (i : LayerNo) :
    ownedBy q (forgottenCopies q s).lt.layers[i] = true ↔ s.lt.layers[i].owner = some q := by
  rw [forgottenCopies_layer, ownedBy_iff]
  by_cases ho : s.lt.layers[i].owner = some q
  · have hstate : s.lt.layers[i].state ≠ .free := fun hf => nomatch ho.symm.trans (hs.free_owner hf)
    rw [if_pos ho]
    exact ⟨fun _ => ho, fun _ => ⟨hstate, ho⟩⟩
  · rw [if_neg ho]
    exact ⟨fun h => h.2, fun h => absurd h ho⟩

theorem forgottenCopies_release (k : QueueNo) : (forgottenCopies q s).ss.queues[k] = match s.ss.queues[k].bound with
    | none => s.ss.queues[k]
    | some i => if usesStream (forgottenCopies q s).lt.layers[i] = true then s.ss.queues[k] else StreamQueue.freed := by
  rw [forgottenCopies, setGate_ss, State.discardCopies, releaseQueues_queue]
  rfl

/-- A queue that no layer of the origin holds stands (R25). -/
theorem forgottenCopies_queue_kept {s : State} (hs : StreamsSound s) {k : QueueNo}
    (h : ¬∃ i, s.ss.queues[k].bound = some i ∧ s.lt.layers[i].owner = some q) :
    (forgottenCopies q s).ss.queues[k] = s.ss.queues[k] := by
  rw [forgottenCopies_release]
  cases hb : s.ss.queues[k].bound with
  | none => rfl
  | some i =>
    have hlayer : (forgottenCopies q s).lt.layers[i] = s.lt.layers[i] := by
      rw [forgottenCopies_layer, if_neg fun ho => h ⟨i, hb, ho⟩]
    dsimp only
    rw [hlayer, if_pos (usesStream_iff.mpr ⟨k, (hs.1 k i).mp hb⟩)]

theorem forgottenCopies_queue_or (k : QueueNo) :
    (forgottenCopies q s).ss.queues[k] = StreamQueue.freed ∨ (forgottenCopies q s).ss.queues[k] = s.ss.queues[k] := by
  rw [forgottenCopies_release]
  split
  · exact .inr rfl
  · split
    · exact .inr rfl
    · exact .inl rfl

theorem forgottenCopies_frame : ForgetFrame s (forgottenCopies q s) := rfl

theorem forgottenCopies_streams {s : State} (hs : StreamsSound s) : StreamsSound (forgottenCopies q s) :=
  StreamsSound.reads _ _ (setGate_parts ..) (hs.discardCopies q)

theorem freeLayersWhere_gates (p : LayerNo → Layer → Bool) : (s.freeLayersWhere p).lt.gates = s.lt.gates := rfl

theorem freeLayersWhere_rest (p : LayerNo → Layer → Bool) : (s.freeLayersWhere p).ce = s.ce ∧ (s.freeLayersWhere p).mp = s.mp ∧
    (s.freeLayersWhere p).tu = s.tu ∧ (s.freeLayersWhere p).ot = s.ot ∧ (s.freeLayersWhere p).ss.slots = s.ss.slots :=
  ⟨rfl, rfl, rfl, rfl, rfl⟩

theorem freeLayersWhere_frame (p : LayerNo → Layer → Bool) : ForgetFrame s (s.freeLayersWhere p) := rfl

theorem forgottenLayers_frame : ForgetFrame s (forgottenLayers q s) :=
  (forgottenCopies_frame q s).trans ((forgetCues_frame q _).forget.trans (freeLayersWhere_frame _ _))

/-- Every layer after step 3: those of the origin are FREE, and no other has changed. -/
theorem forgottenLayers_layer {s : State} (hs : LayersSound s) (i : LayerNo) : (forgottenLayers q s).lt.layers[i] =
    if s.lt.layers[i].owner = some q then Layer.freed else s.lt.layers[i] := by
  obtain ⟨-, -, hlt, -⟩ := (forgetCues_frame q (forgottenCopies q s)).parts
  rw [forgottenLayers, freeLayersWhere_layer, hlt]
  by_cases ho : s.lt.layers[i].owner = some q
  · rw [if_pos ho, if_pos ((forgottenCopies_owned q hs i).mpr ho)]
  · rw [if_neg ho, if_neg (mt (forgottenCopies_owned q hs i).mp ho), forgottenCopies_layer, if_neg ho]

/-- Every queue after step 3: those of the origin's layers are freed (R25, R47). -/
theorem forgottenLayers_queue {s : State} (hl : LayersSound s) (hs : StreamsSound s) (k : QueueNo) :
    (forgottenLayers q s).ss.queues[k] =
      if ∃ i, s.ss.queues[k].bound = some i ∧ s.lt.layers[i].owner = some q then StreamQueue.freed else s.ss.queues[k] := by
  obtain ⟨-, -, hlt, hss, -⟩ := (forgetCues_frame q (forgottenCopies q s)).parts
  have hstreams := StreamsSound.reads _ _ (forgetCues_parts _ q) (forgottenCopies_streams q hs)
  rw [forgottenLayers, freeLayersWhere_queue hstreams, hlt, hss]
  simp only [forgottenCopies_owned q hl]
  by_cases h : ∃ i, s.ss.queues[k].bound = some i ∧ s.lt.layers[i].owner = some q
  · rw [if_pos h]
    rcases forgottenCopies_queue_or q s k with hfreed | hsame
    · rw [hfreed, ite_self]
    · rw [hsame, if_pos h]
  · rw [forgottenCopies_queue_kept q hs h]

/-- The layers that the origin owns, as a mark set. -/
def ownedLayers : BitVec 16 := markSet fun i => ownedBy q (forgottenCopies q s).lt.layers[i]

theorem ownedLayers_get {s : State} (hs : LayersSound s) (i : LayerNo) :
    (ownedLayers q s).getLsbD i.val = true ↔ s.lt.layers[i].owner = some q := by
  rw [ownedLayers, markSet_getLsbD, forgottenCopies_owned q hs]

theorem forgottenLayers_inFlight :
    (forgottenLayers q s).co.inFlight = s.co.inFlight.map (Compose.markGone (ownedLayers q s)) := by
  obtain ⟨-, -, hlt, -, hco⟩ := (forgetCues_frame q (forgottenCopies q s)).parts
  rw [forgottenLayers, freeLayersWhere_inFlight, hlt, hco]
  rfl

theorem forgottenLayers_gate (p : Origin) : (forgottenLayers q s).gate p = if p = q then .opened else s.gate p := by
  obtain ⟨-, -, hlt, -⟩ := (forgetCues_frame q (forgottenCopies q s)).parts
  rw [forgottenLayers, State.gate, freeLayersWhere_gates, hlt]
  exact setGate_gate (s.discardCopies q) q p .opened

/-- What the steps up to 3 leave for the later ones, and their cues, starts and notices. -/
theorem forgottenLayers_rest : (forgottenLayers q s).ce = ((forgottenCopies q s).forgetCues q).ce ∧
    (forgottenLayers q s).mp = ((forgottenCopies q s).forgetCues q).mp ∧ (forgottenLayers q s).tu = s.tu ∧
    (forgottenLayers q s).ot = s.ot ∧ (forgottenLayers q s).ss.slots = s.ss.slots := by
  obtain ⟨htu, hot, -, hss, -⟩ := (forgetCues_frame q (forgottenCopies q s)).parts
  obtain ⟨hce, hmp, htu', hot', hslots⟩ := freeLayersWhere_rest ((forgottenCopies q s).forgetCues q) fun _ l => ownedBy q l
  refine ⟨hce, hmp, htu'.trans htu, hot'.trans hot, hslots.trans ?_⟩
  rw [hss]
  rfl

end

/-! ## The teardown whole -/

section
variable (q : Origin) (s : State)

/-- Steps 5 to 8 of FORGET: bind entries, holds, flags and mask. -/
def forgetRest : State := (((s.unbindWhere fun e => e.owner == q).forgetHolds q).forgetFlags q).clearMask q

theorem forgetRest_frame : ForgetFrame s (forgetRest q s) := rfl

theorem forgetRest_parts : (forgetRest q s).lt = s.lt ∧ (forgetRest q s).ss = s.ss ∧ (forgetRest q s).ce = s.ce ∧
    (forgetRest q s).co = s.co := ⟨rfl, rfl, rfl, rfl⟩

theorem forgetRest_bind (i : BindNo) : (forgetRest q s).tu.binds[i] = s.tu.binds[i].filter fun e => e.owner != q :=
  mapAt_get ..

theorem forgetRest_hold (z : ZoneNo) : (forgetRest q s).ot.holds[z] = s.ot.holds[z].filter fun h => h.holder != q :=
  mapAt_get ..

theorem forgetRest_flag (f : FlagNo) :
    (forgetRest q s).tu.flags.getLsbD f.val = (s.tu.flags.getLsbD f.val && s.tu.writers[f] != .origin q) := by
  have hflags : (forgetRest q s).tu.flags = s.tu.flags &&& ~~~(writtenBy s.tu.writers (.origin q)) := rfl
  rw [hflags, BitVec.getLsbD_and, BitVec.getLsbD_not, writtenBy, markSet_getLsbD, decide_eq_true f.isLt, Bool.true_and, bne]

theorem forgetRest_port (p : Origin) :
    (forgetRest q s).port p = if p = q then { s.port p with mask := 0 } else s.port p := by
  refine (setPort_port _ q p _).trans ?_
  split
  · next h => rw [h]; rfl
  · rfl

theorem forget_eq : s.forget q = forgetRest q ((forgottenLayers q s).forgetSlots q) := rfl

theorem forget_frame : ForgetFrame s (s.forget q) := by
  rw [forget_eq]
  exact (forgottenLayers_frame q s).trans ((forgetSlots_frame q _).forget.trans (forgetRest_frame q _))

theorem forget_layer {s : State} (hs : LayersSound s) (i : LayerNo) : (s.forget q).lt.layers[i] =
    if s.lt.layers[i].owner = some q then Layer.freed
    else detachLost (namesLost q s.ss.slots (List.finRange 16)) s.lt.layers[i] := by
  obtain ⟨-, -, -, -, hslots⟩ := forgottenLayers_rest q s
  obtain ⟨hlt, -⟩ := forgetRest_parts q ((forgottenLayers q s).forgetSlots q)
  rw [forget_eq, hlt, forgetSlots_layer, hslots, forgottenLayers_layer q hs]
  split <;> rfl

theorem forget_gate (p : Origin) : (s.forget q).gate p = if p = q then .opened else s.gate p := by
  obtain ⟨hlt, -⟩ := forgetRest_parts q ((forgottenLayers q s).forgetSlots q)
  obtain ⟨-, -, -, -, -, hgates, -⟩ := (forgetSlots_frame q (forgottenLayers q s)).parts
  rw [← forgottenLayers_gate, forget_eq, State.gate, hlt, hgates]
  rfl

theorem forget_queue {s : State} (hl : LayersSound s) (hs : StreamsSound s) (k : QueueNo) : (s.forget q).ss.queues[k] =
    if ∃ i, s.ss.queues[k].bound = some i ∧ s.lt.layers[i].owner = some q then StreamQueue.freed else s.ss.queues[k] := by
  obtain ⟨-, hss, -⟩ := forgetRest_parts q ((forgottenLayers q s).forgetSlots q)
  obtain ⟨-, -, -, -, -, -, hqueues⟩ := (forgetSlots_frame q (forgottenLayers q s)).parts
  rw [forget_eq, hss, hqueues, forgottenLayers_queue q hl hs]

theorem forget_inFlight : (s.forget q).co.inFlight = s.co.inFlight.map (Compose.markGone (ownedLayers q s)) := by
  obtain ⟨-, -, -, hco⟩ := forgetRest_parts q ((forgottenLayers q s).forgetSlots q)
  rw [forget_eq, hco, forgetSlots_co, forgottenLayers_inFlight]

theorem forget_ce : (s.forget q).ce = ((forgottenCopies q s).forgetCues q).ce := by
  obtain ⟨-, -, hce, -⟩ := forgetRest_parts q ((forgottenLayers q s).forgetSlots q)
  obtain ⟨-, -, -, hce', -⟩ := (forgetSlots_frame q (forgottenLayers q s)).parts
  obtain ⟨hce'', -⟩ := forgottenLayers_rest q s
  rw [forget_eq, hce, hce', hce'']

theorem forget_cue (c : CueNo) : (s.forget q).ce.cues[c] = forgottenCue q (s.scheduledBy q c) s.ce.cues[c] := by
  rw [forget_ce, forgetCues_cue]
  rfl

theorem forgottenCue_own {s : State} {q : Origin} {c : CueNo} {cue : Cue} (hcue : s.ce.cues[c] = some cue)
    (ho : cue.owner = q) : forgottenCue q (s.scheduledBy q c) s.ce.cues[c] = none := by
  rw [hcue, forgottenCue, Option.bind_some, if_pos ho]

theorem forgottenCue_other {s : State} {q : Origin} {c : CueNo} {cue : Cue} (hcue : s.ce.cues[c] = some cue)
    (ho : cue.owner ≠ q) : forgottenCue q (s.scheduledBy q c) s.ce.cues[c] = some
      { cue with run := if ∃ e ∈ s.ce.queue, e.cue = c ∧ e.scheduler = q then .ready else cue.run } := by
  rw [hcue, forgottenCue, Option.bind_some, if_neg ho]
  simp only [State.scheduledBy, List.any_eq_true, Bool.and_eq_true, beq_iff_eq]

theorem forget_starts {s : State} (hs : CuesSound s) : (s.forget q).ce.queue =
    s.ce.queue.filter fun e => e.scheduler != q && !s.ce.cues[e.cue].any fun cue => cue.owner == q := by
  rw [forget_ce, forgetCues_queue_sound q hs (u := forgottenCopies q s) rfl]

theorem forget_slot (n : SlotNo) : (s.forget q).ss.slots[n] = s.ss.slots[n].filter fun x => x.owner != q := by
  obtain ⟨-, hss, -⟩ := forgetRest_parts q ((forgottenLayers q s).forgetSlots q)
  obtain ⟨-, -, -, -, hslots⟩ := forgottenLayers_rest q s
  rw [forget_eq, hss, forgetSlots_slot, hslots]

theorem forget_bind (i : BindNo) : (s.forget q).tu.binds[i] = s.tu.binds[i].filter fun e => e.owner != q := by
  obtain ⟨-, htu, -⟩ := (forgetSlots_frame q (forgottenLayers q s)).parts
  obtain ⟨-, -, htu', -⟩ := forgottenLayers_rest q s
  rw [forget_eq, forgetRest_bind, htu, htu']

theorem forget_hold (z : ZoneNo) : (s.forget q).ot.holds[z] = s.ot.holds[z].filter fun h => h.holder != q := by
  obtain ⟨-, -, hot, -⟩ := (forgetSlots_frame q (forgottenLayers q s)).parts
  obtain ⟨-, -, -, hot', -⟩ := forgottenLayers_rest q s
  rw [forget_eq, forgetRest_hold, hot, hot']

theorem forget_flag (f : FlagNo) :
    (s.forget q).tu.flags.getLsbD f.val = (s.tu.flags.getLsbD f.val && s.tu.writers[f] != .origin q) := by
  obtain ⟨-, htu, -⟩ := (forgetSlots_frame q (forgottenLayers q s)).parts
  obtain ⟨-, -, htu', -⟩ := forgottenLayers_rest q s
  rw [forget_eq, forgetRest_flag, htu, htu']

theorem port_congr {u v : State} (h : u.mp = v.mp) (p : Origin) : u.port p = v.port p := by rw [State.port, State.port, h]

theorem forget_port (p : Origin) : (s.forget q).port p =
    let told := endsTold s.ce.cues (fun c cue => if cue.owner = q then cue.run != .ready else s.scheduledBy q c) .forgotten s
    if p = q then { told.port p with mask := 0 } else told.port p := by
  obtain ⟨hmp, -⟩ := (forgetSlots_frame q (forgottenLayers q s)).parts
  obtain ⟨-, hmp', -⟩ := forgottenLayers_rest q s
  have htold := (hmp.trans hmp').trans (forgetCues_mp q (forgottenCopies q s) s rfl)
  rw [forget_eq, forgetRest_port, port_congr htold]
  rfl

end

/-! ## The request -/

theorem exec_forget {s : State} {o : Origin} {rq : Intake} (h : Takes s o .forget rq) : exec (.forget o) s =
    .next (answer ⟨o, rq⟩ (s.popIntake o) (serveForget ⟨o, rq⟩ (byteAt rq.data 2) (s.popIntake o))) :=
  takeRequest_takes (fun tk s => answer tk s (serveForget tk (byteAt tk.req.data 2) s)) h

theorem ofNat?_above : ∀ {n : Nat}, 3 < n → Origin.ofNat? n = none
  | _ + 4, _ => rfl

theorem ofNat?_idx (q : Origin) : Origin.ofNat? q.idx.val = some q := by
  cases q <;> rfl

theorem exec_forget_own {s : State} {o q : Origin} {rq : Intake} (h : Takes s o .forget rq) (hq : byteAt rq.data 2 = q.idx.val)
    (hown : o = q ∨ o = .service) :
    exec (.forget o) s = .next ((served s o rq .done false false (forgetCounts q s)).forget q) := by
  have hright : decide (o ≠ q ∧ o ≠ .service) = false := by
    simp only [decide_eq_false_iff_not]
    tauto
  rw [exec_forget h, hq, serveForget, ofNat?_idx, found_some_bind]
  dsimp only
  rw [hright, ← done_popIntake]
  rfl

/-- Settles O54: the two refusals, and the teardown block by block. -/
theorem forgetTearsDownAnOrigin : Obligations.ForgetTearsDownAnOrigin := by
  refine ⟨fun o s rq h hbad => ?_, fun o q s rq h hq => ⟨fun hne hnot => ?_, fun hown hl hs hc => ?_⟩⟩
  · rw [exec_forget h, serveForget, ofNat?_above hbad]
    exact congrArg _ (refuse_popIntake ..)
  · have hright : decide (o ≠ q ∧ o ≠ .service) = true := decide_eq_true ⟨hne, hnot⟩
    rw [exec_forget h, hq, serveForget, ofNat?_idx, found_some_bind]
    dsimp only
    rw [hright]
    exact congrArg _ (refuse_popIntake ..)
  · have hlv : LayersSound (served s o rq .done false false (forgetCounts q s)) := LayersSound.reads s _ rfl hl
    have hsv : StreamsSound (served s o rq .done false false (forgetCounts q s)) := StreamsSound.reads s _ rfl hs
    have hcv : CuesSound (served s o rq .done false false (forgetCounts q s)) := hc
    refine ⟨_, exec_forget_own h hq hown, ?frame, ?layers, ?gates, ?queues,
      ⟨ownedLayers q (served s o rq .done false false (forgetCounts q s)), ?marks, ?flight⟩, ?cues, ?starts, ?slots, ?binds, ?holds,
      ?flags, ?ports⟩
    case frame => exact ForgetFrame.trans (t := served s o rq .done false false (forgetCounts q s)) rfl (forget_frame q _)
    case layers =>
      intro lost i l
      have hlost : namesLost q s.ss.slots (List.finRange 16) = lost := by
        funext src
        cases src with
        | solid _ | stream _ _ => rfl
        | pattern n => rw [namesLost, decide_eq_true (List.mem_finRange n), Bool.true_and]
      rw [← hlost]
      exact forget_layer q hlv i
    case gates => exact forget_gate q _
    case queues => exact forget_queue q hlv hsv
    case marks => exact ownedLayers_get q hlv
    case flight => exact forget_inFlight q _
    case cues =>
      intro c
      refine ⟨fun cue hcue ho => ?_, fun cue hcue ho => ?_, fun hnone => ?_⟩
      · exact (forget_cue q _ c).trans (forgottenCue_own hcue ho)
      · exact (forget_cue q _ c).trans (forgottenCue_other hcue ho)
      · exact (forget_cue q _ c).trans (congrArg (forgottenCue q _) hnone)
    case starts => exact forget_starts q hcv
    case slots => exact forget_slot q _
    case binds => exact forget_bind q _
    case holds => exact forget_hold q _
    case flags => exact forget_flag q _
    case ports => exact forget_port q _

end Sys2Proof.Machine

/-! PROOF. The budget of a loop (R74 to R76), its derate (R75), and the output stages at a lamp (R67 to R72). -/

namespace Sys2Proof.Machine

/-! ## The lamps of a loop (R1) -/

theorem mem_loopLamps {l : LoopNo} {lam : LampNo} : lam ∈ loopLamps l ↔ lampLoop lam = l := by
  rw [loopLamps, List.mem_map]
  constructor
  · rintro ⟨k, -, rfl⟩
    exact lampLoop_lampAt l k
  · rintro rfl
    exact ⟨_, List.mem_finRange _, lampAt_lampLoop lam⟩

/-! ## The current of scaled codes (R74, R76) -/

/-- A colour scaled by `k` parts in 65536. -/
def scaledBy (k : Nat) (d : Rgb) : Rgb := Rgb.each (fun x => x * k / 65536) d

theorem channel_scaled_le (x k a : Nat) : x * k / 65536 * a * 65536 ≤ x * a * k :=
  calc x * k / 65536 * a * 65536 = x * k / 65536 * 65536 * a := Nat.mul_right_comm ..
    _ ≤ x * k * a := Nat.mul_le_mul_right a (Nat.div_mul_le_self ..)
    _ = x * a * k := Nat.mul_right_comm ..

/-- Rounding each code down takes no more current than the scale leaves. -/
theorem lampCurrent_scaled_le (mask : ColourMask) (coeffs d : Rgb) (k : Nat) :
    lampCurrent mask coeffs (scaledBy k d) * 65536 ≤ lampCurrent mask coeffs d * k := by
  have hchannel : ∀ (masked : Bool) (x a : Nat),
      (if masked then 0 else x * k / 65536 * a) * 65536 ≤ (if masked then 0 else x * a) * k := by
    intro masked x a
    cases masked with
    | true => simp
    | false => simpa using channel_scaled_le x k a
  simp only [lampCurrent, scaledBy, Rgb.each, Nat.add_mul]
  exact Nat.add_le_add (Nat.add_le_add (hchannel ..) (hchannel ..)) (hchannel ..)

section
variable (c : Compose) {l : LoopNo} {drive drive' : LampNo → Rgb}

theorem loopEstimate_congr (h : ∀ lam, lampLoop lam = l → drive' lam = drive lam) :
    loopEstimate c drive' l = loopEstimate c drive l := by
  unfold loopEstimate
  refine congrArg List.sum (List.map_congr_left fun lam hlam => ?_)
  rw [h lam (mem_loopLamps.mp hlam)]

theorem loopEstimate_scaled_le {k : Nat} (h : ∀ lam, lampLoop lam = l → drive' lam = scaledBy k (drive lam)) :
    loopEstimate c drive' l * 65536 ≤ loopEstimate c drive l * k := by
  unfold loopEstimate
  rw [← List.sum_map_mul_right, ← List.sum_map_mul_right]
  refine List.sum_le_sum fun lam hlam => ?_
  rw [h lam (mem_loopLamps.mp hlam)]
  split
  · exact lampCurrent_scaled_le ..
  · simp

end

/-! ## The budget judged (R76) -/

theorem loopOuts_get (c : Compose) (l : LoopNo) : (c.loopOuts c.lamps)[l] =
    judgeBudget (loopEstimate c (fun lam => c.lamps[lam].drive) l) c.chains[l].budget (loopDerate c l) :=
  tabulate_get ..

/-- A limiting loop's scale is a factor below 1. -/
theorem judgeBudget_scale_lt {estimate budget derate : Nat} (h : effectiveBudget budget derate < estimate) :
    (judgeBudget estimate budget derate).scale < 65536 := by
  rw [judgeBudget, Nat.div_lt_iff_lt_mul (by omega), Nat.mul_comm]
  exact Nat.mul_lt_mul_of_pos_left h (by omega)

theorem scaleDrive_kept {y : LoopOut} (h : y.limiting = false) (d : Rgb) : scaleDrive y d = d := by
  simp [scaleDrive, h]

theorem scaleDrive_limiting {y : LoopOut} (h : y.limiting = true) (d : Rgb) : scaleDrive y d = scaledBy y.scale d := by
  rw [scaleDrive, if_pos h, scaledBy]

theorem finalOf_get (c : Compose) (lam : LampNo) :
    (finalOf c)[lam] = scaleDrive (c.loopOuts c.lamps)[lampLoop lam] c.lamps[lam].drive := by
  rw [finalOf, finalDrives, mapAt_get]

/-! ## Drive codes in range (R72, R76) -/

theorem outputStages_inRange (c : Compose) (x : Zone) (lam : LampNo) (acc : Acc) :
    codesInRange (outputStages c x lam acc) := by
  have hchannel : ∀ (short : Bool) (v : Nat), (if short then 0 else driveCode v) ≤ 4095 := by
    intro short v
    cases short with
    | true => exact Nat.zero_le _
    | false => exact Nat.min_le_left ..
  exact ⟨hchannel .., hchannel .., hchannel ..⟩

theorem zero_inRange : codesInRange Rgb.zero := ⟨Nat.zero_le _, Nat.zero_le _, Nat.zero_le _⟩

theorem lamps_get (c : Compose) (lam : LampNo) : c.lamps[lam] = lampOut c c.stack lam := tabulate_get ..

theorem lampOut_inRange (c : Compose) (order : List LayerNo) (lam : LampNo) : codesInRange (lampOut c order lam).drive := by
  unfold lampOut
  split
  · exact zero_inRange
  · split
    · exact zero_inRange
    · split
      · exact zero_inRange
      · exact outputStages_inRange ..

theorem scaledBy_inRange {k : Nat} (hk : k < 65536) {d : Rgb} (h : codesInRange d) : codesInRange (scaledBy k d) := by
  have hchannel : ∀ x, x ≤ 4095 → x * k / 65536 ≤ 4095 := by
    intro x hx
    have hdown : x * k ≤ x * 65536 := Nat.mul_le_mul_left x hk.le
    omega
  obtain ⟨hr, hg, hb⟩ := h
  exact ⟨hchannel _ hr, hchannel _ hg, hchannel _ hb⟩

/-! ## The budget kept -/

section
variable {c : Compose} {l : LoopNo}

theorem limiting_iff : (c.loopOuts c.lamps)[l].limiting = true ↔
    loopEstimate c (fun lam => c.lamps[lam].drive) l > effectiveBudget c.chains[l].budget (loopDerate c l) := by
  rw [loopOuts_get, judgeBudget, decide_eq_true_eq]

theorem finalOf_kept (h : (c.loopOuts c.lamps)[l].limiting = false) {lam : LampNo} (hlam : lampLoop lam = l) :
    (finalOf c)[lam] = c.lamps[lam].drive := by
  subst hlam
  rw [finalOf_get, scaleDrive_kept h]

theorem finalOf_limiting (h : (c.loopOuts c.lamps)[l].limiting = true) {lam : LampNo} (hlam : lampLoop lam = l) :
    (finalOf c)[lam] = scaledBy (c.loopOuts c.lamps)[l].scale c.lamps[lam].drive := by
  subst hlam
  rw [finalOf_get, scaleDrive_limiting h]

theorem limiting_scale_lt (h : (c.loopOuts c.lamps)[l].limiting = true) : (c.loopOuts c.lamps)[l].scale < 65536 := by
  rw [loopOuts_get]
  exact judgeBudget_scale_lt (limiting_iff.mp h)

theorem finalOf_inRange (c : Compose) (lam : LampNo) : codesInRange (finalOf c)[lam] := by
  have hdrive : codesInRange c.lamps[lam].drive := lamps_get c lam ▸ lampOut_inRange c c.stack lam
  cases h : (c.loopOuts c.lamps)[lampLoop lam].limiting with
  | false => rwa [finalOf_kept h rfl]
  | true =>
    rw [finalOf_limiting h rfl]
    exact scaledBy_inRange (limiting_scale_lt h) hdrive

/-- The final codes of a limiting loop: scaled by budget over estimate, they take the budget at most. -/
theorem finalOf_estimate_le (c : Compose) (l : LoopNo) :
    loopEstimate c (fun lam => (finalOf c)[lam]) l ≤ effectiveBudget c.chains[l].budget (loopDerate c l) := by
  cases h : (c.loopOuts c.lamps)[l].limiting with
  | false =>
    rw [loopEstimate_congr c fun lam hlam => finalOf_kept h hlam]
    exact Nat.not_lt.mp (limiting_iff.not.mp (Bool.eq_false_iff.mp h))
  | true =>
    have hscaled := loopEstimate_scaled_le c fun lam hlam => finalOf_limiting h hlam
    rw [loopOuts_get] at hscaled
    exact Nat.le_of_mul_le_mul_right (hscaled.trans (Nat.mul_div_le ..)) (by omega)

end

/-- Settles O18: a loop's final codes are its codes, or those codes scaled by budget over estimate. -/
theorem finalCodesKeepTheBudget : Obligations.FinalCodesKeepTheBudget := by
  intro c l
  refine ⟨limiting_iff, fun hle lam hlam => ?_, fun hgt => ⟨?_, fun lam hlam => ?_⟩, finalOf_inRange c, finalOf_estimate_le c l⟩
  · exact finalOf_kept (Bool.eq_false_iff.mpr (limiting_iff.not.mpr (Nat.not_lt.mpr hle))) hlam
  · exact Nat.le_of_lt_succ (judgeBudget_scale_lt hgt)
  · exact (finalOf_limiting (limiting_iff.mpr hgt) hlam).trans (by rw [loopOuts_get]; rfl)

/-! ## The derate (R75) -/

theorem mem_temps {health : Vector Health 384} {l : LoopNo} {t : Int} :
    t ∈ (loopLamps l).filterMap (fun lam => if health[lam].queried then some health[lam].temp else none) ↔
      ∃ lam, lampLoop lam = l ∧ health[lam].queried = true ∧ health[lam].temp = t := by
  simp only [List.mem_filterMap, mem_loopLamps, Option.ite_none_right_eq_some, Option.some.injEq]

theorem hottest_eq_none {health : Vector Health 384} {l : LoopNo} :
    hottest health l = none ↔ ∀ lam, lampLoop lam = l → health[lam].queried = false := by
  rw [hottest, List.max?_eq_none_iff, List.filterMap_eq_nil_iff]
  simp only [mem_loopLamps, ite_eq_right_iff, reduceCtorEq, imp_false, Bool.not_eq_true]

theorem hottest_eq_some {health : Vector Health 384} {l : LoopNo} {t : Int} : hottest health l = some t ↔
    (∃ lam, lampLoop lam = l ∧ health[lam].queried = true ∧ health[lam].temp = t) ∧
      ∀ other, lampLoop other = l → health[other].queried = true → health[other].temp ≤ t := by
  rw [hottest, List.max?_eq_some_iff, mem_temps]
  refine and_congr_right fun _ => ⟨fun h other hl hq => h _ (mem_temps.mpr ⟨other, hl, hq, rfl⟩), fun h b hb => ?_⟩
  obtain ⟨other, hl, hq, rfl⟩ := mem_temps.mp hb
  exact h other hl hq

theorem loopDerate_none {c : Compose} {l : LoopNo} (h : hottest c.health l = none) : loopDerate c l = 65536 := by
  rw [loopDerate, h]

theorem loopDerate_some {c : Compose} {l : LoopNo} {t : Int} (h : hottest c.health l = some t) :
    loopDerate c l = derateAt c.chains[l].knee t := by
  rw [loopDerate, h]

theorem derateAt_cold {k : Nat} {t : Int} (h : t ≤ k) : derateAt k t = 65536 := if_pos h

/-- Between the knee and 40 degrees above it: the line of the rule, above a quarter. -/
theorem derateAt_warm {k : Nat} {t : Int} (hk : k < t) (ht : t < k + 40) :
    (derateAt k t : Int) = 65536 - (t - k) * 49152 / 40 ∧ 16384 < derateAt k t := by
  rw [derateAt, if_neg (by omega), if_pos ht]
  omega

theorem derateAt_hot {k : Nat} {t : Int} (h : k + 40 ≤ t) : derateAt k t = 16384 := by
  rw [derateAt, if_neg (by omega), if_neg (by omega)]

/-- Settles O19: the hottest queried lamp is the maximum the model takes, and the three ranges are those of `derateAt`. -/
theorem derateFollowsTheHottestLamp : Obligations.DerateFollowsTheHottestLamp := by
  intro c l
  refine ⟨fun h => loopDerate_none (hottest_eq_none.mpr h), fun lam hl hq hmax => ?_⟩
  rw [loopDerate_some (hottest_eq_some.mpr ⟨⟨lam, hl, hq, rfl⟩, hmax⟩)]
  exact ⟨derateAt_cold, derateAt_warm, derateAt_hot⟩

/-! ## The glare stage (R69) -/

theorem glareStage_kept {cap : Nat} {col : Rgb} (h : col.peak ≤ cap) : glareStage cap col = col :=
  if_neg (Nat.not_lt.mpr h)

theorem glareStage_capped {cap : Nat} {col : Rgb} (h : cap < col.peak) :
    glareStage cap col = ⟨col.r * cap / col.peak, col.g * cap / col.peak, col.b * cap / col.peak⟩ := if_pos h

/-- A monotone change of every channel changes the greatest one alike. -/
theorem peak_each {f : Nat → Nat} (hf : Monotone f) (col : Rgb) : (Rgb.each f col).peak = f col.peak := by
  rw [Rgb.peak, Rgb.peak, hf.map_max, hf.map_max]
  rfl

theorem peak_glareStage_capped {cap : Nat} {col : Rgb} (h : cap < col.peak) : (glareStage cap col).peak = cap := by
  have hmono : Monotone fun x => x * cap / col.peak := fun x y hxy =>
    Nat.div_le_div_right (Nat.mul_le_mul_right cap hxy)
  rw [glareStage_capped h]
  exact (peak_each hmono col).trans (Nat.mul_div_cancel_left cap (by omega))

theorem peak_glareStage_le (cap : Nat) (col : Rgb) : (glareStage cap col).peak ≤ cap := by
  rcases Nat.lt_or_ge cap col.peak with h | h
  · exact (peak_glareStage_capped h).le
  · rwa [glareStage_kept h]

/-! ## A lamp composed (R4, R56, R59) -/

theorem inZone_eq_false {zones : Vector (Option Zone) 32} {y : ZoneNo} {lam : LampNo} :
    inZone zones y lam = false ↔ ∀ x, zones[y] = some x → zoneHas x lam = false := by
  rw [← Bool.not_eq_true, inZone_eq_true]
  simp only [not_exists, not_and, Bool.not_eq_true]

theorem zoneOf_eq_none {zones : Vector (Option Zone) 32} {lam : LampNo}
    (h : ∀ (y : ZoneNo) (x : Zone), zones[y] = some x → zoneHas x lam = false) : zoneOf zones lam = none :=
  List.find?_eq_none.mpr fun y _ => Bool.eq_false_iff.mp (inZone_eq_false.mpr (h y))

theorem zoneOf_eq_some {zones : Vector (Option Zone) 32} {lam : LampNo} {z : ZoneNo} (hz : inZone zones z lam = true)
    (hother : ∀ (y : ZoneNo) (x : Zone), y ≠ z → zones[y] = some x → zoneHas x lam = false) : zoneOf zones lam = some z :=
  find_finRange_eq_some.mpr ⟨hz, fun y hy => inZone_eq_false.mpr fun x => hother y x hy.ne⟩

section
variable {c : Compose} {order : List LayerNo} {lam : LampNo}

theorem lampOut_in_setup (h : c.inSetup = true) : lampOut c order lam = LampOut.dark := if_pos h

theorem lampOut_of_no_zone (h : zoneOf c.zones lam = none) : lampOut c order lam = LampOut.dark := by
  rw [lampOut, h]
  exact ite_self _

theorem lampOut_of_zone {z : ZoneNo} {x : Zone} (hs : c.inSetup = false) (hz : zoneOf c.zones lam = some z)
    (hx : c.zones[z] = some x) : lampOut c order lam =
      ⟨outputStages c x lam (stackAt c order z lam ((zonePos x lam).getD 0)),
        (stackAt c order z lam ((zonePos x lam).getD 0)).voiders⟩ := by
  rw [lampOut, hs, if_neg Bool.false_ne_true, hz]
  dsimp only
  rw [hx]

end

/-- Settles O20: the glare stage by its two cases, a composed lamp by the zone it lies in. -/
theorem glareStageCapsTheGreatestChannel : Obligations.GlareStageCapsTheGreatestChannel := by
  refine ⟨fun cap col => ⟨peak_glareStage_le cap col, glareStage_kept, fun h =>
      ⟨peak_glareStage_capped h, glareStage_capped h⟩⟩,
    fun c lam => ⟨fun h => (lamps_get c lam).trans ?dark, fun z x q hs hx hq hother => (lamps_get c lam).trans ?composed⟩,
    fun c x lam acc => ⟨fun hg hx => ?glared, fun h => ?kept⟩⟩
  case dark =>
    rcases h with h | h
    · exact lampOut_in_setup h
    · exact lampOut_of_no_zone (zoneOf_eq_none h)
  case composed =>
    have hin : inZone c.zones z lam = true := inZone_eq_true.mpr ⟨x, hx, by rw [zoneHas, hq]; rfl⟩
    rw [lampOut_of_zone hs (zoneOf_eq_some hin hother) hx, hq]
    rfl
  case glared =>
    simp only [outputStages, hg, hx, Bool.and_self, if_true]
  case kept =>
    have hoff : (c.glareOn && x.glare) = false := Bool.and_eq_false_iff.mpr h
    simp only [outputStages, hoff, Bool.false_eq_true, if_false]

end Sys2Proof.Machine

/-! PROOF. Configuration requests of the Compositor, the frame timer and the loops: the refusals they share (R188), bins and
lamp-to-bin map (R71), the glare setting (R68), the frame period (R89), a loop's settings (R73, R160). -/

namespace Sys2Proof.Machine

section
variable {s : State} {o : Origin} {rq : Intake}

/-! ## The checks shared by configuration requests (R188) -/

theorem answer_noRight (ho : ¬Configures o) (rest : Unit → Served) :
    answer ⟨o, rq⟩ (s.popIntake o) (configChecks ⟨o, rq⟩ (s.popIntake o) >>= rest) = turnedAway s o rq .noRight := by
  rw [configChecks, Bool.eq_false_iff.mpr fun e => ho (mayConfigure_iff.mp e)]
  exact refuse_popIntake ..

theorem answer_wrongState (ho : Configures o) (hs : s.ps.state ≠ .setup) (rest : Unit → Served) :
    answer ⟨o, rq⟩ (s.popIntake o) (configChecks ⟨o, rq⟩ (s.popIntake o) >>= rest) = turnedAway s o rq .wrongState := by
  have hout : (s.popIntake o).inSetup = false := beq_eq_false_iff_ne.mpr hs
  rw [configChecks, mayConfigure_iff.mpr ho, hout]
  exact refuse_popIntake ..

theorem configChecks_bind (ho : Configures o) (hs : s.ps.state = .setup) (rest : Unit → Served) :
    (configChecks ⟨o, rq⟩ (s.popIntake o) >>= rest) = rest () := by
  rw [configChecks_pass ho hs]
  rfl

/-! ## SET_BIN -/

theorem exec_setBin (h : Takes s o .setBin rq) : exec (.setBin o) s =
    .next (answer ⟨o, rq⟩ (s.popIntake o) (serveSetBin ⟨o, rq⟩ (setBinArgs rq.data) (s.popIntake o))) :=
  takeRequest_takes (fun tk s => answer tk s (serveSetBin tk (setBinArgs tk.req.data) s)) h

theorem exec_setBin_badValue (h : TakesConfig s o .setBin rq) (hb : 15 < byteAt rq.data 2) :
    exec (.setBin o) s = .next (turnedAway s o rq .badValue) := by
  obtain ⟨ht, ho, hs⟩ := h
  have hnone : fin? 16 (setBinArgs rq.data).bin = none := fin?_ge hb
  rw [exec_setBin ht, serveSetBin, configChecks_bind ho hs, hnone]
  exact congrArg _ (refuse_popIntake ..)

theorem exec_setBin_stored (h : TakesConfig s o .setBin rq) {b : BinNo} (hb : byteAt rq.data 2 = b.val) :
    exec (.setBin o) s = .next (served
      { s with co := { s.co with bins := setAt s.co.bins b ⟨rgbAt rq.data 3, rgbAt rq.data 9⟩ } }
      o rq .done false false []) := by
  obtain ⟨ht, ho, hs⟩ := h
  have hsome : fin? 16 (setBinArgs rq.data).bin = some b := by rw [setBinArgs, hb, fin?_val]
  rw [exec_setBin ht, serveSetBin, configChecks_bind ho hs, hsome, ← done_popIntake]
  rfl

/-! ## SET_LAMP_BIN -/

theorem exec_setLampBin (h : Takes s o .setLampBin rq) : exec (.setLampBin o) s =
    .next (answer ⟨o, rq⟩ (s.popIntake o) (serveSetLampBin ⟨o, rq⟩ (setLampBinArgs rq.data) (s.popIntake o))) :=
  takeRequest_takes (fun tk s => answer tk s (serveSetLampBin tk (setLampBinArgs tk.req.data) s)) h

theorem rangeOk_iff {first count : Nat} : rangeOk first count = true ↔ 1 ≤ count ∧ first + count ≤ 384 := by
  rw [rangeOk, decide_eq_true_eq]
  omega

/-- The map with a range of lamps given to one bin (R71). -/
def binnedMap (map : Vector BinNo 384) (first count : Nat) (b : BinNo) : Vector BinNo 384 :=
  mapAt map fun lam old => if inRange first count lam then b else old

theorem binnedMap_get (map : Vector BinNo 384) (first count : Nat) (b : BinNo) (lam : LampNo) :
    (binnedMap map first count b)[lam] = if first ≤ lam.val ∧ lam.val < first + count then b else map[lam] := by
  rw [binnedMap, mapAt_get]
  simp only [inRange, decide_eq_true_eq]

theorem exec_setLampBin_badValue (h : TakesConfig s o .setLampBin rq)
    (hb : 15 < byteAt rq.data 6 ∨ rangeOk (leAt rq.data 2 2) (leAt rq.data 4 2) = false) :
    exec (.setLampBin o) s = .next (turnedAway s o rq .badValue) := by
  obtain ⟨ht, ho, hs⟩ := h
  rw [exec_setLampBin ht, serveSetLampBin, configChecks_bind ho hs]
  simp only [setLampBinArgs]
  cases hbin : fin? 16 (byteAt rq.data 6) with
  | none => exact congrArg _ (refuse_popIntake ..)
  | some b =>
    have hrange := hb.resolve_left fun hlarge => nomatch (fin?_ge hlarge).symm.trans hbin
    rw [found_some_bind, hrange]
    exact congrArg _ (refuse_popIntake ..)

theorem exec_setLampBin_stored (h : TakesConfig s o .setLampBin rq) {b : BinNo} (hb : byteAt rq.data 6 = b.val)
    (hrange : rangeOk (leAt rq.data 2 2) (leAt rq.data 4 2) = true) : exec (.setLampBin o) s = .next (served
      { s with co := { s.co with lampBin := binnedMap s.co.lampBin (leAt rq.data 2 2) (leAt rq.data 4 2) b } }
      o rq .done false false []) := by
  obtain ⟨ht, ho, hs⟩ := h
  rw [exec_setLampBin ht, serveSetLampBin, configChecks_bind ho hs]
  simp only [setLampBinArgs]
  rw [hb, fin?_val, found_some_bind, hrange, ← done_popIntake]
  rfl

/-! ## SET_GLARE -/

theorem exec_setGlare (h : Takes s o .setGlare rq) : exec (.setGlare o) s =
    .next (answer ⟨o, rq⟩ (s.popIntake o) (serveSetGlare ⟨o, rq⟩ (setGlareArgs rq.data) (s.popIntake o))) :=
  takeRequest_takes (fun tk s => answer tk s (serveSetGlare tk (setGlareArgs tk.req.data) s)) h

theorem exec_setGlare_badValue (h : TakesConfig s o .setGlare rq)
    (hb : flagRef? (byteAt rq.data 2) (byteAt rq.data 3) = none ∨ flagRef? (byteAt rq.data 4) (byteAt rq.data 5) = none) :
    exec (.setGlare o) s = .next (turnedAway s o rq .badValue) := by
  obtain ⟨ht, ho, hs⟩ := h
  rw [exec_setGlare ht, serveSetGlare, configChecks_bind ho hs]
  simp only [setGlareArgs, refAt]
  cases hA : flagRef? (byteAt rq.data 2) (byteAt rq.data 3) with
  | none => exact congrArg _ (refuse_popIntake ..)
  | some refA =>
    have hB := hb.resolve_left fun e => nomatch hA.symm.trans e
    rw [found_some_bind, hB]
    exact congrArg _ (refuse_popIntake ..)

theorem exec_setGlare_stored (h : TakesConfig s o .setGlare rq) {refA refB : Option FlagRef}
    (hA : flagRef? (byteAt rq.data 2) (byteAt rq.data 3) = some refA)
    (hB : flagRef? (byteAt rq.data 4) (byteAt rq.data 5) = some refB) : exec (.setGlare o) s = .next (served
      { s with co := { s.co with glare := ⟨refA, refB, leAt rq.data 6 2⟩ } } o rq .done false false []) := by
  obtain ⟨ht, ho, hs⟩ := h
  rw [exec_setGlare ht, serveSetGlare, configChecks_bind ho hs]
  simp only [setGlareArgs, refAt]
  rw [hA, found_some_bind, hB, found_some_bind, ← done_popIntake]
  rfl

/-! ## SET_FRAME -/

theorem exec_setFrame (h : Takes s o .setFrame rq) : exec (.setFrame o) s =
    .next (answer ⟨o, rq⟩ (s.popIntake o) (serveSetFrame ⟨o, rq⟩ (byteAt rq.data 2) (s.popIntake o))) :=
  takeRequest_takes (fun tk s => answer tk s (serveSetFrame tk (byteAt tk.req.data 2) s)) h

/-- The period that a SET_FRAME selects: 10 ms for 0, else the number brought into 5 to 20 (R89). -/
def framePeriod (n : Nat) : Nat := if n = 0 then 10 else max 5 (min 20 n)

theorem framePeriod_clamped (n : Nat) : n ≠ 0 ∧ framePeriod n ≠ n ↔ n ≠ 0 ∧ (n < 5 ∨ 20 < n) := by
  refine and_congr_right fun hn => ?_
  rw [framePeriod, if_neg hn]
  omega

theorem exec_setFrame_stored (h : TakesConfig s o .setFrame rq) : exec (.setFrame o) s = .next (served
    { s with sc := { s.sc with periodSet := framePeriod (byteAt rq.data 2) } } o rq .done
    (decide (byteAt rq.data 2 ≠ 0 ∧ (byteAt rq.data 2 < 5 ∨ 20 < byteAt rq.data 2))) false []) := by
  obtain ⟨ht, ho, hs⟩ := h
  rw [exec_setFrame ht, serveSetFrame, configChecks_bind ho hs, ← reply_popIntake,
    decide_eq_decide.mpr (framePeriod_clamped (byteAt rq.data 2)).symm]
  rfl

/-! ## SET_CHAIN -/

theorem exec_setChain (h : Takes s o .setChain rq) : exec (.setChain o) s =
    .next (answer ⟨o, rq⟩ (s.popIntake o) (serveSetChain ⟨o, rq⟩ (setChainArgs rq.data) (s.popIntake o))) :=
  takeRequest_takes (fun tk s => answer tk s (serveSetChain tk (setChainArgs tk.req.data) s)) h

/-- The settings that a SET_CHAIN stores (R73). -/
def chainOf (d : List Byte) : Chain := ⟨clampBudget (leAt d 3 2), clampKnee (byteAt d 5)⟩

theorem chainOf_budget_eq_zero {d : List Byte} : (chainOf d).budget = 0 ↔ leAt d 3 2 = 0 := by
  simp only [chainOf, clampBudget]
  omega

theorem chainOf_clamped (d : List Byte) :
    ((chainOf d).budget != leAt d 3 2 || (chainOf d).knee != byteAt d 5) =
      decide (5000 < leAt d 3 2 ∨ byteAt d 5 < 60 ∨ 120 < byteAt d 5) := by
  rw [Bool.eq_iff_iff, Bool.or_eq_true, bne_iff_ne, bne_iff_ne, decide_eq_true_eq]
  simp only [chainOf, clampBudget, clampKnee]
  omega

/-- The state with a loop's settings stored and the request answered, before the loop follows them (R73). -/
def chainStored (s : State) (o : Origin) (rq : Intake) (l : LoopNo) (enable : Bool) : State :=
  served (s.storeChain l (chainOf rq.data) enable) o rq .done
    (decide (5000 < leAt rq.data 3 2 ∨ byteAt rq.data 5 < 60 ∨ 120 < byteAt rq.data 5)) false []

theorem exec_setChain_stored (h : TakesConfig s o .setChain rq) {l : LoopNo} {enable : Bool}
    (hl : byteAt rq.data 2 = l.val) (he : yesNo? (byteAt rq.data 6) = some enable) :
    exec (.setChain o) s = .next ((chainStored s o rq l enable).followSettings l) := by
  obtain ⟨ht, ho, hs⟩ := h
  rw [exec_setChain ht, serveSetChain, configChecks_bind ho hs]
  simp only [setChainArgs]
  rw [hl, he, fin?_val, found_some_bind, found_some_bind, chainStored, ← chainOf_clamped, ← reply_popIntake]
  rfl

theorem chainStored_loop (s : State) (o : Origin) (rq : Intake) (l : LoopNo) (enable : Bool) :
    (chainStored s o rq l enable).lc.loops[l] = { s.lc.loops[l] with enable := enable } :=
  (setAt_get ..).trans (if_pos rfl)

theorem chainStored_chain (s : State) (o : Origin) (rq : Intake) (l : LoopNo) (enable : Bool) :
    (chainStored s o rq l enable).co.chains[l] = chainOf rq.data :=
  (setAt_get ..).trans (if_pos rfl)

end

/-! ## A loop that follows its settings (R160) -/

/-- The loop's settings switch it off: not enabled, or a budget of 0 (R160). -/
def SetOff (u : State) (l : LoopNo) : Prop := u.lc.loops[l].enable = false ∨ u.co.chains[l].budget = 0

theorem setOff_iff {u : State} {l : LoopNo} : (!u.lc.loops[l].enable || u.co.chains[l].budget == 0) = true ↔ SetOff u l := by
  rw [SetOff, Bool.or_eq_true, Bool.not_eq_true', beq_iff_eq]

theorem chainStored_setOff {s : State} {o : Origin} {rq : Intake} {l : LoopNo} {enable : Bool} :
    SetOff (chainStored s o rq l enable) l ↔ enable = false ∨ leAt rq.data 3 2 = 0 := by
  rw [SetOff, chainStored_loop, chainStored_chain, chainOf_budget_eq_zero]

section
variable {u : State} {l : LoopNo}

theorem followSettings_kept (h : SetOff u l ↔ u.lc.loops[l].state = .off) : u.followSettings l = u := by
  unfold State.followSettings
  by_cases hoff : SetOff u l
  · rw [if_pos (setOff_iff.mpr hoff), if_pos (h.mp hoff)]
  · rw [if_neg (setOff_iff.not.mpr hoff), if_neg (h.not.mp hoff)]

theorem followSettings_off (hoff : SetOff u l) (hst : u.lc.loops[l].state ≠ .off) : u.followSettings l =
    (u.setLoop l u.lc.loops[l].switchedOff).notifyAll
      (.chainState l .disabled .off u.lc.loops[l].state u.lc.loops[l].nodes u.lc.loops[l].nodes) := by
  unfold State.followSettings
  rw [if_pos (setOff_iff.mpr hoff), if_neg hst]
  rfl

theorem followSettings_on (hon : ¬SetOff u l) (hst : u.lc.loops[l].state = .off) : u.followSettings l =
    ((u.clearQueried l).setLoop l u.lc.loops[l].switchedOn).notifyAll
      (.chainState l .enabled .discovering .off u.lc.loops[l].nodes u.lc.loops[l].nodes) := by
  unfold State.followSettings
  rw [if_neg (setOff_iff.not.mpr hon), if_pos hst, ← hst]
  rfl

end

/-! ## The three statements -/

/-- Settles O30: each request by its checks in turn; the map that SET_LAMP_BIN stores is `binnedMap`. -/
theorem binRequestsReplaceBinsAndMap : Obligations.BinRequestsReplaceBinsAndMap := by
  refine fun o s rq => ⟨fun h => ⟨fun ho => ?binNoRight, fun ho hs => ?binWrongState, fun ho hs =>
      ⟨exec_setBin_badValue ⟨h, ho, hs⟩, fun b => exec_setBin_stored ⟨h, ho, hs⟩⟩⟩,
    fun h => ⟨fun ho => ?mapNoRight, fun ho hs => ?mapWrongState, fun ho hs =>
      ⟨fun hbad => ?mapBadValue, fun b hb hcount hlast => ?mapStored⟩⟩⟩
  case binNoRight => exact (exec_setBin h).trans (congrArg _ (answer_noRight ho _))
  case binWrongState => exact (exec_setBin h).trans (congrArg _ (answer_wrongState ho hs _))
  case mapNoRight => exact (exec_setLampBin h).trans (congrArg _ (answer_noRight ho _))
  case mapWrongState => exact (exec_setLampBin h).trans (congrArg _ (answer_wrongState ho hs _))
  case mapBadValue =>
    refine exec_setLampBin_badValue ⟨h, ho, hs⟩ (hbad.imp_right fun hrange => ?_)
    rw [← Bool.not_eq_true, rangeOk_iff]
    omega
  case mapStored =>
    exact ⟨_, exec_setLampBin_stored ⟨h, ho, hs⟩ hb (rangeOk_iff.mpr ⟨hcount, hlast⟩), binnedMap_get _ _ _ b⟩

/-- Settles O33: a refused flag reference is one that `flagRef?` does not read. -/
theorem glareAndFramePeriodAreStored : Obligations.GlareAndFramePeriodAreStored :=
  fun _ _ _ => ⟨fun h => ⟨fun hbad => exec_setGlare_badValue h (hbad.imp flagRef?_eq_none.mpr flagRef?_eq_none.mpr),
    fun _ _ => exec_setGlare_stored h⟩, exec_setFrame_stored⟩

/-- Settles O34: the settings are stored, and the loop follows them in the three ways of R160. -/
theorem setChainSwitchesTheLoop : Obligations.SetChainSwitchesTheLoop := by
  intro o s rq l enable h hl he budget knee chain off x s1
  have hstored := exec_setChain_stored h hl he
  have hloop := chainStored_loop s o rq l enable
  have hoff : SetOff (chainStored s o rq l enable) l ↔ off := chainStored_setOff
  have hstate : (chainStored s o rq l enable).lc.loops[l].state = x.state := by rw [hloop]
  refine ⟨fun hsame => ?kept, fun ho hx => ?off, fun ho hx => ?on⟩
  case kept =>
    rw [hstored, followSettings_kept (by rw [hoff, hstate, hsame])]
    rfl
  case off =>
    rw [hstored, followSettings_off (hoff.mpr ho) (hstate ▸ hx), hloop]
    rfl
  case on =>
    rw [hstored, followSettings_on (hoff.not.mpr ho) (hstate.trans hx)]
    have hloops (y : Loop) : setAt ((chainStored s o rq l enable).clearQueried l).lc.loops l y = setAt s.lc.loops l y :=
      setAt_setAt ..
    rw [hloop, State.setLoop, hloops]
    rfl

end Sys2Proof.Machine

/-! PROOF. What an event code's actions and a teardown's ends touch: ports, cue records and the start queue (R100,
R101, R110, R132). -/

namespace Sys2Proof.Machine

theorem StartsFrame.notifyAll (s : State) (n : Notice) : StartsFrame s (s.notifyAll n) :=
  foldl_related StartsFrame.refl StartsFrame.trans (fun u o => .notify u o n) _ s

theorem StartsFrame.setCue (s : State) (c : CueNo) (x : Option Cue) : StartsFrame s (s.setCue c x) := rfl

theorem StartsFrame.setStartQueue (s : State) (q : List StartEntry) : StartsFrame s (s.setStartQueue q) := rfl

theorem StartsFrame.endCue (s : State) (c : CueNo) (cue : Cue) (why : EndReason) : StartsFrame s (s.endCue c cue why) :=
  (StartsFrame.setCue ..).trans (.notify ..)

theorem StartsFrame.endCuesWhere (s : State) (p : Cue → Bool) (why : EndReason) :
    StartsFrame s (s.endCuesWhere p why) := by
  refine foldl_related StartsFrame.refl StartsFrame.trans (fun u c => ?_) _ s
  split
  · exact .refl u
  · split
    · exact .endCue ..
    · exact .refl u

theorem StartsFrame.endAllCues (s : State) (why : EndReason) : StartsFrame s (s.endAllCues why) :=
  (StartsFrame.endCuesWhere ..).trans (.setStartQueue ..)

theorem StartsFrame.schedule (s : State) (c : CueNo) (cue : Cue) (start : Time) (o : Origin) :
    StartsFrame s (s.schedule c cue start o) := by
  unfold State.schedule
  dsimp only
  split
  · exact ((StartsFrame.setCue ..).trans (.setStartQueue ..)).trans (.notify ..)
  · exact (StartsFrame.setCue ..).trans (.setStartQueue ..)

theorem StartsFrame.stop (s : State) (c : CueNo) (cue : Cue) : StartsFrame s (s.stop c cue) := by
  unfold State.stop
  split
  · exact .refl s
  · exact (StartsFrame.setStartQueue ..).trans (.endCue ..)
  · split
    · exact .setCue ..
    · exact .endCue ..
  · exact .endCue ..

theorem StartsFrame.actStart (s : State) (c : CueNo) (cue : Cue) (stamp : Time) (o : Origin) :
    StartsFrame s (s.actStart c cue stamp o) := by
  unfold State.actStart
  split
  · exact .refl s
  · exact .schedule ..

theorem StartsFrame.act (s : State) (e : BindEntry) (stamp : Time) : StartsFrame s (s.act e stamp) := by
  unfold State.act
  split
  · split
    · exact .refl s
    · split
      · exact .actStart ..
      · exact .stop ..
      · split
        · exact .actStart ..
        · exact .stop ..
  · exact .refl s

theorem StartsFrame.matchCode (s : State) (src : CodeSource) (code : Byte) (stamp : Time) :
    StartsFrame s (s.matchCode src code stamp) :=
  (foldl_related StartsFrame.refl StartsFrame.trans (fun u e => .act u e stamp) _ s).trans (.notifyAll ..)

/-- Codes matched one after the other (R124). -/
theorem StartsFrame.matchCodes (s : State) (l : List WakeEntry) :
    StartsFrame s (l.foldl (fun u w => u.matchCode (.line w.line (codeEdge w.code)) w.code w.stamp) s) := by
  apply foldl_related StartsFrame.refl StartsFrame.trans
  exact fun u w => .matchCode ..

end Sys2Proof.Machine

/-! PROOF. The law of the frame timer and the wake list along every step (R90, R124, R190, R192): what the law reads, what
leaves that as it is, and the commands that move the part state or the timer. -/

namespace Sys2Proof.Machine

/-- What the law of the frame timer reads: the part state, the wake event's time, whether the timer runs, whether a compose is in
flight, and the wake list. -/
def timerParts (s : State) : PartState × Option Time × Bool × Bool × List WakeEntry :=
  (s.ps.state, s.ps.wakeSince, s.sc.nextFrame.isSome, s.co.inFlight.isSome, s.tu.wakeList)

/-- What touches ports, cue records, the start queue and layers alone leaves those parts. -/
theorem CueFrame.timer {s t : State} (h : CueFrame s t) : timerParts t = timerParts s := by
  unfold CueFrame at h
  rw [h]
  rfl

theorem StartsFrame.timer {s t : State} (h : StartsFrame s t) : timerParts t = timerParts s := by
  unfold StartsFrame at h
  rw [h]
  rfl

theorem SlotsFrame.timer {s t : State} (h : SlotsFrame s t) : timerParts t = timerParts s := by
  unfold SlotsFrame at h
  rw [h]
  rfl

section
variable (s : State)

/-! ## Replies, notices, ports -/

@[simp] theorem reply_timer (tk : Taken) (c : Code) (clamped replaced : Bool) (result : List Byte) :
    timerParts (s.reply tk c clamped replaced result) = timerParts s := rfl
@[simp] theorem done_timer (tk : Taken) (result : List Byte) : timerParts (s.done tk result) = timerParts s := rfl
@[simp] theorem setPort_timer (o : Origin) (p : Port) : timerParts (s.setPort o p) = timerParts s := rfl

@[simp] theorem notify_timer (o : Origin) (n : Notice) : timerParts (s.notify o n) = timerParts s :=
  (StartsFrame.notify s o n).timer

@[simp] theorem notifyAll_timer (n : Notice) : timerParts (s.notifyAll n) = timerParts s :=
  (StartsFrame.notifyAll s n).timer

@[simp] theorem setChan_timer (ch : Chan) (c : Channel) : timerParts (s.setChan ch c) = timerParts s := by
  cases ch <;> rfl

@[simp] theorem offer_timer (o : Origin) (rq : Intake) : timerParts (s.offer o rq) = timerParts s := by
  unfold State.offer
  dsimp only
  split <;> rfl

@[simp] theorem finishSend_timer (ch : Chan) (o : Origin) : timerParts (s.finishSend ch o) = timerParts s :=
  setChan_timer ..

@[simp] theorem channelErr_timer (ch : Chan) (kind : ErrorKind) : timerParts (s.channelErr ch kind) = timerParts s := by
  unfold State.channelErr
  dsimp only
  split
  · exact setChan_timer ..
  · exact setChan_timer ..

/-! ## Cues, codes, lines, holds -/

@[simp] theorem schedule_timer (c : CueNo) (cue : Cue) (start : Time) (o : Origin) :
    timerParts (s.schedule c cue start o) = timerParts s := (StartsFrame.schedule s c cue start o).timer
@[simp] theorem stop_timer (c : CueNo) (cue : Cue) : timerParts (s.stop c cue) = timerParts s :=
  (StartsFrame.stop s c cue).timer
@[simp] theorem emptyCue_timer (c : CueNo) (cue : Cue) (why : EndReason) :
    timerParts (s.emptyCue c cue why) = timerParts s := (emptyCue_frame s c cue why).timer
@[simp] theorem unbindWhere_timer (p : BindEntry → Bool) : timerParts (s.unbindWhere p) = timerParts s := rfl
@[simp] theorem endCuesWhere_timer (p : Cue → Bool) (why : EndReason) :
    timerParts (s.endCuesWhere p why) = timerParts s := (CueFrame.endCuesWhere s p why).timer
@[simp] theorem endAllCues_timer (why : EndReason) : timerParts (s.endAllCues why) = timerParts s :=
  (StartsFrame.endAllCues s why).timer
@[simp] theorem matchCode_timer (src : CodeSource) (code : Byte) (stamp : Time) :
    timerParts (s.matchCode src code stamp) = timerParts s := (StartsFrame.matchCode s src code stamp).timer

theorem setLineRec_timer (t : LineNo) (x : Line) : timerParts (s.setLineRec t x) = timerParts s := rfl
theorem setCapture_timer (t : LineNo) (x : Capture) : timerParts (s.setCapture t x) = timerParts s := rfl

@[simp] theorem mirrorTo_timer (f : Option FlagNo) (v : Bool) : timerParts (s.mirrorTo f v) = timerParts s := by
  cases f <;> rfl

@[simp] theorem replaceLine_timer (t : LineNo) (x : Line) : timerParts (s.replaceLine t x) = timerParts s :=
  (mirrorTo_timer ..).trans (mirrorTo_timer ..)

@[simp] theorem giveFlag_timer (f : FlagNo) (w : Writer) : timerParts (s.giveFlag f w) = timerParts s := by
  unfold State.giveFlag
  split <;> rfl

@[simp] theorem setBind_timer (i : BindNo) (e : Option BindEntry) : timerParts (s.setBind i e) = timerParts s := rfl

@[simp] theorem unbindSame_timer (o : Origin) (code mask : Byte) :
    timerParts (s.unbindSame o code mask) = timerParts s := by
  unfold State.unbindSame
  split <;> rfl

@[simp] theorem takeHold_timer (tk : Taken) (z : ZoneNo) (tier : Tier) :
    timerParts (takeHold tk z tier s) = timerParts s := by
  unfold takeHold
  dsimp only
  split
  · rfl
  · split
    · rfl
    · split
      · exact notify_timer ..
      · rfl

/-! ## Layers -/

/-- Freeing layers marks a compose in flight, and leaves it in flight (R67). -/
@[simp] theorem freeLayersWhere_timer (p : LayerNo → Layer → Bool) : timerParts (s.freeLayersWhere p) = timerParts s := by
  simp only [timerParts, freeLayersWhere_inFlight, Option.isSome_map]
  rfl

@[simp] theorem makeEdit_timer (o : Origin) (i : LayerNo) (e : Edit) : timerParts (s.makeEdit o i e) = timerParts s := by
  unfold State.makeEdit
  dsimp only
  split <;> rfl

theorem openGates_timer : timerParts s.openGates = timerParts s := rfl
theorem releaseHolds_timer : timerParts s.releaseHolds = timerParts s := rfl
theorem applyGates_timer : timerParts s.applyGates = timerParts s := rfl

@[simp] theorem expireGate_timer (o : Origin) : timerParts (s.expireGate o) = timerParts s := notify_timer ..

theorem forgetRest_timer (o : Origin) : timerParts (forgetRest o s) = timerParts s := rfl
theorem forgottenCopies_timer (o : Origin) : timerParts (forgottenCopies o s) = timerParts s := rfl

/-- FORGET in its stages: cues, layers, slots, and what reads no timer (R147). -/
@[simp] theorem forget_timer (o : Origin) : timerParts (s.forget o) = timerParts s := by
  have hcues := (forgetCues_frame o (forgottenCopies o s)).timer
  have hslots := (forgetSlots_frame o (forgottenLayers o s)).timer
  rw [forget_eq, forgetRest_timer, hslots, forgottenLayers, freeLayersWhere_timer, hcues, forgottenCopies_timer]

/-! ## Loops -/

@[simp] theorem changeLoop_timer (l : LoopNo) (x : Loop) (cause : LoopCause) :
    timerParts (s.changeLoop l x cause) = timerParts s := notifyAll_timer ..

@[simp] theorem clearQueried_timer (l : LoopNo) : timerParts (s.clearQueried l) = timerParts s := rfl
@[simp] theorem storeChain_timer (l : LoopNo) (c : Chain) (enable : Bool) :
    timerParts (s.storeChain l c enable) = timerParts s := rfl

@[simp] theorem followSettings_timer (l : LoopNo) : timerParts (s.followSettings l) = timerParts s := by
  unfold State.followSettings
  dsimp only
  repeat' split
  all_goals simp

@[simp] theorem endHoldoff_timer (l : LoopNo) : timerParts (s.endHoldoff l) = timerParts s := changeLoop_timer ..

@[simp] theorem applyQuery_timer (l : LoopNo) (q : Nat) (st : StatusWord) :
    timerParts (s.applyQuery l q st) = timerParts s := by
  unfold State.applyQuery State.applyStatus
  dsimp only
  split
  · rfl
  · split
    · rfl
    · exact notifyAll_timer ..

@[simp] theorem countFailure_timer (l : LoopNo) : timerParts (s.countFailure l) = timerParts s := by
  unfold State.countFailure
  dsimp only
  split
  · exact changeLoop_timer ..
  · rfl

@[simp] theorem actOn_timer (l : LoopNo) (v : Verdict) : timerParts (s.actOn l v) = timerParts s := by
  cases v with
  | discovered n => exact changeLoop_timer ..
  | noNodes => exact changeLoop_timer ..
  | noReturn => exact changeLoop_timer ..
  | good q st => exact applyQuery_timer ..
  | failed => exact countFailure_timer ..

end

/-! ## Commands that leave those parts as they are -/

/-- The two states agree in what the law of the frame timer reads. -/
def SameTimer (s t : State) : Prop := timerParts t = timerParts s

section
variable {s n : State}

theorem unchanged_timer : WhenNext (SameTimer s) (.next s) := whenNext_next.mpr rfl

theorem live_timer (h : timerParts n = timerParts s) : WhenNext (SameTimer s) (s.live n) := whenNext_live rfl fun _ => h

theorem liveWhen_timer {c : Bool} (h : timerParts n = timerParts s) : WhenNext (SameTimer s) (s.liveWhen c n) :=
  whenNext_liveWhen rfl fun _ _ => h

theorem taken_timer {k : Option Kind} {o : Origin} {serve : Taken → State → State}
    (h : ∀ tk u, timerParts (serve tk u) = timerParts u) : WhenNext (SameTimer s) (takeRequest k o s serve) :=
  whenNext_takeRequest rfl rfl (fun _ => rfl) fun rq => h ⟨o, rq⟩ (s.popIntake o)

theorem answered_timer {k : Option Kind} {o : Origin} {serve : Taken → State → Served}
    (h : ∀ tk u, WhenServed (fun t => timerParts t = timerParts u) (serve tk u)) :
    WhenNext (SameTimer s) (takeRequest k o s fun tk u => answer tk u (serve tk u)) :=
  taken_timer fun tk u => answer_keeps (P := fun t => timerParts t = timerParts u) (fun _ => rfl) (h tk u)

theorem atLastFrame_timer {c : CueNo} {cond : Time → Cue → Bool} {next : Cue → State}
    (h : ∀ cue, timerParts (next cue) = timerParts s) : WhenNext (SameTimer s) (atLastFrame s c cond next) := by
  unfold atLastFrame
  split
  · exact liveWhen_timer (h _)
  · exact unchanged_timer

end

/-- The commands that move the part state, the frame timer, the compose in flight or the wake list. -/
def movesTimer : Instr → Bool
  | .powerOn .. => true
  | .resetPinAssert => true
  | .resetPinRelease .. => true
  | .frameReceived .. => true
  | .setClock .. => true
  | .enterRun .. => true
  | .enterSetup .. => true
  | .sleep .. => true
  | .restart .. => true
  | .frameStart => true
  | .composeComplete => true
  | .lineChangeAccepted .. => true
  | .settle => true
  | .wakeCompletion => true
  | _ => false

/-- Every other command leaves those parts as they are. -/
theorem exec_sameTimer (c : Instr) (hc : movesTimer c = false) (s : State) : WhenNext (SameTimer s) (exec c s) := by
  cases c with
  | powerOn _ _ | resetPinAssert | resetPinRelease _ | frameReceived _ _ _ _ | setClock _ | enterRun _ | enterSetup _
  | sleep _ | restart _ | frameStart | composeComplete | lineChangeAccepted _ | settle | wakeCompletion => cases hc
  -- requests whose work rewrites records outside those parts
  | setOrigin _ | setZone _ | clearZone _ | setBin _ | setLampBin _ | setGlare _ | setFrame _ | setWatch _ | writePattern _
  | definePattern _ | deletePattern _ | writeKeys _ | defineCue _ | trimClock _ | subscribe _ | readCapture _ | openLayer _
  | showLayer _ | hideLayer _ | releaseZone _ | setFlags _ | clearHealth _ | unbind _ =>
    simp only [exec, execSetOrigin, execSetZone, execClearZone, execSetBin, execSetLampBin, execSetGlare, execSetFrame,
      execSetWatch, execWritePattern, execDefinePattern, execDeletePattern, execWriteKeys, execDefineCue, execTrimClock,
      execSubscribe, execReadCapture, execOpenLayer, execShowLayer, execHideLayer, execReleaseZone, execSetFlags,
      execClearHealth, execUnbind]
    refine answered_timer fun tk u => ?_
    simp only [serveSetOrigin, serveSetZone, serveClearZone, serveSetBin, serveSetLampBin, serveSetGlare, serveSetFrame,
      serveSetWatch, serveWritePattern, serveDefinePattern, serveDeletePattern, serveWriteKeys, serveDefineCue,
      serveTrimClock, serveSubscribe, serveReadCapture, serveOpenLayer, serveShowLayer, serveHideLayer, serveReleaseZone,
      serveSetFlags, serveClearHealth, serveUnbind, whenServed_bind, whenServed_pure]
    intros
    rfl
  -- requests whose work goes through an operation of its own
  | setChain _ | setLine _ | setFlagOwner _ | deleteCue _ | bind _ | editLayer _ | closeLayer _ | startCue _ | stopCue _
  | holdZone _ | trigger _ | forget _ =>
    simp only [exec, execSetChain, execSetLine, execSetFlagOwner, execDeleteCue, execBind, execEditLayer, execCloseLayer,
      execStartCue, execStopCue, execHoldZone, execTrigger, execForget]
    refine answered_timer fun tk u => ?_
    simp [serveSetChain, serveSetLine, serveSetFlagOwner, serveDeleteCue, serveBind, serveEditLayer, serveCloseLayer,
      serveStartCue, serveStopCue, serveHoldZone, serveTrigger, serveForget]
  | gateClose _ | gateOpen _ =>
    simp only [exec, execGateClose, execGateOpen]
    refine answered_timer fun tk u => ?_
    simp only [serveGateClose, serveGateOpen, whenServed_bind, whenServed_pure]
    intro _ _
    split <;> rfl
  | requestUnknownKind _ | timeQuery _ | readStatus _ =>
    simp only [exec, execRequestUnknownKind, execTimeQuery, execReadStatus]
    refine taken_timer fun tk u => ?_
    rfl
  | streamFrame _ =>
    simp only [exec, execStreamFrame]
    refine taken_timer fun tk u => ?_
    unfold serveStreamFrame
    split <;> rfl
  | trimCorrection => exact liveWhen_timer rfl
  | cueNaturalEnd c => exact atLastFrame_timer fun cue => (CueFrame.naturalEnd s c cue).timer
  | cueReleaseEnd c => exact atLastFrame_timer fun cue => (CueFrame.endCue s c cue _).timer
  | streamStale q =>
    change WhenNext (SameTimer s) (execStreamStale q s)
    unfold execStreamStale
    split
    · exact unchanged_timer
    · exact liveWhen_timer rfl
  | holdoffEnd l => exact liveWhen_timer (endHoldoff_timer ..)
  | quietThreshold l =>
    change WhenNext (SameTimer s) (execQuietThreshold l s)
    unfold execQuietThreshold
    split
    · exact unchanged_timer
    · exact liveWhen_timer (changeLoop_timer ..)
  | loopReturnReceived l ret =>
    change WhenNext (SameTimer s) (execLoopReturnReceived l ret s)
    unfold execLoopReturnReceived
    split
    · exact unchanged_timer
    · exact live_timer (actOn_timer ..)
  | loopReturnTimeout l =>
    change WhenNext (SameTimer s) (execLoopReturnTimeout l s)
    unfold execLoopReturnTimeout
    split
    · exact unchanged_timer
    · exact liveWhen_timer (actOn_timer ..)
  | loopFailed l ret =>
    change WhenNext (SameTimer s) (execLoopFailed l ret s)
    unfold execLoopFailed
    split
    · exact unchanged_timer
    · exact liveWhen_timer (actOn_timer ..)
  | gateExpiry o => exact liveWhen_timer (expireGate_timer ..)
  | lineRawChange t level =>
    change WhenNext (SameTimer s) (execLineRawChange t level s)
    unfold execLineRawChange
    dsimp only
    split
    · exact unchanged_timer
    · split <;> exact whenNext_next.mpr rfl
  | frameTransmitStart ch =>
    change WhenNext (SameTimer s) (execFrameTransmitStart ch s)
    unfold execFrameTransmitStart
    split
    · exact unchanged_timer
    · exact liveWhen_timer rfl
  | frameTransmitted ch =>
    change WhenNext (SameTimer s) (execFrameTransmitted ch s)
    unfold execFrameTransmitted
    split
    · exact unchanged_timer
    · exact liveWhen_timer (finishSend_timer ..)
  | channelError ch kind => exact liveWhen_timer (channelErr_timer ..)
  | channelRecovery ch => exact liveWhen_timer (setChan_timer ..)
  | loopBurstEnd l =>
    change WhenNext (SameTimer s) (execLoopBurstEnd l s)
    unfold execLoopBurstEnd
    dsimp only
    split
    · exact unchanged_timer
    · exact liveWhen_timer rfl

/-! ## Commands that move them -/

theorem TimerSound.of_same {s t : State} (h : TimerSound s) (hst : timerParts t = timerParts s) : TimerSound t := by
  simp only [timerParts, Prod.mk.injEq] at hst
  obtain ⟨hstate, hwake, htimer, hflight, hlist⟩ := hst
  have htimer' : t.sc.nextFrame = none ↔ s.sc.nextFrame = none := by
    rw [← Option.not_isSome_iff_eq_none, htimer, Option.not_isSome_iff_eq_none]
  have hflight' : t.co.inFlight = none ↔ s.co.inFlight = none := by
    rw [← Option.not_isSome_iff_eq_none, hflight, Option.not_isSome_iff_eq_none]
  unfold TimerSound
  rw [htimer', hflight', hstate, hwake, hlist]
  exact h

/-- Outside ASLEEP and WAKING the law asks for a running timer, no wake event's time, and an empty wake list. -/
theorem timerSound_awake {s : State} (hstate : s.ps.state ≠ .asleep ∧ s.ps.state ≠ .waking) :
    TimerSound s ↔ s.sc.nextFrame.isSome = true ∧ s.ps.wakeSince = none ∧ s.tu.wakeList = [] := by
  obtain ⟨hasleep, hwaking⟩ := hstate
  constructor
  · rintro ⟨htimer, -, hwake, -, hlist⟩
    refine ⟨Option.isSome_iff_ne_none.mpr fun e => ?_, Option.not_isSome_iff_eq_none.mp fun e => hwaking (hwake.mp e),
      hlist hwaking⟩
    exact (htimer.mp e).elim hasleep hwaking
  · rintro ⟨htimer, hwake, hlist⟩
    have hnone : s.sc.nextFrame ≠ none := Option.isSome_iff_ne_none.mp htimer
    unfold TimerSound
    rw [hwake, hlist]
    simp [hasleep, hwaking, hnone]

theorem takes_awake {p : PartState} (h : p.takes = true) : p ≠ .asleep ∧ p ≠ .waking := by
  constructor <;> rintro rfl <;> cases h

/-- A request is taken only where the part is awake, and keeps the law when its owning block's work does so there (R178). -/
theorem TimerSound.request {s : State} (hs : TimerSound s) {k : Option Kind} {o : Origin} {serve : Taken → State → Served}
    (hserve : ∀ tk u, u.ps.state.takes = true → TimerSound u → WhenServed TimerSound (serve tk u)) :
    WhenNext TimerSound (takeRequest k o s fun tk u => answer tk u (serve tk u)) := by
  have hpop : TimerSound (s.popIntake o) := hs.of_same rfl
  cases ht : s.ps.state.takes with
  | false => rw [takeRequest_waits _ ht]; exact whenNext_next.mpr hs
  | true =>
    exact whenNext_takeRequest hs hpop (fun _ => hs.of_same rfl) fun rq =>
      answer_keeps (fun _ => hs.of_same rfl) (hserve ⟨o, rq⟩ _ ht hpop)

section
variable {s : State} (hs : TimerSound s)
include hs

/-- A wake event finds no compose in flight and stamps the wake (R190, R192). -/
theorem TimerSound.wakeEvent (hasleep : s.ps.state = .asleep) {w : List WakeEntry} (hw : w.length ≤ 8) :
    TimerSound (s.setWakeList w).wakeEvent := by
  obtain ⟨htimer, hflight, -⟩ := hs
  have hwoken : (s.setWakeList w).wakeEvent =
      { s.setWakeList w with ps := { s.ps with state := .waking, wakeSince := some s.sc.local' } } := by
    unfold State.wakeEvent
    rw [show (s.setWakeList w).ps.state = .asleep from hasleep]
    rfl
  rw [hwoken]
  exact ⟨⟨fun _ => .inr rfl, fun _ => htimer.mpr (.inl hasleep)⟩, fun _ => hflight (.inl hasleep), ⟨fun _ => rfl, fun _ => rfl⟩,
    hw, fun h => absurd rfl h⟩

theorem TimerSound.receive (ch : Chan) (o : Origin) (data : List Byte) : TimerSound (s.receive ch o data) := by
  have hwake : ∀ u, timerParts u = timerParts s → TimerSound u.wakeEvent := by
    intro u hu
    have hsound := hs.of_same hu
    cases hstate : u.ps.state with
    | asleep =>
      obtain ⟨-, -, -, hlen, -⟩ := id hsound
      exact hsound.wakeEvent hstate (w := u.tu.wakeList) hlen
    | setup | run | settling | waking =>
      rw [State.wakeEvent, hstate]
      exact hsound
  unfold State.receive State.countReceived
  dsimp only
  have hport := hwake (((s.setChan ch { s.chan ch with rxErrors := (s.chan ch).rxErrors - 1 }).setPort o
    { (s.setChan ch { s.chan ch with rxErrors := (s.chan ch).rxErrors - 1 }).port o with home := ch }))
    ((setPort_timer ..).trans (setChan_timer ..))
  split
  · exact hport
  · exact hport.of_same (offer_timer ..)

/-- From an awake state the law goes to any awake state whose timer runs (R90). -/
theorem TimerSound.awake {t : State} (hstate : s.ps.state ≠ .asleep ∧ s.ps.state ≠ .waking)
    (ht : t.ps.state ≠ .asleep ∧ t.ps.state ≠ .waking) (htimer : t.sc.nextFrame.isSome = true)
    (hwake : t.ps.wakeSince = s.ps.wakeSince) (hlist : t.tu.wakeList = s.tu.wakeList) : TimerSound t := by
  obtain ⟨-, hnone, hempty⟩ := (timerSound_awake hstate).mp hs
  exact (timerSound_awake ht).mpr ⟨htimer, hwake.trans hnone, hlist.trans hempty⟩

theorem TimerSound.setPartState {p : PartState} (hstate : s.ps.state ≠ .asleep ∧ s.ps.state ≠ .waking)
    (hp : p ≠ .asleep ∧ p ≠ .waking) : TimerSound (s.setPartState p) :=
  hs.awake hstate hp ((timerSound_awake hstate).mp hs).1 rfl rfl

theorem TimerSound.setScene (hstate : s.ps.state ≠ .asleep ∧ s.ps.state ≠ .waking) (c : Time) : TimerSound (s.setScene c) :=
  hs.awake hstate hstate rfl rfl rfl

theorem TimerSound.enterSetup (hstate : s.ps.state ≠ .asleep ∧ s.ps.state ≠ .waking) : TimerSound s.enterSetup := by
  have hparts : timerParts ((s.endAllCues .stopped).openGates.freeLayersWhere fun _ l => l.state != .free).releaseHolds =
      timerParts s := by
    rw [releaseHolds_timer, freeLayersWhere_timer, openGates_timer, endAllCues_timer]
  have hstate' := congrArg Prod.fst hparts
  simp only [timerParts] at hstate'
  exact (hs.of_same hparts).setPartState (by rwa [hstate']) (by decide)

/-- A compose that completes leaves the part state and the timer (R57). -/
theorem TimerSound.completeCompose (c : Compose) : TimerSound (s.completeCompose c) := by
  obtain ⟨htimer, -, hrest⟩ := hs
  rw [completeCompose_frame]
  exact ⟨htimer, fun _ => rfl, hrest⟩

end

theorem fresh_timer (strap : Fin 8) (raw : LineNo → Bool) (pending : List Instr) (n : Nat) :
    timerParts (State.fresh strap raw pending n) = timerParts State.reset := rfl

theorem timerSound_restarted (s : State) : TimerSound s.restarted :=
  have hsetup : s.restarted.ps.state = .setup := rfl
  (timerSound_awake (by rw [hsetup]; decide)).mpr ⟨rfl, rfl, rfl⟩

/-! ## Frame starts, edges, settle and wake -/

theorem cuesAtFrame_timer (s : State) (tf : Time) :
    timerParts (((s.raiseFrame tf).applyGates.dueStarts tf).cueEnds tf) = timerParts (s.raiseFrame tf) := by
  have hstarts := (CueFrame.dueStarts (s.raiseFrame tf).applyGates tf).timer
  rw [(CueFrame.cueEnds _ tf).timer, hstarts, (StartsFrame.setStartQueue ..).timer, applyGates_timer]

/-- A frame start leaves part state and wake list, with the timer running and a compose in flight (R56, R87). -/
theorem frameStart_timer (s : State) (tf : Time) :
    timerParts (s.frameStart tf) = (s.ps.state, s.ps.wakeSince, true, true, s.tu.wakeList) := by
  have hcues := cuesAtFrame_timer s tf
  rw [frameStart_framed]
  generalize ((s.raiseFrame tf).applyGates.dueStarts tf).cueEnds tf = u at hcues ⊢
  rw [beginCompose_framed]
  simp only [timerParts, Prod.mk.injEq] at hcues ⊢
  obtain ⟨hstate, hwake, htimer, -, hlist⟩ := hcues
  exact ⟨hstate, hwake, htimer, rfl, hlist⟩

theorem TimerSound.frameStart {s : State} (hstate : s.ps.state ≠ .asleep ∧ s.ps.state ≠ .waking)
    (hwake : s.ps.wakeSince = none) (hlist : s.tu.wakeList = []) (tf : Time) : TimerSound (s.frameStart tf) := by
  have h := frameStart_timer s tf
  simp only [timerParts, Prod.mk.injEq] at h
  obtain ⟨hstate', hwake', htimer, -, hlist'⟩ := h
  exact (timerSound_awake (by rwa [hstate'])).mpr ⟨htimer, hwake'.trans hwake, hlist'.trans hlist⟩

section
variable {s : State} (hs : TimerSound s)
include hs

/-- The wake list takes a pair while it has a place (R124). -/
theorem TimerSound.addWake (hstate : s.ps.state = .waking) (t : LineNo) (e : EdgeKind) (stamp : Time) :
    TimerSound (s.addWake t e stamp) := by
  unfold State.addWake
  split
  · next hplace =>
    obtain ⟨htimer, hflight, hwake, -, -⟩ := hs
    exact ⟨htimer, hflight, hwake, by simpa [wakePlaces] using hplace, fun h => absurd hstate h⟩
  · exact hs.of_same (notifyAll_timer ..)

/-- In ASLEEP the wake list is empty, so the edge of a wake line finds a place and begins the wake (R124, R192). -/
theorem TimerSound.wakeEdge (hstate : s.ps.state = .asleep) (t : LineNo) (e : EdgeKind) (stamp : Time) :
    TimerSound (s.addWake t e stamp).wakeEvent := by
  obtain ⟨-, -, -, -, hempty⟩ := id hs
  have hlist : s.tu.wakeList = [] := hempty (by rw [hstate]; decide)
  unfold State.addWake
  rw [hlist]
  exact hs.wakeEvent hstate (w := [⟨edgeCode t e, stamp, t⟩]) (by simp)

theorem TimerSound.handleEdge (t : LineNo) (e : EdgeKind) (stamp : Time) : TimerSound (s.handleEdge t e stamp) := by
  unfold State.handleEdge
  cases hstate : s.ps.state with
  | run | settling => exact hs.of_same (matchCode_timer ..)
  | setup => exact hs.of_same (notifyAll_timer ..)
  | waking => exact hs.addWake hstate ..
  | asleep =>
    dsimp only
    split
    · exact hs.wakeEdge hstate ..
    · exact hs.of_same (notifyAll_timer ..)

theorem TimerSound.takeEdge (t : LineNo) (e : EdgeKind) : TimerSound (s.takeEdge t e) := by
  unfold State.takeEdge
  dsimp only
  exact TimerSound.handleEdge (hs.of_same (setCapture_timer ..)) ..

theorem TimerSound.acceptChange (t : LineNo) (level : Bool) : TimerSound (s.acceptChange t level) := by
  have hline (x : Line) : TimerSound (s.setLineRec t x) := hs.of_same (setLineRec_timer ..)
  unfold State.acceptChange
  dsimp only
  split
  · exact (hline _).of_same (mirrorTo_timer ..)
  · split
    · exact (hline _).takeEdge ..
    · exact hline _

/-- The settle event stops the timer with no compose in flight (R90, R190, R191). -/
theorem TimerSound.settle (hready : s.settleReady = true) : TimerSound s.settleLoops.fallAsleep := by
  simp only [State.settleReady, Bool.and_eq_true, beq_iff_eq, Option.isNone_iff_eq_none] at hready
  obtain ⟨⟨hstate, hflight⟩, -⟩ := hready
  obtain ⟨-, hwake, hlist⟩ := (timerSound_awake (by rw [hstate]; decide)).mp hs
  have hends := endAllCues_timer (s.settleLoops.setPartState .asleep) .sleep
  unfold State.fallAsleep
  dsimp only
  generalize (s.settleLoops.setPartState .asleep).endAllCues .sleep = u at hends ⊢
  simp only [timerParts, Prod.mk.injEq] at hends
  obtain ⟨hasleep, hwake', -, hflight', hlist'⟩ := hends
  replace hasleep : u.ps.state = .asleep := hasleep
  replace hwake' : u.ps.wakeSince = none := hwake'.trans hwake
  replace hlist' : u.tu.wakeList = [] := hlist'.trans hlist
  replace hflight' : u.co.inFlight = none :=
    Option.not_isSome_iff_eq_none.mp (by rw [hflight']; exact Option.not_isSome_iff_eq_none.mpr hflight)
  refine ⟨⟨fun _ => .inl hasleep, fun _ => rfl⟩, fun _ => hflight', ?_, ?_, fun _ => hlist'⟩
  · change u.ps.wakeSince.isSome = true ↔ u.ps.state = .waking
    rw [hwake', hasleep]
    decide
  · change u.tu.wakeList.length ≤ 8
    rw [hlist']
    decide

/-- Asserting the RESET pin ends the compose in flight and leaves part state, timer and wake list (R58, R193). -/
theorem TimerSound.abandonWork : TimerSound s.abandonWork.zeroClocks.holdReset := by
  obtain ⟨htimer, -, hrest⟩ := hs
  exact ⟨htimer, fun _ => rfl, hrest⟩

end

/-- A wake completes in RUN with an empty wake list, and its frame start sets the timer going (R90, R192). -/
theorem timerSound_completeWake (s : State) : TimerSound s.completeWake := by
  have hmatched : timerParts s.wakeUp.wakeLoops.matchWakeList = timerParts (s.wakeUp.wakeLoops.setWakeList []) :=
    (StartsFrame.matchCodes ..).timer
  unfold State.completeWake
  dsimp only
  generalize s.wakeUp.wakeLoops.matchWakeList = u at hmatched ⊢
  simp only [timerParts, Prod.mk.injEq] at hmatched
  obtain ⟨hstate, hwake, -, -, hlist⟩ := hmatched
  have hrun : u.ps.state = .run := hstate
  exact TimerSound.frameStart (by rw [hrun]; decide) hwake hlist _

/-! ## Every step -/

/-- The commands that move part state, timer or wake list keep the law, each by its own rule. -/
theorem exec_timerSound (c : Instr) (hc : movesTimer c = true) {s : State} (hs : TimerSound s) :
    WhenNext TimerSound (exec c s) := by
  cases c with
  | powerOn strap raw => exact whenNext_next.mpr (timerSound_reset.of_same (fresh_timer ..))
  | resetPinAssert => exact whenNext_live hs fun _ => hs.abandonWork
  | resetPinRelease strap =>
    refine whenNext_next.mpr ?_
    split
    · exact timerSound_reset.of_same (fresh_timer ..)
    · exact hs
  | frameReceived ch fmt ident data =>
    change WhenNext TimerSound (execFrameReceived ch fmt ident data s)
    unfold execFrameReceived
    split
    · exact whenNext_liveWhen hs fun _ _ => hs.receive ..
    · exact whenNext_next.mpr hs
  | setClock o =>
    simp only [exec, execSetClock]
    refine hs.request fun tk u ht hu => ?_
    simp only [serveSetClock, whenServed_bind, whenServed_pure]
    intros
    exact (hu.setScene (takes_awake ht) _).of_same (done_timer ..)
  | enterRun o =>
    simp only [exec, execEnterRun]
    refine hs.request fun tk u ht hu => ?_
    simp only [serveEnterRun, whenServed_bind, whenServed_pure]
    intro _ _
    split
    · exact (hu.setPartState (takes_awake ht) (by decide)).of_same (done_timer ..)
    · exact hu.of_same (done_timer ..)
  | enterSetup o =>
    simp only [exec, execEnterSetup]
    refine hs.request fun tk u ht hu => ?_
    simp only [serveEnterSetup, whenServed_bind, whenServed_pure]
    intro _ _
    have hdone := hu.of_same (done_timer u tk [])
    split
    · exact hdone
    · exact hdone.enterSetup (takes_awake ht)
  | sleep o =>
    simp only [exec, execSleep]
    refine hs.request fun tk u ht hu => ?_
    simp only [serveSleep, whenServed_bind, whenServed_pure]
    intros
    exact (hu.setPartState (takes_awake ht) (by decide)).of_same (done_timer ..)
  | restart o =>
    simp only [exec, execRestart]
    refine hs.request fun tk u _ _ => ?_
    simp only [serveRestart, whenServed_bind, whenServed_pure]
    intros
    exact (timerSound_restarted u).of_same (done_timer ..)
  | frameStart =>
    change WhenNext TimerSound (execFrameStart s)
    unfold execFrameStart
    split
    · exact whenNext_next.mpr hs
    · next tf htf =>
      refine whenNext_liveWhen hs fun _ hdue => ?_
      obtain ⟨-, -, hstate, -⟩ := (frameDue_iff htf).mp hdue
      have hawake : s.ps.state ≠ .asleep ∧ s.ps.state ≠ .waking := by rcases hstate with h | h <;> rw [h] <;> decide
      obtain ⟨-, hwake, hlist⟩ := (timerSound_awake hawake).mp hs
      exact .frameStart hawake hwake hlist tf
  | composeComplete =>
    change WhenNext TimerSound (execComposeComplete s)
    unfold execComposeComplete
    split
    · exact whenNext_next.mpr hs
    · exact whenNext_live hs fun _ => hs.completeCompose _
  | lineChangeAccepted t =>
    change WhenNext TimerSound (execLineChangeAccepted t s)
    unfold execLineChangeAccepted
    split
    · exact whenNext_next.mpr hs
    · exact whenNext_liveWhen hs fun _ _ => hs.acceptChange ..
  | settle => exact whenNext_liveWhen hs fun _ hready => hs.settle hready
  | wakeCompletion => exact whenNext_liveWhen hs fun _ _ => timerSound_completeWake s
  | _ => cases hc

/-- Settles O16: the commands that move the part state or the timer keep the law, and all others leave what it reads. -/
theorem stepsKeepTheTimerWithThePartState : Obligations.StepsKeepTheTimerWithThePartState := by
  refine keptByStep_of_exec (fun s q hs => hs.of_same rfl) (fun s hs => hs.of_same rfl) fun c s hs => ?_
  cases hc : movesTimer c with
  | true => exact exec_timerSound c hc hs
  | false => exact fun t ht => hs.of_same (exec_sameTimer c hc s t ht)

end Sys2Proof.Machine

/-! PROOF. One microsecond (R78, R80, R81), what the part does on an empty queue, and the trim over many microseconds. -/

namespace Sys2Proof.Machine

theorem trimSuspended_iff {s : State} : s.trimSuspended = true ↔ s.ps.state = .asleep ∨ s.ps.state = .waking := by
  rw [State.trimSuspended, Bool.or_eq_true, beq_iff_eq, beq_iff_eq]

theorem trimSuspended_eq_false {s : State} : s.trimSuspended = false ↔ ¬(s.ps.state = .asleep ∨ s.ps.state = .waking) := by
  rw [← Bool.not_eq_true, trimSuspended_iff]

/-- The corrector acts in the microsecond in which the accumulator passes 2^24, and is suspended in ASLEEP and WAKING (R81). -/
theorem trimDue_iff {s : State} : s.trimDue = true ↔
    ¬(s.ps.state = .asleep ∨ s.ps.state = .waking) ∧ 2 ^ 24 ≤ s.sc.acc.toNat + s.sc.trim.toNat := by
  rw [State.trimDue, Bool.and_eq_true, Bool.not_eq_true', trimSuspended_eq_false, decide_eq_true_eq, State.trimSum]

/-! ## One microsecond -/

section
variable {s : State}

theorem clockStep_idle (h : s.trimDue = false) : s.clockStep = 1 := by
  rw [State.clockStep, h]
  rfl

theorem clockStep_due (h : s.trimDue = true) : s.clockStep = if s.sc.sense = .add then 2 else 0 := by
  rw [State.clockStep, h]
  cases s.sc.sense <;> rfl

theorem microsecond_scene : s.microsecond.sc.scene = s.sc.scene + BitVec.ofNat 48 s.clockStep := rfl

theorem microsecond_local : s.microsecond.sc.local' = s.sc.local' + 1 := rfl

/-- A microsecond touches both clocks and the accumulator alone. -/
theorem microsecond_frame : s.microsecond = { s with sc := s.microsecond.sc } ∧
    s.microsecond.sc = { s.sc with scene := s.microsecond.sc.scene, local' := s.microsecond.sc.local',
                                   acc := s.microsecond.sc.acc } := ⟨rfl, rfl⟩

theorem microsecond_acc_suspended (h : s.trimSuspended = true) : s.microsecond.sc.acc = s.sc.acc := if_pos h

theorem microsecond_acc (h : s.trimSuspended = false) : s.microsecond.sc.acc = s.sc.acc + s.sc.trim := by
  have hacc : s.microsecond.sc.acc = BitVec.ofNat 24 s.trimSum := if_neg (by rw [h]; decide)
  rw [hacc, State.trimSum]
  exact BitVec.eq_of_toNat_eq (by simp)

theorem microsecond_scene_idle (h : s.trimDue = false) : s.microsecond.sc.scene = s.sc.scene + 1 := by
  rw [microsecond_scene, clockStep_idle h]
  rfl

theorem microsecond_scene_due (h : s.trimDue = true) :
    s.microsecond.sc.scene = s.sc.scene + if s.sc.sense = .add then 2 else 0 := by
  rw [microsecond_scene, clockStep_due h]
  split <;> rfl

/-! ## The empty queue -/

theorem step_empty_held (hq : s.pending = []) (h : s.ps.resetHeld = true) : step s = .next s := by
  rw [step, hq]
  exact if_pos h

theorem step_empty_due (hq : s.pending = []) (h : s.ps.resetHeld = false) {c : Instr} (hc : s.due = some c) :
    step s = exec c s := by
  have hown : step s = ownStep s := by rw [step, hq]
  rw [hown, ownStep, h, hc]
  rfl

theorem step_empty_idle (hq : s.pending = []) (h : s.ps.resetHeld = false) (hc : s.due = none) :
    step s = .next s.microsecond := by
  have hown : step s = ownStep s := by rw [step, hq]
  rw [hown, ownStep, h, hc]
  rfl

end

/-- Settles O2: the three branches of a step on an empty queue, and the microsecond by whether the corrector acts. -/
theorem idleTakesTheDueStepOrOneMicrosecond : Obligations.IdleTakesTheDueStepOrOneMicrosecond := by
  intro s hq
  refine ⟨step_empty_held hq, fun h c => step_empty_due hq h, fun h hc =>
    ⟨s.microsecond, step_empty_idle hq h hc, microsecond_frame.1, microsecond_local, microsecond_frame.2, ?_⟩⟩
  split
  · next hs =>
    exact ⟨microsecond_scene_idle (Bool.eq_false_iff.mpr fun e => (trimDue_iff.mp e).1 hs),
      microsecond_acc_suspended (trimSuspended_iff.mpr hs)⟩
  · next hs =>
    exact ⟨microsecond_acc (trimSuspended_eq_false.mpr hs),
      fun hlow => microsecond_scene_idle (Bool.eq_false_iff.mpr fun e => Nat.not_le.mpr hlow (trimDue_iff.mp e).2),
      fun hhigh => microsecond_scene_due (trimDue_iff.mpr ⟨hs, hhigh⟩)⟩

/-! ## Many microseconds -/

/-- How often the accumulator has passed 2^24 after `n` microseconds of the corrector (R81). -/
def trimPasses (s : State) (n : Nat) : Nat := (s.sc.acc.toNat + n * s.sc.trim.toNat) / 2 ^ 24

/-- A pass takes a microsecond at least, as the trim is below 2^24. -/
theorem trimPasses_le (s : State) (n : Nat) : trimPasses s n ≤ n := by
  have hacc := s.sc.acc.isLt
  have htrim : n * s.sc.trim.toNat ≤ n * (2 ^ 24 - 1) := Nat.mul_le_mul_left n (by have := s.sc.trim.isLt; omega)
  unfold trimPasses
  omega

/-- The state after `n` microseconds of a corrector that is not suspended. -/
structure TrimmedFor (s : State) (n : Nat) (t : State) : Prop where
  rest : t.ps = s.ps ∧ t.sc.trim = s.sc.trim ∧ t.sc.sense = s.sc.sense
  clock : t.sc.local' = s.sc.local' + BitVec.ofNat 48 n
  acc : t.sc.acc = BitVec.ofNat 24 (s.sc.acc.toNat + n * s.sc.trim.toNat)
  add : s.sc.sense = .add → t.sc.scene = s.sc.scene + BitVec.ofNat 48 (n + trimPasses s n)
  subtract : s.sc.sense = .subtract → t.sc.scene = s.sc.scene + BitVec.ofNat 48 (n - trimPasses s n)

theorem TrimmedFor.zero (s : State) : TrimmedFor s 0 s := by
  have hpasses : trimPasses s 0 = 0 := by
    have := s.sc.acc.isLt
    simp only [trimPasses]
    omega
  refine ⟨⟨rfl, rfl, rfl⟩, by simp, by simp, fun _ => ?_, fun _ => ?_⟩ <;> simp [hpasses]

/-- The accumulator passes 2^24 in the next microsecond exactly where the number of passes rises. -/
theorem TrimmedFor.passes {s t : State} {n : Nat} (h : TrimmedFor s n t) (hs : s.trimSuspended = false) :
    trimPasses s (n + 1) = trimPasses s n + if t.trimDue = true then 1 else 0 := by
  obtain ⟨⟨hps, htrim, -⟩, -, hacc, -, -⟩ := h
  have hawake : ¬(t.ps.state = .asleep ∨ t.ps.state = .waking) := hps ▸ trimSuspended_eq_false.mp hs
  have hlt := s.sc.trim.isLt
  have hmul : (n + 1) * s.sc.trim.toNat = n * s.sc.trim.toNat + s.sc.trim.toNat := Nat.succ_mul ..
  have hdue : t.trimDue = true ↔
      2 ^ 24 ≤ (s.sc.acc.toNat + n * s.sc.trim.toNat) % 2 ^ 24 + s.sc.trim.toNat := by
    rw [trimDue_iff, hacc, htrim, BitVec.toNat_ofNat]
    exact and_iff_right hawake
  simp only [hdue, trimPasses, hmul]
  split <;> omega

theorem TrimmedFor.step {s t : State} {n : Nat} (h : TrimmedFor s n t) (hs : s.trimSuspended = false) :
    TrimmedFor s (n + 1) t.microsecond := by
  have hpasses := h.passes hs
  have hle := trimPasses_le s n
  obtain ⟨⟨hps, htrim, hsense⟩, hclock, hacc, hadd, hsub⟩ := h
  have hsuspended : t.trimSuspended = false := by rwa [State.trimSuspended, hps]
  have hstep {k : Nat} (hscene : t.sc.scene = s.sc.scene + BitVec.ofNat 48 k) : t.microsecond.sc.scene =
      s.sc.scene + BitVec.ofNat 48 (k + t.clockStep) := by
    rw [microsecond_scene, hscene, BitVec.ofNat_add, BitVec.add_assoc]
  refine ⟨⟨hps, htrim, hsense⟩, ?clock, ?acc, fun hk => ?add, fun hk => ?subtract⟩
  case clock =>
    rw [microsecond_local, hclock, BitVec.ofNat_add, BitVec.add_assoc]
    rfl
  case acc =>
    rw [microsecond_acc hsuspended, hacc, htrim, Nat.succ_mul, ← Nat.add_assoc]
    simp only [BitVec.ofNat_add, BitVec.ofNat_toNat, BitVec.setWidth_eq]
  case add =>
    rw [hstep (hadd hk), hpasses]
    cases hdue : t.trimDue with
    | false => rw [clockStep_idle hdue, if_neg (by decide)]; congr 2; omega
    | true => rw [clockStep_due hdue, if_pos (hsense.trans hk), if_pos rfl]; congr 2; omega
  case subtract =>
    rw [hstep (hsub hk), hpasses]
    cases hdue : t.trimDue with
    | false => rw [clockStep_idle hdue, if_neg (by decide)]; congr 2; omega
    | true => rw [clockStep_due hdue, if_neg (by rw [hsense, hk]; decide), if_pos rfl]; congr 2; omega

/-- Settles O26, by induction on the microseconds: the passes counted so far, and the accumulator's remainder. -/
theorem trimGainsItsRate : Obligations.TrimGainsItsRate := by
  intro n s hs
  have htrimmed : TrimmedFor s n (Nat.iterate State.microsecond n s) := by
    induction n with
    | zero => exact .zero s
    | succ n ih =>
      rw [Function.iterate_succ_apply']
      exact ih.step hs
  exact ⟨htrimmed.clock, htrimmed.acc, htrimmed.add, htrimmed.subtract⟩

end Sys2Proof.Machine

/-! PROOF. SET_CLOCK, TRIM_CLOCK and the trim correction (R81 to R84, R114). -/

namespace Sys2Proof.Machine

section
variable {o : Origin} {s : State} {rq : Intake}

/-! ## SET_CLOCK -/

/-- Only the time source sets and trims the clock (R82, R83). -/
theorem requireTimeSource_passes {f : Unit → Served} (h : s.ot.timeSource = o) :
    (require (decide (s.ot.timeSource ≠ o)) .notOwner >>= f) = f () := by
  rw [decide_eq_false (not_not.mpr h), require_false_bind]

theorem requireTimeSource_fails {f : Unit → Served} (h : s.ot.timeSource ≠ o) :
    (require (decide (s.ot.timeSource ≠ o)) .notOwner >>= f) = .error .notOwner := by
  rw [decide_eq_true h, require_true_bind]

theorem exec_setClock (h : Takes s o .setClock rq) : exec (.setClock o) s =
    .next (answer ⟨o, rq⟩ (s.popIntake o) (serveSetClock ⟨o, rq⟩ (setClockArgs rq.data) (s.popIntake o))) :=
  takeRequest_takes (fun tk s => answer tk s (serveSetClock tk (setClockArgs tk.req.data) s)) h

theorem exec_setClock_notOwner (h : Takes s o .setClock rq) (hsource : s.ot.timeSource ≠ o) :
    exec (.setClock o) s = .next (turnedAway s o rq .notOwner) := by
  rw [exec_setClock h, serveSetClock, requireTimeSource_fails (s := s.popIntake o) hsource]
  exact congrArg _ (refuse_popIntake ..)

theorem exec_setClock_badValue (h : Takes s o .setClock rq) (hsource : s.ot.timeSource = o) (hmode : 1 < byteAt rq.data 2) :
    exec (.setClock o) s = .next (turnedAway s o rq .badValue) := by
  have hbad : decide ((setClockArgs rq.data).mode > 1) = true := decide_eq_true hmode
  rw [exec_setClock h, serveSetClock, requireTimeSource_passes (s := s.popIntake o) hsource, hbad]
  exact congrArg _ (refuse_popIntake ..)

/-- The clock that a SET_CLOCK sets: the value, or the present clock stepped by it (R83). -/
def setClockTo (s : State) (d : List Byte) : Time :=
  if byteAt d 2 = 0 then BitVec.ofNat 48 (leAt d 3 6) else s.sc.scene + BitVec.ofNat 48 (leAt d 3 6)

theorem exec_setClock_set (h : Takes s o .setClock rq) (hsource : s.ot.timeSource = o) (hmode : byteAt rq.data 2 ≤ 1) :
    exec (.setClock o) s = .next (served (s.setScene (setClockTo s rq.data)) o rq .done false false
      (timeBytes (setClockTo s rq.data))) := by
  have hgood : decide ((setClockArgs rq.data).mode > 1) = false := decide_eq_false (Nat.not_lt.mpr hmode)
  rw [exec_setClock h, serveSetClock, requireTimeSource_passes (s := s.popIntake o) hsource, hgood, ← done_popIntake]
  rfl

theorem setClockTo_eq {c : Time} {d : List Byte} (h : byteAt d 2 = 0 ∧ c = BitVec.ofNat 48 (leAt d 3 6) ∨
    byteAt d 2 = 1 ∧ c = s.sc.scene + BitVec.ofNat 48 (leAt d 3 6)) : byteAt d 2 ≤ 1 ∧ setClockTo s d = c := by
  rcases h with ⟨hmode, rfl⟩ | ⟨hmode, rfl⟩
  · exact ⟨by omega, if_pos hmode⟩
  · exact ⟨by omega, if_neg (by omega)⟩

/-- A cue after a step of the clock: a running or releasing one keeps its phase (R84, R114). -/
theorem setScene_cue (c : Time) (i : CueNo) : (s.setScene c).ce.cues[i] = s.ce.cues[i].map fun cue =>
    { cue with run := match cue.run with
        | .running start latest => .running (start + (c - s.sc.scene)) latest
        | .releasing start rel frozen => .releasing (start + (c - s.sc.scene)) (rel + (c - s.sc.scene)) frozen
        | run => run } := by
  have hcues : (s.setScene c).ce.cues =
      mapAt s.ce.cues fun _ x => x.map fun cue => { cue with run := shiftRun (c - s.sc.scene) cue.run } := rfl
  simp only [hcues, mapAt_get]
  refine Option.map_congr fun cue _ => ?_
  cases cue.run <;> rfl

/-! ## TRIM_CLOCK -/

theorem exec_trimClock (h : Takes s o .trimClock rq) : exec (.trimClock o) s =
    .next (answer ⟨o, rq⟩ (s.popIntake o) (serveTrimClock ⟨o, rq⟩ (trimClockArgs rq.data) (s.popIntake o))) :=
  takeRequest_takes (fun tk s => answer tk s (serveTrimClock tk (trimClockArgs tk.req.data) s)) h

theorem exec_trimClock_notOwner (h : Takes s o .trimClock rq) (hsource : s.ot.timeSource ≠ o) :
    exec (.trimClock o) s = .next (turnedAway s o rq .notOwner) := by
  rw [exec_trimClock h, serveTrimClock, requireTimeSource_fails (s := s.popIntake o) hsource]
  exact congrArg _ (refuse_popIntake ..)

theorem exec_trimClock_badValue (h : Takes s o .trimClock rq) (hsource : s.ot.timeSource = o)
    (hsense : trimSense? (byteAt rq.data 5) = none) : exec (.trimClock o) s = .next (turnedAway s o rq .badValue) := by
  have hnone : trimSense? (trimClockArgs rq.data).sense = none := hsense
  rw [exec_trimClock h, serveTrimClock, requireTimeSource_passes (s := s.popIntake o) hsource, hnone]
  exact congrArg _ (refuse_popIntake ..)

theorem exec_trimClock_set (h : Takes s o .trimClock rq) (hsource : s.ot.timeSource = o) {sense : TrimSense}
    (hsense : trimSense? (byteAt rq.data 5) = some sense) : exec (.trimClock o) s = .next (served
      { s with sc := { s.sc with trim := BitVec.ofNat 24 (leAt rq.data 2 3), sense := sense, acc := 0 } }
      o rq .done false false []) := by
  have hsome : trimSense? (trimClockArgs rq.data).sense = some sense := hsense
  rw [exec_trimClock h, serveTrimClock, requireTimeSource_passes (s := s.popIntake o) hsource, hsome, ← done_popIntake]
  rfl

/-! ## TRIM_CORRECTION -/

theorem exec_trimCorrection_idle (h : s.trimDue = false) : exec .trimCorrection s = .next s := by
  change s.liveWhen s.trimDue s.microsecond = _
  rw [h, liveWhen_false]

theorem exec_trimCorrection_due (hr : s.ps.resetHeld = false) (h : s.trimDue = true) :
    exec .trimCorrection s = .next s.microsecond := by
  change s.liveWhen s.trimDue s.microsecond = _
  rw [h, liveWhen_true _ hr]

/-- The microsecond in which the corrector acts (R81). -/
theorem microsecond_due (h : s.trimDue = true) : s.microsecond =
    { s with sc := { s.sc with scene := s.sc.scene + (if s.sc.sense = .add then 2 else 0)
                               local' := s.sc.local' + 1
                               acc := s.sc.acc + s.sc.trim } } := by
  have hawake := trimSuspended_eq_false.mpr (trimDue_iff.mp h).1
  rw [microsecond_frame.1, microsecond_frame.2, microsecond_scene_due h, microsecond_acc hawake, microsecond_local]

end

/-- Settles O43: each request by its origin and its fields, and the correction by whether it is due. -/
theorem clockRequestsSetStepAndTrim : Obligations.ClockRequestsSetStepAndTrim := by
  refine ⟨fun o s rq => ⟨fun h => ⟨exec_setClock_notOwner h, exec_setClock_badValue h, fun hsource c hc => ?set⟩,
    fun h => ⟨exec_trimClock_notOwner h, exec_trimClock_badValue h, fun hsource _ => exec_trimClock_set h hsource⟩⟩,
    fun s hr => ⟨fun hidle => ?idle, fun hasleep hwaking hpass => ?due⟩⟩
  case set =>
    obtain ⟨hmode, hclock⟩ := setClockTo_eq hc
    refine ⟨(s.setScene c).ce.cues, ?_, setScene_cue c⟩
    rw [exec_setClock_set h hsource hmode, hclock]
    rfl
  case idle =>
    refine exec_trimCorrection_idle (Bool.eq_false_iff.mpr fun hdue => ?_)
    obtain ⟨hawake, hpass⟩ := trimDue_iff.mp hdue
    rcases hidle with hasleep | hwaking | hlow
    · exact hawake (.inl hasleep)
    · exact hawake (.inr hwaking)
    · omega
  case due =>
    have hdue : s.trimDue = true := trimDue_iff.mpr ⟨not_or.mpr ⟨hasleep, hwaking⟩, hpass⟩
    rw [exec_trimCorrection_due hr hdue, microsecond_due hdue]

end Sys2Proof.Machine

/-! PROOF. TIME_QUERY, SUBSCRIBE, READ_CAPTURE and READ_STATUS: what they report, at the places of 11.7 (R86, R122, R185, R186). -/

namespace Sys2Proof.Machine

/-! ## Bytes and fields -/

theorem oneByte_toNat (n : Nat) : (oneByte n).toNat = n % 256 := BitVec.toNat_ofNat ..

theorem oneByte_toNat_of_lt {n : Nat} (h : n < 256) : (oneByte n).toNat = n := by
  rw [oneByte_toNat, Nat.mod_eq_of_lt h]

/-- A two-byte field of a frame is read back (11.7). -/
theorem leAt_two {d : List Byte} {i x : Nat} (hlow : byteAt d i = (oneByte x).toNat)
    (hhigh : byteAt d (i + 1) = (oneByte (x / 256)).toNat) (hx : x < 2 ^ 16) : leAt d i 2 = x := by
  simp only [leAt, hlow, hhigh, oneByte_toNat]
  omega

/-- A four-byte field of a frame is read back (11.7). -/
theorem leAt_four {d : List Byte} {i x : Nat} (h0 : byteAt d i = (oneByte x).toNat)
    (h1 : byteAt d (i + 1) = (oneByte (x / 256)).toNat) (h2 : byteAt d (i + 2) = (oneByte (x / 256 / 256)).toNat)
    (h3 : byteAt d (i + 3) = (oneByte (x / 256 / 256 / 256)).toNat) (hx : x < 2 ^ 32) : leAt d i 4 = x := by
  simp only [leAt, Nat.add_assoc, Nat.reduceAdd] at *
  rw [h0, h1, h2, h3]
  simp only [oneByte_toNat]
  omega

/-- A mark set read as a number has the bit of each mark (11.7). -/
theorem markSet_testBit {n : Nat} (f : Fin n → Bool) (i : Fin n) : (markSet f).toNat.testBit i.val = f i :=
  markSet_getLsbD f i

section
variable {o : Origin} {s : State} {rq : Intake}

/-! ## TIME_QUERY, SUBSCRIBE, READ_CAPTURE -/

theorem senseByte_eq (x : TrimSense) : senseByte x = if x = .add then 0 else 1 := by cases x <;> rfl

theorem edgeByte_eq (e : EdgeKind) : edgeByte e = if e = .rise then 0 else 1 := by cases e <;> rfl

theorem exec_timeQuery (h : Takes s o .timeQuery rq) : exec (.timeQuery o) s =
    .next (served s o rq .done false false (timeQueryBytes ⟨o, rq⟩ s)) := by
  rw [← done_popIntake]
  exact takeRequest_takes (fun tk s => s.done tk (timeQueryBytes tk s)) h

theorem exec_subscribe (h : Takes s o .subscribe rq) : exec (.subscribe o) s =
    .next (answer ⟨o, rq⟩ (s.popIntake o) (serveSubscribe ⟨o, rq⟩ (leAt rq.data 2 2) (s.popIntake o))) :=
  takeRequest_takes (fun tk s => answer tk s (serveSubscribe tk (leAt tk.req.data 2 2) s)) h

theorem exec_subscribe_badValue (h : Takes s o .subscribe rq) (hmask : 1024 ≤ leAt rq.data 2 2) :
    exec (.subscribe o) s = .next (turnedAway s o rq .badValue) := by
  have hbad : decide (leAt rq.data 2 2 ≥ 2 ^ 10) = true := decide_eq_true hmask
  rw [exec_subscribe h, serveSubscribe, hbad]
  exact congrArg _ (refuse_popIntake ..)

/-- A port's mask may be replaced before its front request is popped, or after (R185). -/
theorem setMask_popIntake (mask : BitVec 10) :
    (s.popIntake o).setPort o { (s.popIntake o).port o with mask := mask } =
      (s.setPort o { s.port o with mask := mask }).popIntake o := by
  simp [State.popIntake]

theorem exec_subscribe_stored (h : Takes s o .subscribe rq) (hmask : leAt rq.data 2 2 < 1024) :
    exec (.subscribe o) s = .next (served (s.setPort o { s.port o with mask := BitVec.ofNat 10 (leAt rq.data 2 2) })
      o rq .done false false (leBytes 2 (leAt rq.data 2 2))) := by
  have hgood : decide (leAt rq.data 2 2 ≥ 2 ^ 10) = false := decide_eq_false (Nat.not_le.mpr hmask)
  rw [exec_subscribe h, serveSubscribe, hgood, ← done_popIntake, ← setMask_popIntake]
  rfl

theorem exec_readCapture (h : Takes s o .readCapture rq) : exec (.readCapture o) s =
    .next (answer ⟨o, rq⟩ (s.popIntake o) (serveReadCapture ⟨o, rq⟩ (byteAt rq.data 2) (s.popIntake o))) :=
  takeRequest_takes (fun tk s => answer tk s (serveReadCapture tk (byteAt tk.req.data 2) s)) h

theorem exec_readCapture_badValue (h : Takes s o .readCapture rq) (hline : 7 < byteAt rq.data 2) :
    exec (.readCapture o) s = .next (turnedAway s o rq .badValue) := by
  rw [exec_readCapture h, serveReadCapture, fin?_ge hline]
  exact congrArg _ (refuse_popIntake ..)

theorem exec_readCapture_read (h : Takes s o .readCapture rq) {t : LineNo} (hline : byteAt rq.data 2 = t.val) :
    exec (.readCapture o) s = .next (served
      (s.setCapture t { s.tu.captures[t] with valid := false, missed := false }) o rq .done false false
      (captureBytes s.tu.captures[t] s.tu.lines[t])) := by
  rw [exec_readCapture h, serveReadCapture, hline, fin?_val, ← done_popIntake]
  rfl

/-! ## READ_STATUS -/

theorem exec_readStatus (h : Takes s o .readStatus rq) : exec (.readStatus o) s =
    .next (served s o rq .done false false (statusBytes o (s.popIntake o))) := by
  rw [← done_popIntake]
  exact takeRequest_takes (fun tk s => s.done tk (statusBytes tk.origin s)) h

/-- The zones held, read as a number. -/
def heldNat (s : State) (o : Origin) : Nat := (s.heldZones o).toNat

/-- The limiting marks, read as a number. -/
def limitsNat (s : State) : Nat := (markSet fun l : LoopNo => s.co.limits[l].limiting).toNat

/-- READ_STATUS's result, byte by byte (11.7). -/
theorem statusBytes_eq (o : Origin) (s : State) : statusBytes o s =
    [partStateByte s.ps.state, originByte s.ot.timeSource, channelStateByte (channelState s.mp.ca),
     channelStateByte (channelState s.mp.cb), oneByte s.mp.ca.txErrors, oneByte (s.mp.ca.txErrors / 256),
     oneByte s.mp.ca.rxErrors, oneByte s.mp.cb.txErrors, oneByte (s.mp.cb.txErrors / 256), oneByte s.mp.cb.rxErrors,
     chanByte (s.port o).home, oneByte (s.port o).mask.toNat, oneByte ((s.port o).mask.toNat / 256),
     oneByte (s.port o).intake.length, oneByte (s.port o).tx.length, oneByte (s.heldCount o), oneByte s.freeCountOfLayers,
     gateByte (s.gate o), oneByte (heldNat s o), oneByte (heldNat s o / 256), oneByte (heldNat s o / 256 / 256),
     oneByte (heldNat s o / 256 / 256 / 256), oneByte s.ce.queue.length] ++
    ((List.finRange 6).flatMap fun l => [loopStateByte s.lc.loops[l].state, oneByte s.lc.loops[l].nodes]) ++
    [oneByte (limitsNat s), oneByte ((if s.wu.sig0 then 1 else 0) + (if s.wu.sig1 then 2 else 0))] := by
  unfold statusBytes
  rw [vec_toList, List.flatMap_map]
  simp only [List.append_assoc]
  rfl

theorem statusBytes_length (o : Origin) (s : State) : (statusBytes o s).length = 37 := by
  rw [statusBytes_eq]
  rfl

theorem statusBytes_byte {o : Origin} {s : State} {i : Nat} {b : Byte} (h : (statusBytes o s)[i]? = some b) :
    byteAt (statusBytes o s) i = b.toNat := by
  rw [byteAt, List.getD_eq_getElem?_getD, h]
  rfl

/-- The two bytes of each loop (R186). -/
theorem statusBytes_loop (o : Origin) (s : State) (l : LoopNo) :
    (statusBytes o s)[23 + 2 * l.val]? = some (loopStateByte s.lc.loops[l].state) ∧
      (statusBytes o s)[24 + 2 * l.val]? = some (oneByte s.lc.loops[l].nodes) := by
  rw [statusBytes_eq]
  fin_cases l <;> exact ⟨rfl, rfl⟩

/-- Held and FREE layers are 16 at most (R16). -/
theorem layerCount_le (s : State) (p : Layer → Bool) : s.lt.layers.toList.countP p ≤ 16 :=
  List.countP_le_length.trans (by simp)

end

/-- What READ_STATUS reports of a state whose tables are within their sizes, at the places of 11.7 (R186). -/
theorem statusBytes_report {o : Origin} {u : State} {n : Nat} (hports : PortsSound u)
    (hnodes : ∀ l : LoopNo, u.lc.loops[l].nodes ≤ 64) (hqueue : u.ce.queue.length ≤ 16)
    (hintake : (u.port o).intake.length + 1 = n) :
    let d := statusBytes o u
    d[0]? = some (partStateByte u.ps.state) ∧ byteAt d 1 = u.ot.timeSource.idx.val ∧
    d[2]? = some (channelStateByte (channelState u.mp.ca)) ∧ d[3]? = some (channelStateByte (channelState u.mp.cb)) ∧
    leAt d 4 2 = u.mp.ca.txErrors ∧ byteAt d 6 = u.mp.ca.rxErrors ∧
    leAt d 7 2 = u.mp.cb.txErrors ∧ byteAt d 9 = u.mp.cb.rxErrors ∧
    byteAt d 10 = (if (u.port o).home = .ca then 0 else 1) ∧ leAt d 11 2 = (u.port o).mask.toNat ∧
    byteAt d 13 + 1 = n ∧ byteAt d 14 = (u.port o).tx.length ∧
    byteAt d 15 = u.heldCount o ∧ byteAt d 16 = u.freeCountOfLayers ∧ d[17]? = some (gateByte (u.gate o)) ∧
    (∀ z : ZoneNo, (leAt d 18 4).testBit z.val = (u.holder z == some o)) ∧
    byteAt d 22 = u.ce.queue.length ∧
    (∀ l : LoopNo, d[23 + 2 * l.val]? = some (loopStateByte u.lc.loops[l].state) ∧
      byteAt d (24 + 2 * l.val) = u.lc.loops[l].nodes ∧
      (byteAt d 35).testBit l.val = u.co.limits[l].limiting) ∧
    byteAt d 36 = (if u.wu.sig0 = true then 1 else 0) + (if u.wu.sig1 = true then 2 else 0) := by
  obtain ⟨hlengths, ⟨hcaTx, hcaRx⟩, hcbTx, hcbRx⟩ := hports
  obtain ⟨hin, htx⟩ := hlengths o
  have hget : ∀ {i : Nat} {b : Byte}, (statusBytes o u)[i]? = some b → byteAt (statusBytes o u) i = b.toNat := statusBytes_byte
  have hmask : (u.port o).mask.toNat < 2 ^ 16 := (u.port o).mask.isLt.trans (by decide)
  have hheld : u.heldCount o ≤ 16 := layerCount_le u _
  have hfree : u.freeCountOfLayers ≤ 16 := layerCount_le u _
  have hlimits : limitsNat u < 256 := (BitVec.isLt _).trans (by decide)
  have hloops := statusBytes_loop o u
  have hbytes := statusBytes_eq o u
  refine ⟨?part, ?source, ?caState, ?cbState, ?caTx, ?caRx, ?cbTx, ?cbRx, ?home, ?mask, ?intake, ?tx, ?held, ?free, ?gate,
    fun z => ?zones, ?starts, fun l => ⟨(hloops l).1, ?nodes, ?limit⟩, ?signals⟩
  case part | caState | cbState | gate => rw [hbytes]; rfl
  case source =>
    rw [hget (b := originByte u.ot.timeSource) (by rw [hbytes]; rfl)]
    cases u.ot.timeSource <;> rfl
  case caTx => exact leAt_two (hget (by rw [hbytes]; rfl)) (hget (by rw [hbytes]; rfl)) (by omega)
  case cbTx => exact leAt_two (hget (by rw [hbytes]; rfl)) (hget (by rw [hbytes]; rfl)) (by omega)
  case mask => exact leAt_two (hget (by rw [hbytes]; rfl)) (hget (by rw [hbytes]; rfl)) hmask
  case caRx => exact (hget (by rw [hbytes]; rfl)).trans (oneByte_toNat_of_lt (by omega))
  case cbRx => exact (hget (by rw [hbytes]; rfl)).trans (oneByte_toNat_of_lt (by omega))
  case home =>
    rw [hget (b := chanByte (u.port o).home) (by rw [hbytes]; rfl)]
    cases (u.port o).home <;> rfl
  case intake =>
    rw [hget (b := oneByte (u.port o).intake.length) (by rw [hbytes]; rfl), oneByte_toNat_of_lt (by omega), hintake]
  case tx => exact (hget (by rw [hbytes]; rfl)).trans (oneByte_toNat_of_lt (by omega))
  case held => exact (hget (by rw [hbytes]; rfl)).trans (oneByte_toNat_of_lt (by omega))
  case free => exact (hget (by rw [hbytes]; rfl)).trans (oneByte_toNat_of_lt (by omega))
  case zones =>
    rw [leAt_four (x := heldNat u o) (hget (by rw [hbytes]; rfl)) (hget (by rw [hbytes]; rfl)) (hget (by rw [hbytes]; rfl))
      (hget (by rw [hbytes]; rfl)) (BitVec.isLt _)]
    exact markSet_testBit ..
  case starts => exact (hget (by rw [hbytes]; rfl)).trans (oneByte_toNat_of_lt (by omega))
  case nodes =>
    have hl := hnodes l
    exact (hget (hloops l).2).trans (oneByte_toNat_of_lt (by omega))
  case limit =>
    rw [hget (b := oneByte (limitsNat u)) (by rw [hbytes]; rfl), oneByte_toNat_of_lt hlimits]
    exact markSet_testBit ..
  case signals =>
    rw [hget (b := oneByte ((if u.wu.sig0 then 1 else 0) + (if u.wu.sig1 then 2 else 0))) (by rw [hbytes]; rfl)]
    cases u.wu.sig0 <;> cases u.wu.sig1 <;> rfl

/-- Settles O42: each request's reply, and READ_STATUS's field by field as the state stands once the request is popped. -/
theorem readRequestsReport : Obligations.ReadRequestsReport := by
  intro o s rq
  refine ⟨fun h => ?time, fun h => ⟨exec_subscribe_badValue h, exec_subscribe_stored h⟩,
    fun h => ⟨exec_readCapture_badValue h, fun t ht => ?capture⟩, fun h hports hloops hcues => ?status⟩
  case time =>
    rw [exec_timeQuery h, timeQueryBytes, senseByte_eq]
  case capture =>
    rw [exec_readCapture_read h ht, captureBytes, edgeByte_eq]
  case status =>
    obtain ⟨⟨-, -, hfront, -, -⟩, -⟩ := id h
    have hpopped : (s.popIntake o).port o = { s.port o with intake := (s.port o).intake.tail } := popIntake_port s o
    have hintake : ((s.popIntake o).port o).intake.length + 1 = (s.port o).intake.length := by
      obtain ⟨rest, hrest⟩ := List.head?_eq_some_iff.mp hfront
      rw [hpopped, hrest]
      rfl
    have hsound : PortsSound (s.popIntake o) := by
      obtain ⟨hlengths, hca, hcb⟩ := hports
      refine ⟨fun q => ?_, hca, hcb⟩
      rw [State.popIntake, setPort_port]
      split
      · next hq =>
        have := hlengths o
        simp only [List.length_tail]
        omega
      · exact hlengths q
    obtain ⟨hloop, -⟩ := hloops
    obtain ⟨hqueue, -⟩ := hcues
    have hreport := statusBytes_report hsound (fun l => (hloop l).1) hqueue hintake
    rw [hpopped] at hreport
    exact ⟨statusBytes o (s.popIntake o), statusBytes_length .., exec_readStatus h, hreport⟩

end Sys2Proof.Machine

/-! PROOF. The settle event and the completion of a wake (R90, R113, R161, R173, R190 to R192). -/

namespace Sys2Proof.Machine

/-! ## When the part settles -/

theorem awaitsRefresh_iff {x : Loop} : x.awaitsRefresh = true ↔ ∃ a q, x.await = some a ∧ a.kind = .refresh q := by
  unfold Loop.awaitsRefresh
  cases x.await with
  | none => simp
  | some a => cases hk : a.kind <;> simp [hk]

/-- The part settles once its last compose has completed and no REFRESH return is awaited (R190). -/
theorem settleReady_iff {s : State} : s.settleReady = true ↔ s.ps.state = .settling ∧ s.co.inFlight = none ∧
    ¬∃ (l : LoopNo) (a : Await) (q : Nat), s.lc.loops[l].await = some a ∧ a.kind = .refresh q := by
  simp only [State.settleReady, Bool.and_eq_true, beq_iff_eq, Option.isNone_iff_eq_none, Bool.not_eq_true', vec_toList,
    List.any_map, List.any_eq_false, List.mem_finRange, true_implies, Function.comp, awaitsRefresh_iff, not_exists, and_assoc]

/-! ## What the entry to ASLEEP leaves -/

/-- What the ends of cues tell is read from the ports alone. -/
theorem endsTold_mp_congr {u v : State} (h : u.mp = v.mp) (cues : Vector (Option Cue) 24) (p : CueNo → Cue → Bool)
    (why : EndReason) : (endsTold cues p why u).mp = (endsTold cues p why v).mp := by
  unfold endsTold
  induction List.finRange 24 generalizing u v with
  | nil => exact h
  | cons c l ih =>
    refine ih ?_
    dsimp only
    split
    · exact h
    · split
      · exact notify_mp_congr h _ _
      · exact h

theorem endedBy_notReady (cue : Cue) : endedBy (fun cue => cue.run != .ready) cue = { cue with run := .ready } := by
  unfold endedBy
  split
  · rfl
  · next h =>
    have hready : cue.run = .ready := by simpa using h
    rw [← hready]

/-- Every cue READY. -/
def readied (cues : Vector (Option Cue) 24) : Vector (Option Cue) 24 :=
  mapAt cues fun _ x => x.map fun cue => { cue with run := .ready }

theorem readied_get (cues : Vector (Option Cue) 24) (c : CueNo) :
    (readied cues)[c] = cues[c].map fun cue => { cue with run := .ready } := by
  simp only [readied, mapAt_get]

/-- The end of all cues: what it leaves and what it tells (R113). -/
theorem endAllCues_eq (s : State) (why : EndReason) : s.endAllCues why =
    { s with mp := (endsTold s.ce.cues (fun _ cue => cue.run != .ready) why s).mp
             ce := { s.ce with cues := readied s.ce.cues, queue := [] } } := by
  have hready : ∀ c : CueNo, (readied s.ce.cues)[c] = s.ce.cues[c].map (endedBy fun cue => cue.run != .ready) := fun c => by
    rw [readied_get]
    exact Option.map_congr fun cue _ => (endedBy_notReady cue).symm
  rw [State.endAllCues, endCuesWhere_frame s _ why hready]
  rfl

/-- The state that the settle event leaves (R90, R113, R161, R173, R191). -/
theorem settle_eq (s : State) : s.settleLoops.fallAsleep =
    { s with ps := { s.ps with state := .asleep }
             sc := { s.sc with nextFrame := none, lastFrame := none }
             mp := (endsTold s.ce.cues (fun _ cue => cue.run != .ready) .sleep s).mp
             ce := { s.ce with cues := readied s.ce.cues, queue := [] }
             lt := s.darkLayers.lt
             ss := s.emptyQueues.ss
             lc := s.settleLoops.lc
             wu := s.darkWatches.wu } := by
  have htold := endsTold_mp_congr (u := s.settleLoops.setPartState .asleep) (v := s) rfl s.ce.cues
    (fun _ cue => cue.run != .ready) .sleep
  rw [State.fallAsleep, endAllCues_eq, ← htold]
  rfl

section
variable (s : State)

theorem darkLayers_layer (i : LayerNo) : s.darkLayers.lt.layers[i] = { s.lt.layers[i] with presence := 0 } := by
  have hlayers : s.darkLayers.lt.layers = mapAt s.lt.layers fun _ l => { l with presence := 0 } := rfl
  simp only [hlayers, mapAt_get]

theorem emptyQueues_queue (q : QueueNo) :
    s.emptyQueues.ss.queues[q] = { s.ss.queues[q] with current := none, pending := [], last := none } :=
  mapAt_get s.ss.queues (fun _ q => emptied q) q

theorem settleLoops_loop (l : LoopNo) : s.settleLoops.lc.loops[l] = s.lc.loops[l].settled :=
  mapAt_get s.lc.loops (fun _ x => x.settled) l

theorem darkWatches_watch (w : WatchNo) : s.darkWatches.wu.watches[w] = evaluatedWatch 0 s.wu.watches[w] := by
  have hdark : s.darkWatches.wu.watches[w] = watchOnDark s.wu.watches[w] :=
    mapAt_get s.wu.watches (fun _ x => watchOnDark x) w
  rw [hdark, watchOnDark, evaluatedWatch]
  split <;> rfl

theorem darkWatches_sig0 : s.darkWatches.wu.sig0 = lineHigh s.darkWatches.wu.watches .sig0 := rfl
theorem darkWatches_sig1 : s.darkWatches.wu.sig1 = lineHigh s.darkWatches.wu.watches .sig1 := rfl

end

theorem settled_off {x : Loop} (h : x.state = .off) : x.settled = x := by
  rw [Loop.settled, h]

theorem settled_on {x : Loop} (h : x.state ≠ .off) : x.settled =
    { x with state := .quiet, sleepHold := true, errors := 0, quietCount := 0, showPending := false, claimed := false,
             await := none, holdCount := if x.state = .failed then 0 else x.holdCount,
             out := if x.state = .running ∧ x.showPending = true then [.show', .quiet] else [.quiet] } := by
  rw [Loop.settled]
  split
  · next hoff => exact absurd hoff h
  · rfl

theorem exec_settle_waits {s : State} (h : s.settleReady = false) : exec .settle s = .next s := by
  change s.liveWhen s.settleReady _ = _
  rw [h, liveWhen_false]

theorem exec_settle_ready {s : State} (hr : s.ps.resetHeld = false) (h : s.settleReady = true) :
    exec .settle s = .next s.settleLoops.fallAsleep := by
  change s.liveWhen s.settleReady _ = _
  rw [h, liveWhen_true _ hr]

/-! ## What a frame start leaves besides layers, cues and queues -/

/-- The gates, starts and ends of a frame start leave part state, triggers and loops, and the clock it raised (R87). -/
theorem cuesAtFrame_rest (s : State) (tf : Time) :
    let u := ((s.raiseFrame tf).applyGates.dueStarts tf).cueEnds tf
    u.ps = s.ps ∧ u.tu = s.tu ∧ u.lc = s.lc ∧ u.sc = (s.raiseFrame tf).sc := by
  have hstarts := CueFrame.dueStarts (s.raiseFrame tf).applyGates tf
  have hends := CueFrame.cueEnds ((s.raiseFrame tf).applyGates.dueStarts tf) tf
  generalize (s.raiseFrame tf).applyGates.dueStarts tf = v at hstarts hends ⊢
  dsimp only
  generalize v.cueEnds tf = u at hends ⊢
  unfold CueFrame at hstarts hends
  rw [hends, hstarts]
  exact ⟨rfl, rfl, rfl, rfl⟩

/-- Part state, triggers, clock, compose and loops after a frame start (R56, R87, R152). -/
theorem frameStart_rest (s : State) (tf : Time) :
    let t := s.frameStart tf
    t.ps = s.ps ∧ t.tu = s.tu ∧ t.sc = (s.raiseFrame tf).sc ∧
    (∃ c, t.co.inFlight = some c ∧ c.frameTime = tf ∧ c.began = s.sc.local') ∧
    (∀ l : LoopNo, t.lc.loops[l] = framedLoop s.sc.local' s.lc.loops[l]) ∧
    ∀ lam : LampNo, t.lc.health[lam] =
      if lapsed s.lc.loops[lampLoop lam] = true then { s.lc.health[lam] with queried := false } else s.lc.health[lam] := by
  obtain ⟨hps, htu, hlc, hsc⟩ := cuesAtFrame_rest s tf
  rw [frameStart_framed]
  generalize ((s.raiseFrame tf).applyGates.dueStarts tf).cueEnds tf = u at *
  have hlocal : u.sc.local' = s.sc.local' := by rw [hsc]; rfl
  have hbegan : ((framed u tf).composeInputs tf).began = s.sc.local' := by
    have hclock : (framed u tf).sc = u.sc := by rw [framed_frame]
    rw [← hlocal, ← hclock]
    rfl
  rw [beginCompose_framed]
  refine ⟨hps, htu, hsc, ⟨_, rfl, rfl, hbegan⟩, fun l => ?_, fun lam => ?_⟩
  · have hloop := framed_loop u tf l
    rwa [hlocal, hlc] at hloop
  · have hhealth := framed_health u tf lam
    rwa [hlc] at hhealth

/-! ## The completion of a wake -/

theorem exec_wakeCompletion_waits {s : State} (h : s.ps.state ≠ .waking) : exec .wakeCompletion s = .next s := by
  change s.liveWhen (s.ps.state == .waking) _ = _
  rw [beq_eq_false_iff_ne.mpr h, liveWhen_false]

theorem exec_wakeCompletion_wakes {s : State} (hr : s.ps.resetHeld = false) (h : s.ps.state = .waking) :
    exec .wakeCompletion s = .next (s.wakeUp.wakeLoops.matchWakeList.frameStart s.sc.scene) := by
  change s.liveWhen (s.ps.state == .waking) s.completeWake = _
  rw [beq_iff_eq.mpr h, liveWhen_true _ hr]
  rfl

/-- The state in which the wake list is matched (R161, R192). -/
theorem wakeLoops_eq {s : State} (hr : s.ps.resetHeld = false) {loops : Vector Loop 6} {health : Vector Health 384}
    (hloops : ∀ l : LoopNo, let x := s.lc.loops[l]
      loops[l] = if x.sleepHold = true then { x with state := .discovering, sleepHold := false, holdLen := 8 } else x)
    (hhealth : ∀ lam : LampNo, health[lam] = if s.lc.loops[lampLoop lam].sleepHold = true
      then { s.lc.health[lam] with queried := false } else s.lc.health[lam]) :
    s.wakeUp.wakeLoops.setWakeList [] =
      { s with ps := ⟨.run, false, none⟩, tu := { s.tu with wakeList := [] }, lc := ⟨loops, health⟩ } := by
  have hwoken : loops = mapAt s.lc.loops fun _ x => x.woken := vec_ext fun l => by
    rw [mapAt_get, hloops]
    rfl
  have hunqueried : health = unqueried (fun l => s.lc.loops[l].sleepHold) s.lc.health := vec_ext fun lam => by
    rw [unqueried, mapAt_get, hhealth]
  rw [hwoken, hunqueried, ← hr]
  rfl

/-- Settles O56: the settle event by whether it is ready, and the wake's completion by its frame start. -/
theorem thePartSettlesSleepsAndWakes : Obligations.ThePartSettlesSleepsAndWakes := by
  intro s hr awaited
  refine ⟨fun hwait => ?waits, fun hstate hflight hno => ?settles, exec_wakeCompletion_waits,
    ?wakes⟩
  case waits =>
    refine exec_settle_waits (Bool.eq_false_iff.mpr fun hready => ?_)
    obtain ⟨hstate, hflight, hno⟩ := settleReady_iff.mp hready
    rcases hwait with h | h | h
    · exact h hstate
    · exact h hflight
    · exact hno h
  case settles =>
    refine ⟨_, exec_settle_ready hr (settleReady_iff.mpr ⟨hstate, hflight, hno⟩), ?_⟩
    rw [settle_eq]
    exact ⟨rfl, readied_get s.ce.cues, darkLayers_layer s, emptyQueues_queue s,
      fun l => ⟨fun h => (settleLoops_loop s l).trans (settled_off h), fun h => (settleLoops_loop s l).trans (settled_on h)⟩,
      darkWatches_watch s, by rw [darkWatches_sig0, lineHigh_iff], by rw [darkWatches_sig1, lineHigh_iff]⟩
  case wakes =>
    intro hstate loops health hloops hhealth woken matched t
    have hmatched : s.wakeUp.wakeLoops.matchWakeList = matched := by
      rw [State.matchWakeList, wakeLoops_eq hr hloops hhealth]
      rfl
    have hexec : exec .wakeCompletion s = .next (matched.frameStart s.sc.scene) := by
      rw [exec_wakeCompletion_wakes hr hstate, hmatched]
    have hframe : StartsFrame woken matched := StartsFrame.matchCodes woken s.tu.wakeList
    clear_value matched
    unfold StartsFrame at hframe
    obtain ⟨hps, htu, hsc, hflight, hloop, hlamp⟩ := frameStart_rest matched s.sc.scene
    have hclock : matched.sc = s.sc := by rw [hframe]
    have hlc : matched.lc = ⟨loops, health⟩ := by rw [hframe]
    have hraised : (matched.raiseFrame s.sc.scene).sc = (s.raiseFrame s.sc.scene).sc := by
      rw [State.raiseFrame, hclock]
      rfl
    rw [hclock] at hflight hloop
    rw [hlc] at hloop hlamp
    refine ⟨hexec, hframe, hps.trans (by rw [hframe]), htu.trans (by rw [hframe]), hsc.trans hraised, hflight,
      fun l hl => ?_, fun lam hl => ?_⟩
    · have hwoken := (hloops l).trans (if_pos hl)
      refine (hloop l).trans ?_
      dsimp only
      rw [hwoken]
      exact framedLoop_discovering _ rfl
    · have hwoken := (hloops (lampLoop lam)).trans (if_pos hl)
      have hkept := (hhealth lam).trans (if_pos hl)
      refine (hlamp lam).trans ?_
      dsimp only
      rw [hwoken]
      exact hkept

end Sys2Proof.Machine

/-! PROOF. What leaves the Cue Engine as it is: replies, notices, ports, lines, flags, holds, layers, loops and composes, and the
commands that neither write keyframes nor touch a cue. -/

namespace Sys2Proof.Machine

section
variable (s : State)

/-! ## Replies, notices, ports -/

@[simp] theorem reply_ce (tk : Taken) (c : Code) (clamped replaced : Bool) (result : List Byte) :
    (s.reply tk c clamped replaced result).ce = s.ce := rfl
@[simp] theorem done_ce (tk : Taken) (result : List Byte) : (s.done tk result).ce = s.ce := rfl

@[simp] theorem notify_ce (o : Origin) (n : Notice) : (s.notify o n).ce = s.ce := by rw [notify_frame]
@[simp] theorem notifyAll_ce (n : Notice) : (s.notifyAll n).ce = s.ce := by rw [notifyAll_frame]

@[simp] theorem wakeEvent_ce : s.wakeEvent.ce = s.ce := by
  unfold State.wakeEvent
  split <;> rfl

@[simp] theorem offer_ce (o : Origin) (rq : Intake) : (s.offer o rq).ce = s.ce := by
  unfold State.offer
  dsimp only
  split <;> rfl

@[simp] theorem receive_ce (ch : Chan) (o : Origin) (data : List Byte) : (s.receive ch o data).ce = s.ce := by
  unfold State.receive State.countReceived
  dsimp only
  split <;> simp

@[simp] theorem finishSend_ce (ch : Chan) (o : Origin) : (s.finishSend ch o).ce = s.ce := by simp [State.finishSend]
@[simp] theorem abandonSend_ce (ch : Chan) : (s.abandonSend ch).ce = s.ce := rfl

@[simp] theorem channelErr_ce (ch : Chan) (kind : ErrorKind) : (s.channelErr ch kind).ce = s.ce := by
  unfold State.channelErr
  dsimp only
  split <;> simp

/-! ## Lines, flags, binds, holds -/

@[simp] theorem mirrorTo_ce (f : Option FlagNo) (v : Bool) : (s.mirrorTo f v).ce = s.ce := by cases f <;> rfl

@[simp] theorem replaceLine_ce (t : LineNo) (x : Line) : (s.replaceLine t x).ce = s.ce := by simp [State.replaceLine]

@[simp] theorem giveFlag_ce (f : FlagNo) (w : Writer) : (s.giveFlag f w).ce = s.ce := by
  unfold State.giveFlag
  split <;> rfl

@[simp] theorem unbindSame_ce (o : Origin) (code mask : Byte) : (s.unbindSame o code mask).ce = s.ce := by
  unfold State.unbindSame
  split <;> rfl

@[simp] theorem takeHold_ce (tk : Taken) (z : ZoneNo) (tier : Tier) : (takeHold tk z tier s).ce = s.ce := by
  unfold takeHold
  dsimp only
  split
  · rfl
  · repeat' split
    all_goals simp

@[simp] theorem addWake_ce (t : LineNo) (e : EdgeKind) (stamp : Time) : (s.addWake t e stamp).ce = s.ce := by
  unfold State.addWake State.seeUnmatched
  split <;> simp

/-! ## Layers -/

@[simp] theorem makeEdit_ce (o : Origin) (i : LayerNo) (e : Edit) : (s.makeEdit o i e).ce = s.ce := by
  unfold State.makeEdit
  dsimp only
  split <;> rfl

@[simp] theorem expireGate_ce (o : Origin) : (s.expireGate o).ce = s.ce := notify_ce ..

/-! ## Loops and composes -/

@[simp] theorem changeLoop_ce (l : LoopNo) (x : Loop) (cause : LoopCause) : (s.changeLoop l x cause).ce = s.ce :=
  notifyAll_ce ..

@[simp] theorem clearQueried_ce (l : LoopNo) : (s.clearQueried l).ce = s.ce := rfl
@[simp] theorem storeChain_ce (l : LoopNo) (c : Chain) (enable : Bool) : (s.storeChain l c enable).ce = s.ce := rfl

@[simp] theorem followSettings_ce (l : LoopNo) : (s.followSettings l).ce = s.ce := by
  unfold State.followSettings
  dsimp only
  repeat' split
  all_goals simp

@[simp] theorem endHoldoff_ce (l : LoopNo) : (s.endHoldoff l).ce = s.ce := changeLoop_ce ..

@[simp] theorem applyQuery_ce (l : LoopNo) (q : Nat) (st : StatusWord) : (s.applyQuery l q st).ce = s.ce := by
  unfold State.applyQuery State.applyStatus
  dsimp only
  repeat' split
  all_goals simp

@[simp] theorem countFailure_ce (l : LoopNo) : (s.countFailure l).ce = s.ce := by
  unfold State.countFailure State.failLoop
  dsimp only
  split <;> simp

@[simp] theorem actOn_ce (l : LoopNo) (v : Verdict) : (s.actOn l v).ce = s.ce := by
  cases v <;> simp [State.actOn, State.failLoop]

@[simp] theorem completeCompose_ce (c : Compose) : (s.completeCompose c).ce = s.ce := by rw [completeCompose_frame]

end

/-! ## Commands that leave it as it is -/

/-- The two states have the same Cue Engine. -/
def SameCues (s t : State) : Prop := t.ce = s.ce

section
variable {s n : State}

theorem unchanged_cues : WhenNext (SameCues s) (.next s) := whenNext_next.mpr rfl

theorem live_cues (h : n.ce = s.ce) : WhenNext (SameCues s) (s.live n) := whenNext_live rfl fun _ => h

theorem liveWhen_cues {c : Bool} (h : n.ce = s.ce) : WhenNext (SameCues s) (s.liveWhen c n) :=
  whenNext_liveWhen rfl fun _ _ => h

theorem taken_cues {k : Option Kind} {o : Origin} {serve : Taken → State → State} (h : ∀ tk u, (serve tk u).ce = u.ce) :
    WhenNext (SameCues s) (takeRequest k o s serve) :=
  whenNext_takeRequest rfl rfl (fun _ => rfl) fun rq => h ⟨o, rq⟩ (s.popIntake o)

theorem answered_cues {k : Option Kind} {o : Origin} {serve : Taken → State → Served}
    (h : ∀ tk u, WhenServed (fun t => t.ce = u.ce) (serve tk u)) :
    WhenNext (SameCues s) (takeRequest k o s fun tk u => answer tk u (serve tk u)) :=
  taken_cues fun tk u => answer_keeps (P := fun t => t.ce = u.ce) (fun _ => rfl) (h tk u)

end

/-- The commands that write keyframes, or that touch cue records or the start queue. -/
def writesCues : Instr → Bool
  | .powerOn .. => true
  | .resetPinRelease .. => true
  | .writeKeys .. => true
  | .defineCue .. => true
  | .deleteCue .. => true
  | .setClock .. => true
  | .closeLayer .. => true
  | .startCue .. => true
  | .stopCue .. => true
  | .trigger .. => true
  | .forget .. => true
  | .enterSetup .. => true
  | .restart .. => true
  | .frameStart => true
  | .cueNaturalEnd .. => true
  | .cueReleaseEnd .. => true
  | .lineChangeAccepted .. => true
  | .settle => true
  | .wakeCompletion => true
  | _ => false

/-- Every other command leaves the Cue Engine as it is. -/
theorem exec_sameCues (c : Instr) (hc : writesCues c = false) (s : State) : WhenNext (SameCues s) (exec c s) := by
  cases c with
  | powerOn _ _ | resetPinRelease _ | writeKeys _ | defineCue _ | deleteCue _ | setClock _ | closeLayer _ | startCue _
  | stopCue _ | trigger _ | forget _ | enterSetup _ | restart _ | frameStart | cueNaturalEnd _ | cueReleaseEnd _
  | lineChangeAccepted _ | settle | wakeCompletion => cases hc
  -- requests whose work rewrites records of other blocks
  | setOrigin _ | setZone _ | clearZone _ | setBin _ | setLampBin _ | setGlare _ | setFrame _ | setWatch _ | writePattern _
  | definePattern _ | deletePattern _ | trimClock _ | subscribe _ | readCapture _ | openLayer _ | showLayer _
  | hideLayer _ | releaseZone _ | setFlags _ | clearHealth _ | unbind _ | sleep _ =>
    simp only [exec, execSetOrigin, execSetZone, execClearZone, execSetBin, execSetLampBin, execSetGlare, execSetFrame,
      execSetWatch, execWritePattern, execDefinePattern, execDeletePattern, execTrimClock, execSubscribe,
      execReadCapture, execOpenLayer, execShowLayer, execHideLayer, execReleaseZone, execSetFlags, execClearHealth,
      execUnbind, execSleep]
    refine answered_cues fun tk u => ?_
    simp only [serveSetOrigin, serveSetZone, serveClearZone, serveSetBin, serveSetLampBin, serveSetGlare, serveSetFrame,
      serveSetWatch, serveWritePattern, serveDefinePattern, serveDeletePattern, serveTrimClock,
      serveSubscribe, serveReadCapture, serveOpenLayer, serveShowLayer, serveHideLayer, serveReleaseZone, serveSetFlags,
      serveClearHealth, serveUnbind, serveSleep, whenServed_bind, whenServed_pure]
    intros
    rfl
  -- requests whose work goes through an operation of its own
  | setChain _ | setLine _ | setFlagOwner _ | bind _ | editLayer _ | holdZone _ =>
    simp only [exec, execSetChain, execSetLine, execSetFlagOwner, execBind, execEditLayer, execHoldZone]
    refine answered_cues fun tk u => ?_
    simp [serveSetChain, serveSetLine, serveSetFlagOwner, serveBind, serveEditLayer, serveHoldZone]
  | gateClose _ | gateOpen _ | enterRun _ =>
    simp only [exec, execGateClose, execGateOpen, execEnterRun]
    refine answered_cues fun tk u => ?_
    simp only [serveGateClose, serveGateOpen, serveEnterRun, whenServed_bind, whenServed_pure]
    intro _ _
    split <;> rfl
  | requestUnknownKind _ | timeQuery _ | readStatus _ =>
    simp only [exec, execRequestUnknownKind, execTimeQuery, execReadStatus]
    exact taken_cues fun tk u => rfl
  | streamFrame _ =>
    simp only [exec, execStreamFrame]
    refine taken_cues fun tk u => ?_
    unfold serveStreamFrame
    split <;> rfl
  | resetPinAssert => exact live_cues rfl
  | frameReceived ch fmt ident data =>
    change WhenNext (SameCues s) (execFrameReceived ch fmt ident data s)
    unfold execFrameReceived
    split
    · exact liveWhen_cues (receive_ce ..)
    · exact unchanged_cues
  | trimCorrection => exact liveWhen_cues rfl
  | streamStale q =>
    change WhenNext (SameCues s) (execStreamStale q s)
    unfold execStreamStale
    split
    · exact unchanged_cues
    · exact liveWhen_cues rfl
  | composeComplete =>
    change WhenNext (SameCues s) (execComposeComplete s)
    unfold execComposeComplete
    split
    · exact unchanged_cues
    · exact live_cues (completeCompose_ce ..)
  | holdoffEnd l => exact liveWhen_cues (endHoldoff_ce ..)
  | quietThreshold l =>
    change WhenNext (SameCues s) (execQuietThreshold l s)
    unfold execQuietThreshold
    split
    · exact unchanged_cues
    · exact liveWhen_cues (changeLoop_ce ..)
  | loopReturnReceived l ret =>
    change WhenNext (SameCues s) (execLoopReturnReceived l ret s)
    unfold execLoopReturnReceived
    split
    · exact unchanged_cues
    · exact live_cues (actOn_ce ..)
  | loopReturnTimeout l =>
    change WhenNext (SameCues s) (execLoopReturnTimeout l s)
    unfold execLoopReturnTimeout
    split
    · exact unchanged_cues
    · exact liveWhen_cues (actOn_ce ..)
  | loopFailed l ret =>
    change WhenNext (SameCues s) (execLoopFailed l ret s)
    unfold execLoopFailed
    split
    · exact unchanged_cues
    · exact liveWhen_cues (actOn_ce ..)
  | gateExpiry o => exact liveWhen_cues (expireGate_ce ..)
  | lineRawChange t level =>
    change WhenNext (SameCues s) (execLineRawChange t level s)
    unfold execLineRawChange
    dsimp only
    split
    · exact unchanged_cues
    · split <;> exact whenNext_next.mpr rfl
  | frameTransmitStart ch =>
    change WhenNext (SameCues s) (execFrameTransmitStart ch s)
    unfold execFrameTransmitStart
    split
    · exact unchanged_cues
    · exact liveWhen_cues rfl
  | frameTransmitted ch =>
    change WhenNext (SameCues s) (execFrameTransmitted ch s)
    unfold execFrameTransmitted
    split
    · exact unchanged_cues
    · exact liveWhen_cues (finishSend_ce ..)
  | channelError ch kind => exact liveWhen_cues (channelErr_ce ..)
  | channelRecovery ch => exact liveWhen_cues (setChan_ce ..)
  | loopBurstEnd l =>
    change WhenNext (SameCues s) (execLoopBurstEnd l s)
    unfold execLoopBurstEnd
    dsimp only
    split
    · exact unchanged_cues
    · exact liveWhen_cues rfl

end Sys2Proof.Machine

/-! PROOF. The law of cues and starts taken apart (R94, R98, R103): what it says of cue records and start queue, what of runs and
layers, and how either part goes along a change of a cue's record. -/

namespace Sys2Proof.Machine

/-! ## The two parts of the law -/

/-- The cue is SCHEDULED. -/
def Scheduled (cues : Vector (Option Cue) 24) (c : CueNo) : Prop := ∃ cue, cues[c] = some cue ∧ cue.run = .scheduled

/-- The queue holds at most 16 entries, at most one for a cue, and exactly the SCHEDULED cues (R94, R98). -/
def StartsSound (cues : Vector (Option Cue) 24) (q : List StartEntry) : Prop :=
  q.length ≤ 16 ∧ (q.map (·.cue)).Nodup ∧ ∀ c : CueNo, (∃ e ∈ q, e.cue = c) ↔ Scheduled cues c

/-- The cue's layer is not FREE, and its owner is the cue's. -/
def OnOwnLayer (layers : Vector Layer 16) (cue : Cue) : Prop :=
  layers[cue.layer].state ≠ .free ∧ layers[cue.layer].owner = some cue.owner

/-- At most one cue is RUNNING or RELEASING on a layer, and its owner is the layer's (R103). -/
def RunsSound (cues : Vector (Option Cue) 24) (layers : Vector Layer 16) : Prop :=
  (∀ (c : CueNo) (cue : Cue), cues[c] = some cue → cue.run.active = true → OnOwnLayer layers cue) ∧
    ∀ (c d : CueNo) (x y : Cue), cues[c] = some x → cues[d] = some y → x.run.active = true → y.run.active = true →
      x.layer = y.layer → c = d

theorem cuesSound_iff {s : State} :
    CuesSound s ↔ StartsSound s.ce.cues s.ce.queue ∧ RunsSound s.ce.cues s.lt.layers := by
  unfold CuesSound StartsSound RunsSound Scheduled OnOwnLayer
  simp only [and_assoc]

theorem CuesSound.starts {s : State} (h : CuesSound s) : StartsSound s.ce.cues s.ce.queue := (cuesSound_iff.mp h).1
theorem CuesSound.runs {s : State} (h : CuesSound s) : RunsSound s.ce.cues s.lt.layers := (cuesSound_iff.mp h).2

/-! ## Runs and layers -/

/-- Every cue RUNNING or RELEASING in the second table ran in the first, on the same layer and for the same owner. -/
def RunsFrom (cues cues' : Vector (Option Cue) 24) : Prop :=
  ∀ (c : CueNo) (y : Cue), cues'[c] = some y → y.run.active = true →
    ∃ x, cues[c] = some x ∧ x.run.active = true ∧ x.layer = y.layer ∧ x.owner = y.owner

theorem RunsFrom.refl (cues : Vector (Option Cue) 24) : RunsFrom cues cues := fun _ y hy hact => ⟨y, hy, hact, rfl, rfl⟩

section
variable {cues : Vector (Option Cue) 24} {layers : Vector Layer 16}

/-- A record written that does not run, or runs as the one before it did. -/
theorem RunsFrom.setAt {c : CueNo} {x : Option Cue} (hx : ∀ y, x = some y → y.run.active = true →
    ∃ old, cues[c] = some old ∧ old.run.active = true ∧ old.layer = y.layer ∧ old.owner = y.owner) :
    RunsFrom cues (setAt cues c x) := by
  intro d y hd hact
  rw [setAt_get] at hd
  split at hd
  · next h => exact h ▸ hx y hd hact
  · exact ⟨y, hd, hact, rfl, rfl⟩

theorem RunsFrom.setAt_idle (c : CueNo) {x : Option Cue} (hx : ∀ y, x = some y → y.run.active = false) :
    RunsFrom cues (Sys2Proof.setAt cues c x) :=
  .setAt fun y hy hact => by rw [hx y hy] at hact; cases hact

/-- With no new runs, the law asks only that the layers of those left still stand with their owners. -/
theorem RunsSound.shrink (h : RunsSound cues layers) {cues' : Vector (Option Cue) 24} {layers' : Vector Layer 16}
    (hfrom : RunsFrom cues cues')
    (hown : ∀ (c : CueNo) (y : Cue), cues'[c] = some y → y.run.active = true → OnOwnLayer layers y → OnOwnLayer layers' y) :
    RunsSound cues' layers' := by
  obtain ⟨hlayer, hone⟩ := h
  refine ⟨fun c y hy hact => ?_, fun c d x y hx hy hxact hyact heq => ?_⟩
  · obtain ⟨x, hx, hxact, hl, ho⟩ := hfrom c y hy hact
    have hon := hlayer c x hx hxact
    simp only [OnOwnLayer, hl, ho] at hon
    exact hown c y hy hact hon
  · obtain ⟨x', hx', hxact', hxl, -⟩ := hfrom c x hx hxact
    obtain ⟨y', hy', hyact', hyl, -⟩ := hfrom d y hy hyact
    exact hone c d x' y' hx' hy' hxact' hyact' (hxl.trans (heq.trans hyl.symm))

theorem RunsSound.of_from (h : RunsSound cues layers) {cues' : Vector (Option Cue) 24} (hfrom : RunsFrom cues cues') :
    RunsSound cues' layers :=
  h.shrink hfrom fun _ _ _ _ => id

/-- A cue starts on a layer of its owner's on which no other runs (R103). -/
theorem RunsSound.start (h : RunsSound cues layers) {c : CueNo} {cue : Cue}
    (hfree : ∀ (d : CueNo) (y : Cue), cues[d] = some y → y.run.active = true → y.layer ≠ cue.layer)
    (hon : OnOwnLayer layers cue) : RunsSound (setAt cues c (some cue)) layers := by
  obtain ⟨hlayer, hone⟩ := h
  refine ⟨fun d y hd hact => ?_, fun d e x y hx hy hxact hyact heq => ?_⟩
  · rw [setAt_get] at hd
    split at hd
    · exact Option.some.inj hd ▸ hon
    · exact hlayer d y hd hact
  · rw [setAt_get] at hx hy
    split at hx <;> split at hy
    · next hd he => exact hd.trans he.symm
    · exact absurd (Option.some.inj hx ▸ heq).symm (hfree e y hy hyact)
    · exact absurd (Option.some.inj hy ▸ heq) (hfree d x hx hxact)
    · exact hone d e x y hx hy hxact hyact heq

/-! ## Starts -/

theorem scheduled_setAt {c d : CueNo} {x : Option Cue} :
    Scheduled (setAt cues c x) d ↔ if d = c then (∃ cue, x = some cue ∧ cue.run = .scheduled) else Scheduled cues d := by
  unfold Scheduled
  rw [setAt_get]
  split <;> rfl

theorem mem_dropEntry {c : CueNo} {q : List StartEntry} {e : StartEntry} : e ∈ dropEntry c q ↔ e ∈ q ∧ e.cue ≠ c := by
  rw [dropEntry, List.mem_filter, bne_iff_ne]

theorem dropEntry_nodup {c : CueNo} {q : List StartEntry} (h : (q.map (·.cue)).Nodup) :
    ((dropEntry c q).map (·.cue)).Nodup := h.sublist (List.filter_sublist.map _)

theorem insertEntry_perm (e : StartEntry) (q : List StartEntry) : (insertEntry e q).Perm (e :: q) := by
  obtain ⟨before, after, hq, hins, -⟩ := insertEntry_parts e q
  rw [hins, hq]
  exact List.perm_middle

variable {q : List StartEntry}

/-- The law sees of the cue records only which of them are SCHEDULED. -/
theorem StartsSound.of_scheduled (h : StartsSound cues q) {cues' : Vector (Option Cue) 24}
    (hs : ∀ c, Scheduled cues' c ↔ Scheduled cues c) : StartsSound cues' q :=
  let ⟨hlen, hone, hq⟩ := h
  ⟨hlen, hone, fun c => (hq c).trans (hs c).symm⟩

theorem StartsSound.perm (h : StartsSound cues q) {q' : List StartEntry} (hp : q'.Perm q) : StartsSound cues q' := by
  obtain ⟨hlen, hone, hq⟩ := h
  refine ⟨hp.length_eq ▸ hlen, (hp.map _).nodup_iff.mpr hone, fun c => ?_⟩
  simp only [hp.mem_iff]
  exact hq c

/-- A cue that leaves SCHEDULED leaves the queue too. -/
theorem StartsSound.drop (h : StartsSound cues q) (c : CueNo) {x : Option Cue} (hx : ∀ y, x = some y → y.run ≠ .scheduled) :
    StartsSound (setAt cues c x) (dropEntry c q) := by
  obtain ⟨hlen, hone, hq⟩ := h
  refine ⟨(List.length_filter_le ..).trans hlen, dropEntry_nodup hone, fun d => ?_⟩
  simp only [scheduled_setAt, mem_dropEntry]
  split
  · next hd =>
    subst hd
    exact iff_of_false (fun ⟨e, he, hcue⟩ => he.2 hcue) fun ⟨y, hy, hrun⟩ => hx y hy hrun
  · next hd =>
    rw [← hq d]
    exact exists_congr fun e => and_congr_left fun hcue => and_iff_left (hcue ▸ hd)

/-- A record written that is not SCHEDULED, where the one before it was not. -/
theorem StartsSound.setIdle (h : StartsSound cues q) {c : CueNo} {x : Option Cue} (hold : ¬Scheduled cues c)
    (hx : ∀ y, x = some y → y.run ≠ .scheduled) : StartsSound (setAt cues c x) q := by
  refine h.of_scheduled fun d => ?_
  rw [scheduled_setAt]
  split
  · next hd => exact hd ▸ iff_of_false (fun ⟨y, hy, hrun⟩ => hx y hy hrun) hold
  · rfl

/-- A cue becomes SCHEDULED with a new entry in place of its old one, where a place is left (R99, R100). -/
theorem StartsSound.insert (h : StartsSound cues q) {e : StartEntry} {cue : Cue} (hcue : cue.run = .scheduled)
    (hroom : q.length < 16 ∨ Scheduled cues e.cue) :
    StartsSound (setAt cues e.cue (some cue)) (insertEntry e (dropEntry e.cue q)) := by
  obtain ⟨hlen, hone, hq⟩ := h
  refine StartsSound.perm (q := e :: dropEntry e.cue q) ⟨?_, ?_, fun c => ?_⟩ (insertEntry_perm ..)
  · have hle : (dropEntry e.cue q).length ≤ q.length := List.length_filter_le ..
    have hlt : Scheduled cues e.cue → (dropEntry e.cue q).length < q.length := fun hs => by
      obtain ⟨d, hd, hcue⟩ := (hq e.cue).mpr hs
      exact List.length_filter_lt_length_iff_exists.mpr ⟨d, hd, by simp [hcue]⟩
    rw [List.length_cons]
    rcases hroom with hroom | hs
    · omega
    · have := hlt hs
      omega
  · refine List.nodup_cons.mpr ⟨fun hmem => ?_, dropEntry_nodup hone⟩
    obtain ⟨d, hd, hcue⟩ := List.mem_map.mp hmem
    exact (mem_dropEntry.mp hd).2 hcue
  · rw [scheduled_setAt]
    split
    · next hc => exact iff_of_true ⟨e, List.mem_cons_self, hc.symm⟩ ⟨cue, rfl, hcue⟩
    · next hc =>
      rw [← hq c]
      refine exists_congr fun d => and_congr_left fun hd => ?_
      rw [List.mem_cons, mem_dropEntry, hd]
      exact ⟨fun hmem => hmem.elim (fun he => absurd (he ▸ hd).symm hc) fun h => h.1, fun hmem => .inr ⟨hmem, hc⟩⟩

end

/-! ## What keeps both parts -/

/-- No layer that is not FREE becomes FREE or changes its owner. -/
def LayersHeld (s t : State) : Prop := ∀ i : LayerNo, s.lt.layers[i].state ≠ .free →
  t.lt.layers[i].state ≠ .free ∧ t.lt.layers[i].owner = s.lt.layers[i].owner

theorem LayersKept.held {s t : State} (h : LayersKept s t) : LayersHeld s t := fun i hi =>
  let ⟨hfree, howner⟩ := (h i).holding fun hf => absurd hf hi
  ⟨fun hf => hi (hfree.mp hf), howner⟩

theorem LayersHeld.own {s t : State} (h : LayersHeld s t) {cue : Cue} (hon : OnOwnLayer s.lt.layers cue) :
    OnOwnLayer t.lt.layers cue :=
  let ⟨hfree, howner⟩ := h cue.layer hon.1
  ⟨hfree, howner.trans hon.2⟩

section
variable {s t : State} (hs : CuesSound s)
include hs

theorem CuesSound.of_held (hce : t.ce = s.ce) (hl : LayersHeld s t) : CuesSound t := by
  refine cuesSound_iff.mpr ?_
  rw [hce]
  exact ⟨hs.starts, hs.runs.shrink (.refl _) fun _ _ _ _ => hl.own⟩

theorem CuesSound.of_parts (hce : t.ce = s.ce) (hl : layerParts t = layerParts s) : CuesSound t :=
  hs.of_held hce (LayersMoved.of_parts hl).kept.held

/-- What touches ports, cue records and start queue alone keeps the law when it adds no run and keeps the queue sound. -/
theorem CuesSound.of_starts (hframe : StartsFrame s t) (hstarts : StartsSound t.ce.cues t.ce.queue)
    (hruns : RunsFrom s.ce.cues t.ce.cues) : CuesSound t := by
  obtain ⟨-, -, hlt, -⟩ := hframe.parts
  refine cuesSound_iff.mpr ⟨hstarts, ?_⟩
  rw [hlt]
  exact hs.runs.of_from hruns

end

/-- With every cue READY or EMPTY and no entry queued the law holds, whatever the layers. -/
theorem CuesSound.of_idle {s : State} (hq : s.ce.queue = [])
    (hrun : ∀ (c : CueNo) (cue : Cue), s.ce.cues[c] = some cue → cue.run = .ready) : CuesSound s := by
  have hidle : ∀ (c : CueNo) (cue : Cue), s.ce.cues[c] = some cue → cue.run.active = true → False := fun c cue hc hact => by
    rw [hrun c cue hc] at hact
    cases hact
  refine cuesSound_iff.mpr ⟨?_, fun c cue hc hact => (hidle c cue hc hact).elim,
    fun c _ x _ hx _ hact _ _ => (hidle c x hx hact).elim⟩
  rw [hq]
  refine ⟨Nat.zero_le _, List.nodup_nil, fun c => iff_of_false (fun ⟨e, he, _⟩ => List.not_mem_nil he) ?_⟩
  rintro ⟨cue, hc, hsched⟩
  rw [hrun c cue hc] at hsched
  cases hsched

end Sys2Proof.Machine

/-! PROOF. The law of cues and starts along each operation (R94, R98, R100, R101, R103, R110 to R113). -/

namespace Sys2Proof.Machine

/-! ## One cue ended, scheduled, stopped, emptied -/

theorem not_scheduled {s : State} {c : CueNo} {cue : Cue} (hcue : s.ce.cues[c] = some cue) (hrun : cue.run ≠ .scheduled) :
    ¬Scheduled s.ce.cues c := by
  rintro ⟨x, hx, hsched⟩
  exact hrun (Option.some.inj (hcue.symm.trans hx) ▸ hsched)

/-- A cue just made READY neither runs nor is SCHEDULED. -/
theorem readied_idle (cue : Cue) : ∀ y, some { cue with run := Run.ready } = some y → y.run.active = false :=
  fun _ hy => Option.some.inj hy ▸ rfl

theorem readied_unscheduled (cue : Cue) : ∀ y, some { cue with run := Run.ready } = some y → y.run ≠ .scheduled :=
  fun _ hy => Option.some.inj hy ▸ nofun

theorem schedule_ce (s : State) (c : CueNo) (cue : Cue) (start : Time) (o : Origin) : (s.schedule c cue start o).ce =
    { s.ce with cues := setAt s.ce.cues c (some { cue with run := .scheduled })
                queue := insertEntry ⟨c, start, o⟩ (dropEntry c s.ce.queue) } := by
  unfold State.schedule
  dsimp only
  split
  · rw [notify_ce]
    rfl
  · rfl

section
variable {s : State} (hs : CuesSound s)
include hs

theorem CuesSound.endCue {c : CueNo} {cue : Cue} (hcue : s.ce.cues[c] = some cue) (hrun : cue.run ≠ .scheduled)
    (why : EndReason) : CuesSound (s.endCue c cue why) := by
  refine hs.of_starts (.endCue ..) ?_ ?_
  · rw [endCue_ce]
    exact hs.starts.setIdle (not_scheduled hcue hrun) (readied_unscheduled cue)
  · rw [endCue_ce]
    exact .setAt_idle c (readied_idle cue)

/-- A SCHEDULED cue ends with its start dropped. -/
theorem CuesSound.endStart (c : CueNo) (cue : Cue) (why : EndReason) :
    CuesSound ((s.setStartQueue (dropEntry c s.ce.queue)).endCue c cue why) := by
  refine hs.of_starts ((StartsFrame.setStartQueue ..).trans (.endCue ..)) ?_ ?_
  · rw [endCue_ce]
    exact hs.starts.drop c (readied_unscheduled cue)
  · rw [endCue_ce]
    exact .setAt_idle c (readied_idle cue)

theorem CuesSound.emptyCue (c : CueNo) (cue : Cue) (why : EndReason) : CuesSound (s.emptyCue c cue why) := by
  refine hs.of_starts (emptyCue_frame ..) ?_ ?_
  · rw [emptyCue_ce]
    exact hs.starts.drop c nofun
  · rw [emptyCue_ce]
    exact .setAt_idle c nofun

/-- A cue is SCHEDULED where the queue has a place, or it has one there already (R99 to R101). -/
theorem CuesSound.schedule {c : CueNo} {cue : Cue} (hcue : s.ce.cues[c] = some cue) (hroom : s.startFull cue = false)
    (start : Time) (o : Origin) : CuesSound (s.schedule c cue start o) := by
  refine hs.of_starts (.schedule ..) ?_ ?_
  · rw [schedule_ce]
    refine hs.starts.insert (e := ⟨c, start, o⟩) rfl ?_
    simp only [State.startFull, Bool.and_eq_false_iff, decide_eq_false_iff_not, not_le, bne_eq_false_iff_eq] at hroom
    exact hroom.imp_right fun hsched => ⟨cue, hcue, hsched⟩
  · rw [schedule_ce]
    exact .setAt_idle c fun _ hy => Option.some.inj hy ▸ rfl

theorem CuesSound.stop {c : CueNo} {cue : Cue} (hcue : s.ce.cues[c] = some cue) : CuesSound (s.stop c cue) := by
  unfold State.stop
  split
  · exact hs
  · exact hs.endStart c cue .stopped
  · next start latest hrun =>
    have hnot : cue.run ≠ .scheduled := by rw [hrun]; nofun
    split
    · refine hs.of_starts (.setCue ..) (hs.starts.setIdle (not_scheduled hcue hnot) fun _ hy => Option.some.inj hy ▸ nofun)
        (.setAt fun y hy _ => ⟨cue, hcue, by rw [hrun]; rfl, ?_⟩)
      exact Option.some.inj hy ▸ ⟨rfl, rfl⟩
    · exact hs.endCue hcue hnot .stopped
  · next hrun => exact hs.endCue hcue (by rw [hrun]; nofun) .stopped

/-! ## Actions and codes (R101, R132) -/

theorem CuesSound.actStart {c : CueNo} {cue : Cue} (hcue : s.ce.cues[c] = some cue) (stamp : Time) (o : Origin) :
    CuesSound (s.actStart c cue stamp o) := by
  unfold State.actStart
  split
  · exact hs
  · next hroom => exact hs.schedule hcue (Bool.eq_false_iff.mpr hroom) stamp o

theorem CuesSound.act (e : BindEntry) (stamp : Time) : CuesSound (s.act e stamp) := by
  unfold State.act
  split
  · split
    · exact hs
    · next cue hcue =>
      split
      · exact hs.actStart hcue stamp e.owner
      · exact hs.stop hcue
      · split
        · exact hs.actStart hcue stamp e.owner
        · exact hs.stop hcue
  · exact hs

end

/-- A fold of steps that each keep a law keeps it. -/
theorem foldl_law {α : Type} {law : State → Prop} {f : State → α → State} (h : ∀ s a, law s → law (f s a)) (l : List α)
    {s : State} (hs : law s) : law (l.foldl f s) :=
  foldl_related (R := fun s t => law s → law t) (fun _ => id) (fun h g => g ∘ h) h l s hs

section
variable {s : State} (hs : CuesSound s)
include hs

theorem CuesSound.matchCode (src : CodeSource) (code : Byte) (stamp : Time) : CuesSound (s.matchCode src code stamp) := by
  unfold State.matchCode
  dsimp only
  exact (foldl_law (fun _ e hu => hu.act e stamp) _ hs).of_parts (notifyAll_ce ..) (notifyAll_parts ..)

theorem CuesSound.seeUnmatched (src : CodeSource) (code : Byte) (stamp : Time) :
    CuesSound (s.seeUnmatched src code stamp) :=
  hs.of_parts (notifyAll_ce ..) (notifyAll_parts ..)

theorem CuesSound.matchWakeList : CuesSound s.matchWakeList := by
  have hempty : CuesSound (s.setWakeList []) := hs.of_parts rfl rfl
  unfold State.matchWakeList
  apply foldl_law _ _ hempty
  exact fun u w hu => hu.matchCode ..

theorem CuesSound.addWake (t : LineNo) (e : EdgeKind) (stamp : Time) : CuesSound (s.addWake t e stamp) :=
  hs.of_parts (addWake_ce ..) (addWake_parts ..)

theorem CuesSound.handleEdge (t : LineNo) (e : EdgeKind) (stamp : Time) : CuesSound (s.handleEdge t e stamp) := by
  unfold State.handleEdge
  split
  · exact hs.matchCode ..
  · exact hs.matchCode ..
  · exact hs.seeUnmatched ..
  · split
    · exact (hs.addWake ..).of_parts (wakeEvent_ce _) (wakeEvent_parts _)
    · exact hs.seeUnmatched ..
  · exact hs.addWake ..

theorem CuesSound.acceptChange (t : LineNo) (level : Bool) : CuesSound (s.acceptChange t level) := by
  have hline (x : Line) : CuesSound (s.setLineRec t x) := hs.of_parts rfl rfl
  unfold State.acceptChange State.takeEdge
  dsimp only
  split
  · exact (hline _).of_parts (mirrorTo_ce ..) (mirrorTo_parts ..)
  · split
    · exact ((hline _).of_parts (setCapture_ce ..) (setCapture_parts ..)).handleEdge ..
    · exact hline _

end

/-! ## Every cue ended, or those of a layer or an origin (R113) -/

section
variable {s : State}

/-- What the end of a layer's cues makes of one cue. -/
theorem endedBy_activeOn {i : LayerNo} {cue : Cue} :
    endedBy (activeOn i) cue = if cue.run.active = true ∧ cue.layer = i then { cue with run := .ready } else cue := by
  simp only [endedBy, activeOn_iff]

theorem endCuesWhere_from (p : Cue → Bool) (why : EndReason) :
    RunsFrom s.ce.cues (s.endCuesWhere p why).ce.cues := by
  intro c y hy hact
  rw [endCuesWhere_cue] at hy
  obtain ⟨x, hx, hxy⟩ := Option.map_eq_some_iff.mp hy
  unfold endedBy at hxy
  split at hxy
  · rw [← hxy] at hact
    cases hact
  · exact ⟨x, hx, hxy ▸ hact, by rw [hxy], by rw [hxy]⟩

/-- No cue runs on a layer whose cues have ended. -/
theorem endCuesWhere_off {i : LayerNo} {why : EndReason} {c : CueNo} {y : Cue}
    (hy : (s.endCuesWhere (activeOn i) why).ce.cues[c] = some y) (hact : y.run.active = true) : y.layer ≠ i := by
  rw [endCuesWhere_cue] at hy
  obtain ⟨x, -, hxy⟩ := Option.map_eq_some_iff.mp hy
  rw [endedBy_activeOn] at hxy
  split at hxy
  · rw [← hxy] at hact
    cases hact
  · next hno => exact fun hl => hno (hxy ▸ ⟨hact, hl⟩)

/-- A SCHEDULED cue runs on no layer, so the end of a layer's cues leaves it as it is. -/
theorem endCuesWhere_scheduled (i : LayerNo) (why : EndReason) (c : CueNo) (x : Cue) (hx : x.run = .scheduled) :
    (s.endCuesWhere (activeOn i) why).ce.cues[c] = some x ↔ s.ce.cues[c] = some x := by
  rw [endCuesWhere_cue, Option.map_eq_some_iff]
  have hself : endedBy (activeOn i) x = x := by
    rw [endedBy_activeOn, if_neg]
    rintro ⟨hact, -⟩
    rw [hx] at hact
    cases hact
  refine ⟨fun ⟨y, hy, hyx⟩ => ?_, fun h => ⟨x, h, hself⟩⟩
  rw [endedBy_activeOn] at hyx
  split at hyx
  · rw [← hyx] at hx
    cases hx
  · exact hyx ▸ hy

theorem endCuesWhere_starts {q : List StartEntry} (h : StartsSound s.ce.cues q) (i : LayerNo) (why : EndReason) :
    StartsSound (s.endCuesWhere (activeOn i) why).ce.cues q :=
  h.of_scheduled fun c => exists_congr fun x => and_congr_left (endCuesWhere_scheduled i why c x)

theorem endCuesWhere_queue (p : Cue → Bool) (why : EndReason) : (s.endCuesWhere p why).ce.queue = s.ce.queue := by
  rw [CueFrame.endCuesWhere s p why]

/-- After all cues have ended none is SCHEDULED or runs, and no start is queued. -/
theorem endAllCues_idle (s : State) (why : EndReason) : (s.endAllCues why).ce.queue = [] ∧
    ∀ (c : CueNo) (cue : Cue), (s.endAllCues why).ce.cues[c] = some cue → cue.run = .ready := by
  unfold State.endAllCues
  refine ⟨setStartQueue_queue .., fun c cue hc => ?_⟩
  rw [setStartQueue_cues_kept, endCuesWhere_cue] at hc
  obtain ⟨x, -, rfl⟩ := Option.map_eq_some_iff.mp hc
  unfold endedBy
  split
  · rfl
  · next hno => simpa using hno

theorem cuesSound_of_ended {s t : State} {why : EndReason} (h : t.ce = (s.endAllCues why).ce) : CuesSound t := by
  obtain ⟨hqueue, hidle⟩ := endAllCues_idle s why
  rw [← h] at hqueue hidle
  exact .of_idle hqueue hidle

theorem setupTables_ce (u : State) :
    (((u.openGates.freeLayersWhere fun _ l => l.state != .free).releaseHolds).setPartState .setup).ce = u.ce := rfl

theorem darkened_ce (u : State) : u.darkLayers.emptyQueues.stopFrames.darkWatches.ce = u.ce := rfl

theorem cuesSound_enterSetup (s : State) : CuesSound s.enterSetup := cuesSound_of_ended (setupTables_ce _)

theorem cuesSound_fallAsleep (s : State) : CuesSound s.fallAsleep := cuesSound_of_ended (darkened_ce _)

end

section
variable {s : State} (hs : CuesSound s)
include hs

/-- CLOSE_LAYER frees the layer and ends the cue on it (R28, R113). -/
theorem CuesSound.closeLayer (i : LayerNo) :
    CuesSound ((s.freeLayersWhere fun j _ => j == i).endCuesWhere (activeOn i) .layerGone) := by
  refine cuesSound_iff.mpr ⟨?_, ?_⟩
  · rw [endCuesWhere_queue]
    exact endCuesWhere_starts (s := s.freeLayersWhere fun j _ => j == i) hs.starts i .layerGone
  · rw [(layerParts_eq_iff.mp (endCuesWhere_parts ..)).1]
    refine hs.runs.shrink (endCuesWhere_from (s := s.freeLayersWhere fun j _ => j == i) _ _) fun c y hy hact hon => ?_
    have hother := endCuesWhere_off hy hact
    rw [OnOwnLayer, freeLayersWhere_layer, if_neg (by simpa using hother)]
    exact hon

theorem CuesSound.forgetCue (o : Origin) (c : CueNo) : CuesSound (s.forgetCue o c) := by
  unfold State.forgetCue
  split
  · exact hs
  · split
    · exact hs.emptyCue ..
    · split
      · exact hs.endStart ..
      · exact hs

theorem CuesSound.forgetCues (o : Origin) : CuesSound (s.forgetCues o) := foldl_law (fun _ c hu => hu.forgetCue o c) _ hs

/-- FORGET frees the layers of an origin that is left with no cue (R113, R147). -/
theorem CuesSound.forget (o : Origin) : CuesSound (s.forget o) := by
  have hcopies : CuesSound (forgottenCopies o s) := hs.of_held rfl (discardCopies_kept s o).held
  have hcues := hcopies.forgetCues o
  have hgone : ∀ (c : CueNo) (y : Cue), ((forgottenCopies o s).forgetCues o).ce.cues[c] = some y → y.owner ≠ o := by
    intro c y hy hown
    rw [forgetCues_cue, forgottenCue, Option.bind_eq_some_iff] at hy
    obtain ⟨x, -, hx⟩ := hy
    split at hx
    · cases hx
    · next hne =>
      rw [← Option.some.inj hx] at hown
      exact hne hown
  have hfreed : CuesSound (forgottenLayers o s) := by
    unfold forgottenLayers
    generalize (forgottenCopies o s).forgetCues o = u at hcues hgone ⊢
    refine cuesSound_iff.mpr ⟨hcues.starts, hcues.runs.shrink (.refl _) fun c y hy _ hon => ?_⟩
    rw [OnOwnLayer, freeLayersWhere_layer, if_neg]
    · exact hon
    · exact fun howned => hgone c y hy (Option.some.inj (hon.2.symm.trans (ownedBy_iff.mp howned).2))
  obtain ⟨-, -, -, hce, -⟩ := (forgetSlots_frame o (forgottenLayers o s)).parts
  have hslots := hfreed.of_held hce (forgetSlots_moved (forgottenLayers o s) o).kept.held
  rw [forget_eq]
  generalize (forgottenLayers o s).forgetSlots o = u at hslots ⊢
  exact hslots.of_parts rfl rfl

/-! ## Natural ends (R112) -/

theorem CuesSound.naturalEnd {c : CueNo} {cue : Cue} (hcue : s.ce.cues[c] = some cue) (hrun : cue.run ≠ .scheduled) :
    CuesSound (s.naturalEnd c cue) := by
  unfold State.naturalEnd
  have hlayer : CuesSound (s.setLayer cue.layer (s.endedLayer cue s.lt.layers[cue.layer])) :=
    hs.of_held rfl (LayersMoved.setLayer (endedLayer_moved s cue _)).kept.held
  exact hlayer.endCue hcue hrun .finished

end

/-- Only a RUNNING cue comes to its natural end, only a RELEASING one to the end of its release. -/
theorem endsAt_run {tf : Time} {cue : Cue} (h : endsAt tf cue = true) : ∃ start latest, cue.run = .running start latest := by
  unfold endsAt at h
  split at h
  · exact ⟨_, _, by assumption⟩
  · cases h

theorem releaseOver_run {tf : Time} {cue : Cue} (h : releaseOver tf cue = true) :
    ∃ start rel frozen, cue.run = .releasing start rel frozen := by
  unfold releaseOver at h
  split at h
  · exact ⟨_, _, _, by assumption⟩
  · cases h

section
variable {s : State} (hs : CuesSound s)
include hs

theorem CuesSound.releaseEnd {tf : Time} {c : CueNo} {cue : Cue} (hcue : s.ce.cues[c] = some cue)
    (h : releaseOver tf cue = true) : CuesSound (s.endCue c cue .stopped) :=
  let ⟨_, _, _, hrun⟩ := releaseOver_run h
  hs.endCue hcue (by rw [hrun]; nofun) .stopped

theorem CuesSound.endAt {tf : Time} {c : CueNo} {cue : Cue} (hcue : s.ce.cues[c] = some cue) (h : endsAt tf cue = true) :
    CuesSound (s.naturalEnd c cue) :=
  let ⟨_, _, hrun⟩ := endsAt_run h
  hs.naturalEnd hcue (by rw [hrun]; nofun)

theorem CuesSound.endIfDue (tf : Time) (c : CueNo) : CuesSound (s.endIfDue tf c) := by
  unfold State.endIfDue
  split
  · exact hs
  · next cue hcue =>
    split
    · exact hs.releaseEnd hcue (by assumption)
    · split
      · exact hs.endAt hcue (by assumption)
      · exact hs

theorem CuesSound.cueEnds (tf : Time) : CuesSound (s.cueEnds tf) := foldl_law (fun _ c hu => hu.endIfDue tf c) _ hs

/-! ## Every run changed in place -/

/-- Cue records changed in place keep the law when each keeps its layer, its owner and whether it is SCHEDULED or runs. -/
theorem CuesSound.mapCues {t : State} {f : Cue → Cue} (hcues : t.ce.cues = mapAt s.ce.cues fun _ x => x.map f)
    (hqueue : t.ce.queue = s.ce.queue) (hlayers : t.lt.layers = s.lt.layers)
    (hf : ∀ x, (f x).layer = x.layer ∧ (f x).owner = x.owner ∧ (f x).run.active = x.run.active ∧
      ((f x).run = .scheduled ↔ x.run = .scheduled)) : CuesSound t := by
  refine cuesSound_iff.mpr ?_
  rw [hcues, hqueue, hlayers]
  refine ⟨hs.starts.of_scheduled fun c => ?_, hs.runs.of_from fun c y hy hact => ?_⟩
  · unfold Scheduled
    rw [mapAt_get]
    constructor
    · rintro ⟨y, hy, hrun⟩
      obtain ⟨x, hx, rfl⟩ := Option.map_eq_some_iff.mp hy
      obtain ⟨-, -, -, hsched⟩ := hf x
      exact ⟨x, hx, hsched.mp hrun⟩
    · rintro ⟨x, hx, hrun⟩
      obtain ⟨-, -, -, hsched⟩ := hf x
      exact ⟨f x, by rw [hx]; rfl, hsched.mpr hrun⟩
  · rw [mapAt_get] at hy
    obtain ⟨x, hx, rfl⟩ := Option.map_eq_some_iff.mp hy
    obtain ⟨hlayer, howner, hrun, -⟩ := hf x
    exact ⟨x, hx, hrun ▸ hact, hlayer.symm, howner.symm⟩

theorem CuesSound.evaluate (tf : Time) : CuesSound (s.evaluate tf) := by
  refine hs.mapCues (f := s.evaluated tf) rfl rfl rfl fun x => ?_
  unfold State.evaluated
  split
  · next h => rw [h]; exact ⟨rfl, rfl, rfl, nofun, nofun⟩
  · exact ⟨rfl, rfl, rfl, Iff.rfl⟩

theorem CuesSound.setScene (clock : Time) : CuesSound (s.setScene clock) := by
  refine hs.mapCues (f := fun x => { x with run := shiftRun (clock - s.sc.scene) x.run }) rfl rfl rfl fun x => ?_
  cases h : x.run with
  | ready | running _ _ | releasing _ _ _ => exact ⟨rfl, rfl, rfl, nofun, nofun⟩
  | scheduled => exact ⟨rfl, rfl, rfl, fun _ => rfl, fun _ => rfl⟩

end

/-! ## Due starts (R102, R103) -/

/-- The law while due entries, taken out of the queue, wait to be resolved (R102). -/
def CuesAwaiting (l : List StartEntry) (s : State) : Prop :=
  StartsSound s.ce.cues (l ++ s.ce.queue) ∧ RunsSound s.ce.cues s.lt.layers

/-- An entry resolved is the one for its cue, which is SCHEDULED. -/
theorem CuesAwaiting.entry {e : StartEntry} {l : List StartEntry} {s : State} (h : CuesAwaiting (e :: l) s) :
    (∃ cue, s.ce.cues[e.cue] = some cue ∧ cue.run = .scheduled) ∧
      dropEntry e.cue (e :: l ++ s.ce.queue) = l ++ s.ce.queue := by
  obtain ⟨⟨-, hone, hq⟩, -⟩ := h
  refine ⟨(hq e.cue).mp ⟨e, List.mem_cons_self, rfl⟩, ?_⟩
  obtain ⟨hnot, -⟩ := List.nodup_cons.mp hone
  rw [dropEntry, List.cons_append, List.filter_cons_of_neg (by simp), List.filter_eq_self]
  exact fun d hd => bne_iff_ne.mpr fun hcue => hnot (List.mem_map.mpr ⟨d, hd, hcue⟩)

theorem startCueAt_ce (u : State) (tf : Time) (c : CueNo) (cue : Cue) (start : Time) : ∃ start',
    (u.startCueAt tf c cue start).ce =
      { u.ce with cues := setAt u.ce.cues c (some { cue with run := .running start' [] }) } := by
  refine ⟨if decide (timeDiff tf start ≥ u.sc.period * 1000) then tf else start, ?_⟩
  unfold State.startCueAt
  dsimp only
  split
  · split
    · rw [setLayer_ce, notify_ce]
      rfl
    · rfl
  · split
    · rw [notify_ce]
      rfl
    · rfl

/-- A due entry resolved: its cue ends with its layer gone, or runs there alone (R103). -/
theorem CuesAwaiting.resolve {e : StartEntry} {l : List StartEntry} {s : State} (h : CuesAwaiting (e :: l) s) (tf : Time) :
    CuesAwaiting l (s.resolve tf e) := by
  obtain ⟨⟨cue, hcue, hrun⟩, hrest⟩ := h.entry
  obtain ⟨hstarts, hruns⟩ := h
  have hdropped {x : Option Cue} (hx : ∀ y, x = some y → y.run ≠ .scheduled) := hrest ▸ hstarts.drop e.cue hx
  by_cases hgone : s.lt.layers[cue.layer].state = .free ∨ s.lt.layers[cue.layer].owner ≠ some cue.owner
  · rw [resolve_gone hcue hgone]
    unfold CuesAwaiting
    rw [endCue_ce, (layerParts_eq_iff.mp (endCue_parts ..)).1]
    exact ⟨hdropped (readied_unscheduled cue), hruns.of_from (.setAt_idle _ (readied_idle cue))⟩
  · obtain ⟨hfree, hown⟩ := not_or.mp hgone
    rw [not_not] at hown
    rw [resolve_starts hcue hfree hown]
    have hlayers := (layerParts_eq_iff.mp (endCuesWhere_parts s (activeOn cue.layer) .preempted)).1
    have hqueue := endCuesWhere_queue (s := s) (activeOn cue.layer) .preempted
    have hended := endCuesWhere_starts hstarts cue.layer .preempted
    have hleft := hruns.of_from (endCuesWhere_from (s := s) (activeOn cue.layer) .preempted)
    have hoff := fun c y => endCuesWhere_off (s := s) (i := cue.layer) (why := .preempted) (c := c) (y := y)
    generalize s.endCuesWhere (activeOn cue.layer) .preempted = u at *
    have hmoved := (startCueAt_moved (s := u) (cue := cue) (by rw [hlayers]; exact hfree) tf e.cue e.start).kept.held
    obtain ⟨start', hce⟩ := startCueAt_ce u tf e.cue cue e.start
    unfold CuesAwaiting
    rw [hce, hqueue, ← hrest]
    refine ⟨hended.drop e.cue fun _ hy => Option.some.inj hy ▸ nofun, ?_⟩
    refine (RunsSound.start hleft (cue := { cue with run := .running start' [] }) (fun c y => hoff c y)
      ⟨hfree, hown⟩).shrink (.refl _) fun _ _ _ _ hon => hmoved.own ?_
    rw [hlayers]
    exact hon

theorem CuesAwaiting.resolveAll {l : List StartEntry} {s : State} (h : CuesAwaiting l s) (tf : Time) :
    CuesSound (l.foldl (fun u e => u.resolve tf e) s) := by
  induction l generalizing s with
  | nil => exact cuesSound_iff.mpr h
  | cons e l ih => exact ih (h.resolve tf)

section
variable {s : State} (hs : CuesSound s)
include hs

theorem CuesSound.dueStarts (tf : Time) : CuesSound (s.dueStarts tf) := by
  refine CuesAwaiting.resolveAll (s := s.setStartQueue (s.ce.queue.filter fun e => !startDue tf e)) ⟨?_, hs.runs⟩ tf
  exact hs.starts.perm (List.filter_append_perm (startDue tf) s.ce.queue)

/-! ## Frame starts and the end of a wake (R88, R192) -/

theorem CuesSound.raiseFrame (tf : Time) : CuesSound (s.raiseFrame tf) := hs.of_parts rfl (raiseFrame_parts s tf)

theorem CuesSound.applyGates : CuesSound s.applyGates := hs.of_held rfl (applyGates_kept s).held

/-- Presences stepped and queues promoted and judged touch no cue. -/
theorem CuesSound.presencesAndStreams (tf : Time) : CuesSound (s.stepPresences.promote tf).judgeStale :=
  hs.of_held rfl (stepPresences_moved s).kept.held

theorem CuesSound.beginCompose (tf : Time) : CuesSound (s.beginCompose tf) := hs.of_held rfl (LayersKept.refl s).held

theorem CuesSound.frameStart (tf : Time) : CuesSound (s.frameStart tf) := by
  have hcues : CuesSound (beforeLoops s tf) :=
    (((((hs.raiseFrame tf).applyGates.dueStarts tf).cueEnds tf).evaluate tf).presencesAndStreams tf)
  have hloops : CuesSound (beforeCompose s tf) :=
    hcues.of_parts (by rw [beforeCompose, loopsAtFrame_frame]) (beforeCompose_parts s tf)
  rw [frameStart_eq]
  exact hloops.beginCompose tf

theorem CuesSound.completeWake : CuesSound s.completeWake := by
  have hwoken : CuesSound s.wakeUp.wakeLoops := hs.of_held rfl (LayersKept.refl _).held
  exact hwoken.matchWakeList.frameStart _

end

end Sys2Proof.Machine

/-! PROOF. The law of cues and starts along every step: commands that leave the Cue Engine and hold the layers, and the others
each by its own rule. -/

namespace Sys2Proof.Machine

/-! ## Commands that leave the Cue Engine as it is -/

section
variable {s n : State}

theorem LayersHeld.refl (s : State) : LayersHeld s s := (LayersKept.refl s).held

theorem live_layersHeld (h : LayersHeld s n) : WhenNext (LayersHeld s) (s.live n) := whenNext_live (.refl s) fun _ => h

theorem liveWhen_layersHeld {c : Bool} (h : LayersHeld s n) : WhenNext (LayersHeld s) (s.liveWhen c n) :=
  whenNext_liveWhen (.refl s) fun _ _ => h

theorem answered_layersHeld {k : Option Kind} {o : Origin} {serve : Taken → State → Served}
    (h : ∀ tk u, WhenServed (LayersHeld u) (serve tk u)) :
    WhenNext (LayersHeld s) (takeRequest k o s fun tk u => answer tk u (serve tk u)) :=
  whenNext_takeRequest (.refl s) (.refl s) (fun _ => .refl s) fun rq =>
    answer_keeps (P := LayersHeld s) (fun _ => .refl s) (h ⟨o, rq⟩ (s.popIntake o))

end

/-- A layer granted was FREE, and no other changes (R20). -/
theorem granted_layersHeld {u : State} {i : LayerNo} (hi : u.lt.layers[i].state = .free) (l : Layer) :
    LayersHeld u (u.setLayer i l) := by
  intro j hj
  have hne : j ≠ i := by
    rintro rfl
    exact hj hi
  rw [setLayer_layers, setAt_get, if_neg hne]
  exact ⟨hj, rfl⟩

/-- A completion settles void flags alone (R67). -/
theorem completeCompose_layersHeld (s : State) (c : Compose) : LayersHeld s (s.completeCompose c) := by
  intro i hi
  rw [completeCompose_layer]
  exact ⟨hi, rfl⟩

/-- A command that leaves the Cue Engine leaves every layer with its owner that has one. -/
theorem exec_layersHeld (c : Instr) (hc : writesCues c = false) (s : State) : WhenNext (LayersHeld s) (exec c s) := by
  cases hparts : setsLayerParts c with
  | false => exact fun t ht => (LayersMoved.of_parts (exec_sameParts c hparts s t ht)).kept.held
  | true =>
    cases c with
    | resetPinAssert => exact live_layersHeld (.refl s)
    | setOrigin o =>
      simp only [exec, execSetOrigin]
      refine answered_layersHeld fun tk u => ?_
      simp only [serveSetOrigin, whenServed_bind, whenServed_pure]
      intros
      exact .refl u
    | deletePattern o =>
      simp only [exec, execDeletePattern]
      refine answered_layersHeld fun tk u => ?_
      simp only [serveDeletePattern, whenServed_bind, whenServed_pure]
      intro n _ _ _ _ _
      exact (deleteSlot_moved u n).kept.held
    | openLayer o =>
      simp only [exec, execOpenLayer]
      refine answered_layersHeld fun tk u => ?_
      simp only [serveOpenLayer, whenServed_bind, whenServed_pure, found_eq_ok]
      intro _ _ t _ _ _ _ _ _ _ i hi
      exact granted_layersHeld (freeLayer?_eq_some hi) _
    | editLayer o =>
      simp only [exec, execEditLayer]
      refine answered_layersHeld fun tk u => ?_
      simp only [serveEditLayer, whenServed_bind, whenServed_pure, require_eq_ok, Bool.not_eq_false']
      intro _ _ i _ _ _ _ howned e _ _ _ _ _ _ _ _ _
      exact (makeEdit_kept (ownedBy_iff.mp howned).1 tk.origin e).held
    | showLayer o =>
      simp only [exec, execShowLayer]
      refine answered_layersHeld fun tk u => ?_
      simp only [serveShowLayer, whenServed_bind, whenServed_pure]
      exact fun i hi => (setShown_moved (ownLayer_passes hi).1 true).kept.held
    | hideLayer o =>
      simp only [exec, execHideLayer]
      refine answered_layersHeld fun tk u => ?_
      simp only [serveHideLayer, whenServed_bind, whenServed_pure]
      exact fun i hi => (setShown_moved (ownLayer_passes hi).1 false).kept.held
    | streamFrame o =>
      simp only [exec, execStreamFrame]
      refine whenNext_takeRequest (.refl s) (.refl s) (fun _ => .refl s) fun rq => ?_
      unfold serveStreamFrame
      split <;> exact .refl s
    | enterRun o =>
      simp only [exec, execEnterRun]
      refine answered_layersHeld fun tk u => ?_
      simp only [serveEnterRun, whenServed_bind, whenServed_pure]
      intro _ _
      split <;> exact .refl u
    | sleep o =>
      simp only [exec, execSleep]
      refine answered_layersHeld fun tk u => ?_
      simp only [serveSleep, whenServed_bind, whenServed_pure]
      intros
      exact .refl u
    | streamStale q =>
      change WhenNext (LayersHeld s) (execStreamStale q s)
      unfold execStreamStale
      split
      · exact whenNext_next.mpr (.refl s)
      · exact liveWhen_layersHeld (.refl s)
    | composeComplete =>
      change WhenNext (LayersHeld s) (execComposeComplete s)
      unfold execComposeComplete
      split
      · exact whenNext_next.mpr (.refl s)
      · exact live_layersHeld (completeCompose_layersHeld s _)
    | gateExpiry o =>
      have hcopies := (discardCopies_kept s o).held
      refine liveWhen_layersHeld ?_
      unfold State.expireGate
      rw [notify_frame]
      exact hcopies
    | powerOn _ _ | resetPinRelease _ | closeLayer _ | forget _ | enterSetup _ | restart _ | frameStart | cueNaturalEnd _
    | settle | wakeCompletion => cases hc
    | _ => cases hparts

/-! ## Commands that touch cues -/

section
variable {s : State} (hs : CuesSound s)
include hs

/-- A request keeps the law when its owning block's work does. -/
theorem CuesSound.request {k : Option Kind} {o : Origin} {serve : Taken → State → Served}
    (hserve : ∀ tk u, CuesSound u → WhenServed CuesSound (serve tk u)) :
    WhenNext CuesSound (takeRequest k o s fun tk u => answer tk u (serve tk u)) :=
  have hpop : CuesSound (s.popIntake o) := hs.of_parts rfl rfl
  whenNext_takeRequest hs hpop (fun _ => hs.of_parts rfl rfl) fun rq =>
    answer_keeps (fun _ => hs.of_parts rfl rfl) (hserve ⟨o, rq⟩ _ hpop)

theorem CuesSound.reply (tk : Taken) (c : Code) (clamped replaced : Bool) (result : List Byte) :
    CuesSound (s.reply tk c clamped replaced result) := hs.of_parts (reply_ce ..) (reply_parts ..)

theorem CuesSound.done (tk : Taken) (result : List Byte) : CuesSound (s.done tk result) := hs.reply ..

/-- A READY cue takes an EMPTY number (R96). -/
theorem CuesSound.define {c : CueNo} (hc : s.ce.cues[c] = none) {cue : Cue} (hrun : cue.run = .ready) :
    CuesSound (s.setCue c (some cue)) := by
  refine hs.of_starts (.setCue ..) (hs.starts.setIdle ?_ ?_) (.setAt_idle c ?_)
  · rintro ⟨x, hx, -⟩
    rw [hc] at hx
    cases hx
  · rintro _ hy
    rw [← Option.some.inj hy, hrun]
    nofun
  · rintro _ hy
    rw [← Option.some.inj hy, hrun]
    rfl

end

theorem freeCue?_some {s : State} {c : CueNo} (h : s.freeCue? = some c) : s.ce.cues[c] = none := by
  simpa using List.find?_some h

theorem fresh_cues (strap : Fin 8) (raw : LineNo → Bool) (pending : List Instr) (n : Nat) :
    (State.fresh strap raw pending n).ce = State.reset.ce := rfl

theorem restarted_cues (s : State) : s.restarted.ce = State.reset.ce := rfl

theorem exec_cuesSound (c : Instr) (hc : writesCues c = true) {s : State} (hs : CuesSound s) :
    WhenNext CuesSound (exec c s) := by
  have hfresh (strap : Fin 8) (raw : LineNo → Bool) : CuesSound (State.fresh strap raw s.pending s.freeCount) :=
    cuesSound_reset.of_parts (fresh_cues ..) (fresh_parts ..)
  cases c with
  | powerOn strap raw => exact whenNext_next.mpr (hfresh ..)
  | resetPinRelease strap =>
    refine whenNext_next.mpr ?_
    split
    · exact hfresh ..
    · exact hs
  | writeKeys o =>
    simp only [exec, execWriteKeys]
    refine hs.request fun tk u hu => ?_
    simp only [serveWriteKeys, whenServed_bind, whenServed_pure]
    intro _ _ _ _ keys _ _ _
    have hpool (pool : Store Keyframe) : CuesSound { u with ce := { u.ce with pool := pool } } := hu
    exact (hpool _).done ..
  | defineCue o =>
    simp only [exec, execDefineCue]
    refine hs.request fun tk u hu => ?_
    simp only [serveDefineCue, whenServed_bind, whenServed_pure, found_eq_ok]
    intro _ _ _ _ _ _ _ _ _ _ _ _ _ _ c hfree
    exact (hu.define (freeCue?_some hfree) rfl).reply ..
  | deleteCue o =>
    simp only [exec, execDeleteCue]
    refine hs.request fun tk u hu => ?_
    simp only [serveDeleteCue, whenServed_bind, whenServed_pure]
    intro c _ x _ _ _
    exact ((hu.done ..).emptyCue c x .stopped).of_parts rfl (unbindWhere_parts ..)
  | setClock o =>
    simp only [exec, execSetClock]
    refine hs.request fun tk u hu => ?_
    simp only [serveSetClock, whenServed_bind, whenServed_pure]
    intros
    exact (hu.setScene _).done ..
  | closeLayer o =>
    simp only [exec, execCloseLayer]
    refine hs.request fun tk u hu => ?_
    simp only [serveCloseLayer, whenServed_bind, whenServed_pure]
    exact fun i _ => (hu.done ..).closeLayer i
  | startCue o =>
    simp only [exec, execStartCue]
    refine hs.request fun tk u hu => ?_
    simp only [serveStartCue, whenServed_bind, whenServed_pure, found_eq_ok, require_eq_ok]
    intro _ _ c _ _ _ cue hcue _ _ _ _ _ hroom
    exact CuesSound.schedule (hu.reply ..) hcue hroom ..
  | stopCue o =>
    simp only [exec, execStopCue]
    refine hs.request fun tk u hu => ?_
    simp only [serveStopCue, whenServed_bind, whenServed_pure, found_eq_ok]
    intro _ _ c _ cue hcue _ _
    exact CuesSound.stop (hu.done ..) hcue
  | trigger o =>
    simp only [exec, execTrigger]
    refine hs.request fun tk u hu => ?_
    simp only [serveTrigger, whenServed_bind, whenServed_pure]
    intros
    exact (hu.done ..).matchCode ..
  | forget o =>
    simp only [exec, execForget]
    refine hs.request fun tk u hu => ?_
    simp only [serveForget, whenServed_bind, whenServed_pure]
    intro q _ _ _
    exact (hu.done ..).forget q
  | enterSetup o =>
    simp only [exec, execEnterSetup]
    refine hs.request fun tk u hu => ?_
    simp only [serveEnterSetup, whenServed_bind, whenServed_pure]
    intro _ _
    split
    · exact hu.done ..
    · exact cuesSound_enterSetup _
  | restart o =>
    simp only [exec, execRestart]
    refine hs.request fun tk u _ => ?_
    simp only [serveRestart, whenServed_bind, whenServed_pure]
    intros
    exact (cuesSound_reset.of_parts (restarted_cues u) (restarted_parts u)).done ..
  | frameStart =>
    change WhenNext CuesSound (execFrameStart s)
    unfold execFrameStart
    split
    · exact whenNext_next.mpr hs
    · exact whenNext_liveWhen hs fun _ _ => hs.frameStart _
  | cueNaturalEnd c =>
    change WhenNext CuesSound (execCueNaturalEnd c s)
    unfold execCueNaturalEnd atLastFrame
    split
    · next hcue => exact whenNext_liveWhen hs fun _ hends => hs.endAt hcue hends
    · exact whenNext_next.mpr hs
  | cueReleaseEnd c =>
    change WhenNext CuesSound (execCueReleaseEnd c s)
    unfold execCueReleaseEnd atLastFrame
    split
    · next hcue => exact whenNext_liveWhen hs fun _ hover => hs.releaseEnd hcue hover
    · exact whenNext_next.mpr hs
  | lineChangeAccepted t =>
    change WhenNext CuesSound (execLineChangeAccepted t s)
    unfold execLineChangeAccepted
    split
    · exact whenNext_next.mpr hs
    · exact whenNext_liveWhen hs fun _ _ => hs.acceptChange ..
  | settle => exact whenNext_liveWhen hs fun _ _ => cuesSound_fallAsleep _
  | wakeCompletion => exact whenNext_liveWhen hs fun _ _ => hs.completeWake
  | _ => cases hc

/-- Settles O13: a command that leaves the Cue Engine leaves every held layer with its owner, and each that touches cues keeps
starts and runs sound together. -/
theorem stepsKeepTheStartQueueSound : Obligations.StepsKeepTheStartQueueSound := by
  refine keptByStep_of_exec (fun s q hs => hs.of_parts rfl rfl) (fun s hs => hs.of_parts rfl (microsecond_parts s))
    fun c s hs => ?_
  cases hc : writesCues c with
  | true => exact exec_cuesSound c hc hs
  | false => exact fun t ht => hs.of_held (exec_sameCues c hc s t ht) (exec_layersHeld c hc s t ht)

end Sys2Proof.Machine

/-! PROOF. DEFINE_CUE and DELETE_CUE (R95, R96, R97): their checks in turn, and the tables each leaves. -/

namespace Sys2Proof.Machine

/-! ## What a notice does not read -/

/-- Bind entries may be made invalid before a notice is queued, or after. -/
theorem notify_unbindWhere (s : State) (o : Origin) (n : Notice) (p : BindEntry → Bool) :
    (s.notify o n).unbindWhere p = (s.unbindWhere p).notify o n := by
  rw [notify_frame (s.unbindWhere p), ← notify_mp_congr (show s.mp = (s.unbindWhere p).mp from rfl), notify_frame s]
  rfl

/-! ## Tracks of distinct targets -/

theorem sharesTarget_iff (trs : List Track) : sharesTarget trs = false ↔ (trs.map (·.target)).Nodup := by
  induction trs with
  | nil => exact iff_of_true rfl List.nodup_nil
  | cons tr rest ih => simp [sharesTarget, ih]

/-- A track field gives a run of 2 keyframes at least (R95, check 1). -/
theorem track?_count {t : Nat × Nat × Nat} {tr : Track} (h : track? t = some tr) : 2 ≤ tr.count := by
  unfold track? at h
  split at h
  · cases h
  · split at h
    · next hrun =>
      obtain ⟨hlow, -⟩ := hrun
      rw [← Option.some.inj h]
      exact hlow
    · cases h

/-- The tracks of a cue are all sound when no one of them is broken (R95, R109). -/
theorem anyBroken_iff {fields : List (Nat × Nat × Nat)} {trs : List Track} (h : fields.map track? = trs.map some)
    (r : OriginRec) (pool : Store Keyframe) (duration : Nat) :
    trs.any (trackBroken r pool duration) = false ↔ ∀ tr ∈ trs, TrackSound r pool duration tr := by
  rw [List.any_eq_false]
  refine forall₂_congr fun tr htr => ?_
  have hmem : some tr ∈ fields.map track? := h ▸ List.mem_map_of_mem htr
  obtain ⟨t, -, ht⟩ := List.mem_map.mp hmem
  rw [Bool.not_eq_true, trackBroken_iff _ _ _ _ (track?_count ht)]

/-! ## DEFINE_CUE -/

section
variable {s : State} {o : Origin} {rq : Intake}

theorem exec_defineCue (h : Takes s o .defineCue rq) : exec (.defineCue o) s =
    .next (answer ⟨o, rq⟩ (s.popIntake o) (serveDefineCue ⟨o, rq⟩ (defineCueArgs rq.data) (s.popIntake o))) :=
  takeRequest_takes (fun tk s => answer tk s (serveDefineCue tk (defineCueArgs tk.req.data) s)) h

/-- A DEFINE_CUE of known fields is left to the checks of its duration, its tracks and an EMPTY number (R95, R96). -/
theorem exec_defineCue_checked (h : Takes s o .defineCue rq) {l : LayerNo} {ending : EndBehaviour} {trs : List Track}
    (hlayer : byteAt rq.data 2 = l.val) (hlow : 1 ≤ byteAt rq.data 3) (hhigh : byteAt rq.data 3 ≤ 4)
    (htracks : (defineCueArgs rq.data).tracks.map track? = trs.map some) (hending : ending? (byteAt rq.data 7) = some ending) :
    exec (.defineCue o) s = .next (answer ⟨o, rq⟩ (s.popIntake o)
      (require (decide (leAt rq.data 4 2 = 0)) .badValue >>= fun _ => require (sharesTarget trs) .badTrack >>= fun _ =>
        require (trs.any (trackBroken (s.originRec o) s.ce.pool (leAt rq.data 4 2))) .badTrack >>= fun _ =>
        found s.freeCue? .noRoom >>= fun c =>
        .ok (((s.setCue c (some ⟨o, l, trs, leAt rq.data 4 2, byteAt rq.data 6, ending, autoShowOf (byteAt rq.data 8),
          min 5000 (leAt rq.data 9 2), .ready⟩)).popIntake o).reply ⟨o, rq⟩ .done (decide (5000 < leAt rq.data 9 2)) false
            [oneByte c.val]))) := by
  have hfin : fin? 16 (defineCueArgs rq.data).layer = some l := by
    rw [← fin?_val l, ← hlayer]
    rfl
  have hcount : decide (countIn 1 4 (defineCueArgs rq.data).count = 0) = false := by
    have : countIn 1 4 (byteAt rq.data 3) = byteAt rq.data 3 := if_pos ⟨hlow, hhigh⟩
    rw [decide_eq_false_iff_not]
    change ¬countIn 1 4 (byteAt rq.data 3) = 0
    omega
  have hend : ending? (defineCueArgs rq.data).ending = some ending := hending
  rw [exec_defineCue h, serveDefineCue, hfin, found_some_bind, hcount, require_false_bind, allFound_eq_some.mpr htracks,
    found_some_bind, hend]
  rfl

theorem freeCue?_of_lowest {c : CueNo} (hc : s.ce.cues[c] = none)
    (hlow : ∀ d : CueNo, d < c → s.ce.cues[d].isSome = true) : s.freeCue? = some c := by
  refine find_finRange_eq_some.mpr ⟨by rw [hc]; rfl, fun d hd => ?_⟩
  rw [Option.isNone_eq_false_iff]
  exact hlow d hd

theorem freeCue?_none (h : ∀ c : CueNo, s.ce.cues[c].isSome = true) : s.freeCue? = none := by
  refine List.find?_eq_none.mpr fun c _ => ?_
  rw [Bool.not_eq_true, Option.isNone_eq_false_iff]
  exact h c

/-! ## DELETE_CUE -/

theorem exec_deleteCue (h : Takes s o .deleteCue rq) : exec (.deleteCue o) s =
    .next (answer ⟨o, rq⟩ (s.popIntake o) (serveDeleteCue ⟨o, rq⟩ (byteAt rq.data 2) (s.popIntake o))) :=
  takeRequest_takes (fun tk s => answer tk s (serveDeleteCue tk (byteAt tk.req.data 2) s)) h

/-- A DELETE_CUE of a cue number is left to the checks of a defined cue and of its owner (R97). -/
theorem exec_deleteCue_checked (h : Takes s o .deleteCue rq) {c : CueNo} (hc : byteAt rq.data 2 = c.val) :
    exec (.deleteCue o) s = .next (answer ⟨o, rq⟩ (s.popIntake o)
      (found s.ce.cues[c] .notFound >>= fun x => require (x.owner ≠ o) .notOwner >>= fun _ =>
        .ok (((served s o rq .done false false []).emptyCue c x .stopped).unbindWhere fun e =>
          e.owner == x.owner && e.cue == c))) := by
  rw [exec_deleteCue h, serveDeleteCue, hc, fin?_val, found_some_bind, ← done_popIntake]
  rfl

/-- A cue emptied with its owner's bind entries: its record, its entry and theirs go, and a run that ends is told (R97). -/
theorem deletedCue_eq (u : State) (c : CueNo) (cue : Cue) (p : BindEntry → Bool) :
    (u.emptyCue c cue .stopped).unbindWhere p =
      let s1 := { u with ce := { u.ce with cues := setAt u.ce.cues c none, queue := u.ce.queue.filter (·.cue != c) }
                         tu := { u.tu with binds := mapAt u.tu.binds fun _ e => e.filter fun e => !p e } }
      if cue.run = .ready then s1 else s1.notify cue.owner (.cueEnded c cue.layer .stopped) := by
  unfold State.emptyCue
  dsimp only
  split
  · rfl
  · rw [notify_unbindWhere]
    rfl

end

/-- Settles O40: each request by its checks in turn. -/
theorem cuesAreDefinedAndDeleted : Obligations.CuesAreDefinedAndDeleted := by
  intro o s rq
  refine ⟨fun h l ending trs hlayer hlow hhigh htracks hending => ?_, fun h => ⟨fun hout => ?_, fun c hc => ?_⟩⟩
  · have hsound := anyBroken_iff htracks (s.originRec o) s.ce.pool (leAt rq.data 4 2)
    rw [exec_defineCue_checked h hlayer hlow hhigh htracks hending]
    dsimp only
    refine ⟨fun hzero => ?_, fun hne hbad => ?_, fun hne hgood hfull => ?_, fun hne hgood c hc hlowest => ?_⟩
    · rw [decide_eq_true hzero, require_true_bind, answer_error, refuse_popIntake]
    all_goals rw [decide_eq_false hne, require_false_bind]
    · cases hshared : sharesTarget trs with
      | true => rw [require_true_bind, answer_error, refuse_popIntake]
      | false =>
        have hbroken : trs.any (trackBroken (s.originRec o) s.ce.pool (leAt rq.data 4 2)) = true := by
          rw [← Bool.not_eq_false, hsound]
          exact fun hall => hbad ⟨(sharesTarget_iff trs).mp hshared, hall⟩
        rw [require_false_bind, hbroken, require_true_bind, answer_error, refuse_popIntake]
    all_goals
      obtain ⟨hdistinct, hall⟩ := hgood
      rw [(sharesTarget_iff trs).mpr hdistinct, require_false_bind, hsound.mpr hall, require_false_bind]
    · rw [freeCue?_none hfull, found_none_bind, answer_error, refuse_popIntake]
    · rw [freeCue?_of_lowest hc hlowest, found_some_bind, answer_ok, reply_popIntake]
      exact ⟨autoShowOf (byteAt rq.data 8), fun h0 => by rw [h0]; rfl, fun h1 => by rw [h1]; rfl, rfl⟩
  · rw [exec_deleteCue h, serveDeleteCue, fin?_ge (by omega), found_none_bind, answer_error, refuse_popIntake]
  · rw [exec_deleteCue_checked h hc]
    refine ⟨fun hnone => ?_, fun cue hcue => ⟨fun hown => ?_, fun hown => ?_⟩⟩
    · rw [hnone, found_none_bind, answer_error, refuse_popIntake]
    all_goals rw [hcue, found_some_bind]
    · rw [decide_eq_true hown, require_true_bind, answer_error, refuse_popIntake]
    · rw [decide_eq_false (not_not.mpr hown), require_false_bind, answer_ok, deletedCue_eq, hown]
      exact ⟨mapAt s.tu.binds fun _ e => e.filter fun e => !(e.owner == o && e.cue == c), fun i => mapAt_get .., rfl⟩

end Sys2Proof.Machine

/-! PROOF. What scheduling and stopping a cue does, by the cue's state (R100, R101, R110); START_CUE, STOP_CUE and the two ends of a
run (R98 to R100, R110 to R112). -/

namespace Sys2Proof.Machine

/-! ## A cue scheduled or stopped -/

section
variable {u : State} {c : CueNo} {cue : Cue}

/-- A cue scheduled: its record, its entry in place of an old one, and the end of a run told (R100). -/
theorem schedule_eq (start : Time) (o : Origin) : u.schedule c cue start o =
    let s1 := { u with ce := { u.ce with cues := setAt u.ce.cues c (some { cue with run := .scheduled })
                                         queue := insertEntry ⟨c, start, o⟩ (u.ce.queue.filter (·.cue != c)) } }
    if cue.run.active = true then s1.notify cue.owner (.cueEnded c cue.layer .stopped) else s1 := rfl

theorem startFull_iff : u.startFull cue = true ↔ 16 ≤ u.ce.queue.length ∧ cue.run ≠ .scheduled := by
  rw [State.startFull, Bool.and_eq_true, decide_eq_true_eq, bne_iff_ne]

theorem startFull_false (h : u.ce.queue.length < 16 ∨ cue.run = .scheduled) : u.startFull cue = false := by
  rw [← Bool.not_eq_true, startFull_iff]
  rintro ⟨hfull, hrun⟩
  exact h.elim (by omega) hrun

theorem stop_ready (hrun : cue.run = .ready) : u.stop c cue = u := by rw [State.stop, hrun]

theorem stop_scheduled (hrun : cue.run = .scheduled) :
    u.stop c cue = (u.setStartQueue (u.ce.queue.filter (·.cue != c))).endCue c cue .stopped := by
  rw [State.stop, hrun, dropEntry]

theorem stop_running {start : Time} {latest : List Triple} (hrun : cue.run = .running start latest) : u.stop c cue =
    if 0 < cue.release then u.setCue c (some { cue with run := .releasing start u.sc.scene latest })
    else u.endCue c cue .stopped := by
  rw [State.stop, hrun]

theorem stop_releasing {start rel : Time} {frozen : List Triple} (hrun : cue.run = .releasing start rel frozen) :
    u.stop c cue = u.endCue c cue .stopped := by
  rw [State.stop, hrun]

/-- The state byte of a stop is RELEASING where it begins a release, else READY (R110). -/
theorem stoppedByte_ready (h : ∀ start latest, cue.run ≠ .running start latest) : stoppedByte cue = 1 := by
  unfold stoppedByte
  split
  · exact absurd (by assumption) (h _ _)
  · rfl

theorem stoppedByte_running {start : Time} {latest : List Triple} (hrun : cue.run = .running start latest) :
    stoppedByte cue = if 0 < cue.release then 4 else 1 := by
  rw [stoppedByte, hrun]

end

/-! ## The start queue -/

theorem timeLater_iff {a b : Time} : timeLater a b = true ↔ 0 < (a - b).toInt := decide_eq_true_iff

/-- A new entry parts the queue at the last entry that starts no later (R98, R100). -/
theorem insertEntry_place (e : StartEntry) (q : List StartEntry) : ∃ before after, q = before ++ after ∧
    insertEntry e q = before ++ e :: after ∧ (∀ x ∈ after, 0 < (x.start - e.start).toInt) ∧
    ∀ x, before.getLast? = some x → (x.start - e.start).toInt ≤ 0 := by
  obtain ⟨before, after, hq, hins, hafter, hbefore⟩ := insertEntry_parts e q
  refine ⟨before, after, hq, hins, fun x hx => timeLater_iff.mp (hafter x hx), fun x hx => ?_⟩
  rw [← Int.not_lt, ← timeLater_iff, hbefore x hx]
  exact Bool.false_ne_true

/-! ## START_CUE -/

section
variable {s : State} {o : Origin} {rq : Intake} {c : CueNo} {cue : Cue}

theorem mayRun_iff : mayRun o cue = true ↔ o = cue.owner ∨ o = .service := by
  rw [mayRun, Bool.or_eq_true, beq_iff_eq, beq_iff_eq]

theorem mayRun_false (h : o ≠ cue.owner) (hs : o ≠ .service) : mayRun o cue = false := by
  rw [← Bool.not_eq_true, mayRun_iff]
  exact not_or.mpr ⟨h, hs⟩

theorem exec_startCue (h : Takes s o .startCue rq) : exec (.startCue o) s =
    .next (answer ⟨o, rq⟩ (s.popIntake o) (serveStartCue ⟨o, rq⟩ (startCueArgs rq.data) (s.popIntake o))) :=
  takeRequest_takes (fun tk s => answer tk s (serveStartCue tk (startCueArgs tk.req.data) s)) h

/-- The bytes of a form give its start time and say whether the delay was brought into range (R99, R100; log entry 10). -/
def StartForms (rq : Intake) (start : Time) (clamped : Bool) : Prop :=
  byteAt rq.data 3 = 0 ∧ start = BitVec.ofNat 48 (leAt rq.data 4 6) ∧ clamped = false ∨
    byteAt rq.data 3 = 1 ∧ start = rq.stamp + BitVec.ofNat 48 (min 60000 (leAt rq.data 4 4) * 1000) ∧
      clamped = decide (60000 < leAt rq.data 4 4) ∨
    byteAt rq.data 3 = 2 ∧ start = rq.stamp ∧ clamped = false

/-- The start lies in the window from 1 s back to 60 s ahead, where the form is AT (R99, check 5). -/
def InWindow (s : State) (rq : Intake) (start : Time) : Prop :=
  byteAt rq.data 3 = 0 → -1000000 ≤ (start - s.sc.scene).toInt ∧ (start - s.sc.scene).toInt ≤ 60000000

/-- The form of a START_CUE, for each of its three bytes. -/
theorem startForm_at (h : byteAt rq.data 3 = 0) :
    (startCueArgs rq.data).form = .atTime (BitVec.ofNat 48 (leAt rq.data 4 6)) := by
  rw [startCueArgs, h]
  rfl

theorem startForm_after (h : byteAt rq.data 3 = 1) : (startCueArgs rq.data).form = .after (leAt rq.data 4 4) := by
  rw [startCueArgs, h]
  rfl

theorem startForm_next (h : byteAt rq.data 3 = 2) : (startCueArgs rq.data).form = .next := by
  rw [startCueArgs, h]
  rfl

theorem startTime_of_form {start : Time} {clamped : Bool} (hform : StartForms rq start clamped) :
    startTime? rq.stamp (startCueArgs rq.data).form = some (start, clamped) := by
  rcases hform with ⟨hb, rfl, rfl⟩ | ⟨hb, rfl, rfl⟩ | ⟨hb, rfl, rfl⟩
  · rw [startForm_at hb]; rfl
  · rw [startForm_after hb]; rfl
  · rw [startForm_next hb]; rfl

theorem outsideWindow_iff {start : Time} {clamped : Bool} (hform : StartForms rq start clamped) :
    outsideWindow s.sc.scene (startCueArgs rq.data).form = true ↔ ¬InWindow s rq start := by
  unfold InWindow
  rcases hform with ⟨hb, rfl, -⟩ | ⟨hb, -⟩ | ⟨hb, -⟩
  · rw [startForm_at hb, outsideWindow, decide_eq_true_eq, timeDiff]
    simp only [hb, true_implies]
    omega
  · rw [startForm_after hb, hb]
    exact iff_of_false Bool.false_ne_true fun h => h nofun
  · rw [startForm_next hb, hb]
    exact iff_of_false Bool.false_ne_true fun h => h nofun

/-- A START_CUE of a defined cue is left to the checks of the right to run it, of the window, and of a place (R99). -/
theorem exec_startCue_checked (h : Takes s o .startCue rq) (hrun : Running s) (hc : byteAt rq.data 2 = c.val)
    (hcue : s.ce.cues[c] = some cue) {start : Time} {clamped : Bool} (hform : StartForms rq start clamped) :
    exec (.startCue o) s = .next (answer ⟨o, rq⟩ (s.popIntake o)
      (require (!mayRun o cue) .notOwner >>= fun _ =>
        require (outsideWindow s.sc.scene (startCueArgs rq.data).form) .badValue >>= fun _ =>
        require (s.startFull cue) .noRoom >>= fun _ =>
        .ok (((s.popIntake o).reply ⟨o, rq⟩ .done clamped (cue.run == .scheduled) (timeBytes start)).schedule
          c cue start o))) := by
  have hfin : fin? 24 (startCueArgs rq.data).cue = some c := by
    rw [← fin?_val c, ← hc]
    rfl
  have hpopped : (s.popIntake o).ce.cues[c] = some cue := hcue
  rw [exec_startCue h, serveStartCue, popIntake_inSetup hrun, require_false_bind, hfin, found_some_bind,
    startTime_of_form hform, found_some_bind, hpopped]
  rfl

/-! ## STOP_CUE -/

theorem exec_stopCue (h : Takes s o .stopCue rq) : exec (.stopCue o) s =
    .next (answer ⟨o, rq⟩ (s.popIntake o) (serveStopCue ⟨o, rq⟩ (byteAt rq.data 2) (s.popIntake o))) :=
  takeRequest_takes (fun tk s => answer tk s (serveStopCue tk (byteAt tk.req.data 2) s)) h

/-- A STOP_CUE of a defined cue is left to the check of the right to stop it (R110). -/
theorem exec_stopCue_checked (h : Takes s o .stopCue rq) (hrun : Running s) (hc : byteAt rq.data 2 = c.val)
    (hcue : s.ce.cues[c] = some cue) : exec (.stopCue o) s = .next (answer ⟨o, rq⟩ (s.popIntake o)
      (require (!mayRun o cue) .notOwner >>= fun _ =>
        .ok ((served s o rq .done false false [stoppedByte cue]).stop c cue))) := by
  have hpopped : (s.popIntake o).ce.cues[c] = some cue := hcue
  rw [exec_stopCue h, serveStopCue, popIntake_inSetup hrun, require_false_bind, hc, fin?_val, found_some_bind, hpopped,
    ← done_popIntake]
  rfl

theorem exec_stopCue_served (h : Takes s o .stopCue rq) (hrun : Running s) (hc : byteAt rq.data 2 = c.val)
    (hcue : s.ce.cues[c] = some cue) (hmay : o = cue.owner ∨ o = .service) :
    exec (.stopCue o) s = .next ((served s o rq .done false false [stoppedByte cue]).stop c cue) := by
  rw [exec_stopCue_checked h hrun hc hcue, mayRun_iff.mpr hmay, Bool.not_true, require_false_bind, answer_ok]

/-! ## The two ends of a run -/

theorem atLastFrame_some {m : FrameMark} (hm : s.sc.lastFrame = some m) (hcue : s.ce.cues[c] = some cue)
    (cond : Time → Cue → Bool) (next : Cue → State) :
    atLastFrame s c cond next = s.liveWhen (cond m.frameTime cue) (next cue) := by
  rw [atLastFrame, hm, hcue]

theorem exec_cueNaturalEnd {m : FrameMark} (hm : s.sc.lastFrame = some m) (hcue : s.ce.cues[c] = some cue) :
    exec (.cueNaturalEnd c) s = s.liveWhen (endsAt m.frameTime cue) (s.naturalEnd c cue) := atLastFrame_some hm hcue ..

theorem exec_cueReleaseEnd {m : FrameMark} (hm : s.sc.lastFrame = some m) (hcue : s.ce.cues[c] = some cue) :
    exec (.cueReleaseEnd c) s = s.liveWhen (releaseOver m.frameTime cue) (s.endCue c cue .stopped) := atLastFrame_some hm hcue ..

theorem endsAt_running {tf start : Time} {latest : List Triple} (hrun : cue.run = .running start latest) :
    endsAt tf cue = true ↔ cue.loops ≠ 0 ∧ cue.loops ≤ elapsed tf start / cue.duration := by
  rw [endsAt, hrun]
  dsimp only [loopsDone]
  rw [Bool.and_eq_true, bne_iff_ne, decide_eq_true_eq]

theorem releaseOver_running {tf start : Time} {latest : List Triple} (hrun : cue.run = .running start latest) :
    releaseOver tf cue = false := by
  rw [releaseOver, hrun]

theorem endsAt_releasing {tf start rel : Time} {frozen : List Triple} (hrun : cue.run = .releasing start rel frozen) :
    endsAt tf cue = false := by
  rw [endsAt, hrun]

theorem releaseOver_releasing {tf start rel : Time} {frozen : List Triple} (hrun : cue.run = .releasing start rel frozen) :
    releaseOver tf cue = true ↔ (cue.release : Int) ≤ (tf - rel).toInt / 1000 := by
  rw [releaseOver, hrun]
  exact decide_eq_true_iff

end

/-! ## What the two requests answer -/

section
variable {s : State} {o : Origin} {rq : Intake} {c : CueNo} {cue : Cue}

theorem exec_startCue_notOwner (h : Takes s o .startCue rq) (hrun : Running s) (hc : byteAt rq.data 2 = c.val)
    (hcue : s.ce.cues[c] = some cue) {start : Time} {clamped : Bool} (hform : StartForms rq start clamped)
    (hown : o ≠ cue.owner) (hserv : o ≠ .service) : exec (.startCue o) s = .next (turnedAway s o rq .notOwner) := by
  rw [exec_startCue_checked h hrun hc hcue hform, mayRun_false hown hserv, Bool.not_false, require_true_bind, answer_error,
    refuse_popIntake]

theorem exec_startCue_badValue (h : Takes s o .startCue rq) (hrun : Running s) (hc : byteAt rq.data 2 = c.val)
    (hcue : s.ce.cues[c] = some cue) {start : Time} {clamped : Bool} (hform : StartForms rq start clamped)
    (hmay : o = cue.owner ∨ o = .service) (hout : ¬InWindow s rq start) :
    exec (.startCue o) s = .next (turnedAway s o rq .badValue) := by
  rw [exec_startCue_checked h hrun hc hcue hform, mayRun_iff.mpr hmay, Bool.not_true, require_false_bind,
    (outsideWindow_iff hform).mpr hout, require_true_bind, answer_error, refuse_popIntake]

/-- A START_CUE within its window is left to the check of a place (R99, check 6). -/
theorem exec_startCue_inWindow (h : Takes s o .startCue rq) (hrun : Running s) (hc : byteAt rq.data 2 = c.val)
    (hcue : s.ce.cues[c] = some cue) {start : Time} {clamped : Bool} (hform : StartForms rq start clamped)
    (hmay : o = cue.owner ∨ o = .service) (hin : InWindow s rq start) :
    exec (.startCue o) s = .next (answer ⟨o, rq⟩ (s.popIntake o) (require (s.startFull cue) .noRoom >>= fun _ =>
      .ok (((s.popIntake o).reply ⟨o, rq⟩ .done clamped (cue.run == .scheduled) (timeBytes start)).schedule c cue start o))) := by
  have hwindow : outsideWindow s.sc.scene (startCueArgs rq.data).form = false := by
    rw [← Bool.not_eq_true, outsideWindow_iff hform, not_not]
    exact hin
  rw [exec_startCue_checked h hrun hc hcue hform, mayRun_iff.mpr hmay, Bool.not_true, require_false_bind, hwindow,
    require_false_bind]

theorem exec_startCue_noRoom (h : Takes s o .startCue rq) (hrun : Running s) (hc : byteAt rq.data 2 = c.val)
    (hcue : s.ce.cues[c] = some cue) {start : Time} {clamped : Bool} (hform : StartForms rq start clamped)
    (hmay : o = cue.owner ∨ o = .service) (hin : InWindow s rq start) (hfull : 16 ≤ s.ce.queue.length)
    (hidle : cue.run ≠ .scheduled) : exec (.startCue o) s = .next (turnedAway s o rq .noRoom) := by
  rw [exec_startCue_inWindow h hrun hc hcue hform hmay hin, startFull_iff.mpr ⟨hfull, hidle⟩, require_true_bind, answer_error,
    refuse_popIntake]

theorem exec_startCue_scheduled (h : Takes s o .startCue rq) (hrun : Running s) (hc : byteAt rq.data 2 = c.val)
    (hcue : s.ce.cues[c] = some cue) {start : Time} {clamped : Bool} (hform : StartForms rq start clamped)
    (hmay : o = cue.owner ∨ o = .service) (hin : InWindow s rq start)
    (hroom : s.ce.queue.length < 16 ∨ cue.run = .scheduled) :
    let s1 := served
      { s with ce := { s.ce with cues := setAt s.ce.cues c (some { cue with run := .scheduled })
                                 queue := insertEntry ⟨c, start, o⟩ (s.ce.queue.filter (·.cue != c)) } }
      o rq .done clamped (decide (cue.run = .scheduled)) (timeBytes start)
    exec (.startCue o) s =
      .next (if cue.run.active = true then s1.notify cue.owner (.cueEnded c cue.layer .stopped) else s1) := by
  rw [exec_startCue_inWindow h hrun hc hcue hform hmay hin, startFull_false hroom, require_false_bind, answer_ok,
    reply_popIntake, schedule_eq, beq_eq_decide]
  rfl

/-- A stop by the cue's state: nothing of a READY cue, the start of a SCHEDULED one, a release begun, or the run ended (R110). -/
theorem exec_stopCue_byState (h : Takes s o .stopCue rq) (hrun : Running s) (hc : byteAt rq.data 2 = c.val)
    (hcue : s.ce.cues[c] = some cue) (hmay : o = cue.owner ∨ o = .service) :
    let ended := fun s1 : State =>
      (s1.setCue c (some { cue with run := .ready })).notify cue.owner (.cueEnded c cue.layer .stopped)
    (cue.run = .ready → exec (.stopCue o) s = .next (served s o rq .done false false [1])) ∧
    (cue.run = .scheduled → exec (.stopCue o) s = .next (ended (served
      { s with ce := { s.ce with queue := s.ce.queue.filter (·.cue != c) } } o rq .done false false [1]))) ∧
    (∀ start latest, cue.run = .running start latest →
      (cue.release = 0 → exec (.stopCue o) s = .next (ended (served s o rq .done false false [1]))) ∧
      (0 < cue.release → exec (.stopCue o) s = .next (served
        (s.setCue c (some { cue with run := .releasing start s.sc.scene latest })) o rq .done false false [4]))) ∧
    ∀ start rel frozen, cue.run = .releasing start rel frozen →
      exec (.stopCue o) s = .next (ended (served s o rq .done false false [1])) := by
  rw [exec_stopCue_served h hrun hc hcue hmay]
  refine ⟨fun hr => ?_, fun hr => ?_, fun start latest hr => ⟨fun hz => ?_, fun hpos => ?_⟩, fun start rel frozen hr => ?_⟩
  · rw [stop_ready hr, stoppedByte_ready fun _ _ => by rw [hr]; nofun]
  · rw [stop_scheduled hr, stoppedByte_ready fun _ _ => by rw [hr]; nofun]
    rfl
  · rw [stop_running hr, stoppedByte_running hr, if_neg (by omega), if_neg (by omega)]
    rfl
  · rw [stop_running hr, stoppedByte_running hr, if_pos hpos, if_pos hpos]
    rfl
  · rw [stop_releasing hr, stoppedByte_ready fun _ _ => by rw [hr]; nofun]
    rfl

end

/-- Settles O47: the place of a new entry, the two requests by their checks in turn, and the two ends at the latest frame start. -/
theorem cuesStartStopAndEnd : Obligations.CuesStartStopAndEnd := by
  refine ⟨insertEntry_place, fun o s rq c cue hrun hc hcue => ⟨fun h start clamped hform => ?_, fun h => ⟨?_, ?_⟩⟩, ?_⟩
  · exact ⟨exec_startCue_notOwner h hrun hc hcue hform, fun hmay =>
      ⟨exec_startCue_badValue h hrun hc hcue hform hmay, exec_startCue_noRoom h hrun hc hcue hform hmay,
        exec_startCue_scheduled h hrun hc hcue hform hmay⟩⟩
  · intro hown hserv
    rw [exec_stopCue_checked h hrun hc hcue, mayRun_false hown hserv, Bool.not_false, require_true_bind, answer_error,
      refuse_popIntake]
  · exact exec_stopCue_byState h hrun hc hcue
  · intro s c cue m hheld hm hcue
    dsimp only
    rw [exec_cueNaturalEnd hm hcue, exec_cueReleaseEnd hm hcue]
    refine ⟨fun start latest hr => ⟨?_, fun hmore => ?_, fun hloops hdone => ?_⟩, fun start rel frozen hr =>
      ⟨?_, fun hmore => ?_, fun hover => ?_⟩⟩
    · rw [releaseOver_running hr, liveWhen_false]
    · have hnot : endsAt m.frameTime cue = false := by
        rw [← Bool.not_eq_true, endsAt_running hr]
        rintro ⟨hloops, hdone⟩
        exact hmore.elim hloops (Nat.not_lt.mpr hdone)
      rw [hnot, liveWhen_false]
    · rw [(endsAt_running hr).mpr ⟨hloops, hdone⟩, liveWhen_true _ hheld, State.naturalEnd, endedLayer_eq]
      rfl
    · rw [endsAt_releasing hr, liveWhen_false]
    · have hnot : releaseOver m.frameTime cue = false := by
        rw [← Bool.not_eq_true, releaseOver_releasing hr]
        omega
      rw [hnot, liveWhen_false]
    · rw [(releaseOver_releasing hr).mpr hover, liveWhen_true _ hheld]
      rfl

end Sys2Proof.Machine

/-! PROOF. SET_FLAGS (R126), which entries fire for a code and what each does (R101, R132, R133), TRIGGER (R123). -/

namespace Sys2Proof.Machine

/-! ## Entries that fire -/

/-- A qualifier holds when each flag it names is at its sense (R26). -/
theorem qualHolds_eq (flags : BitVec 32) (q : Option FlagRef) :
    qualHolds flags q = q.all fun r => flagValue flags r.flag == (r.sense == .set) := by
  cases q with
  | none => rfl
  | some r =>
    rw [qualHolds, refHolds, Option.all_some]
    cases flagValue flags r.flag <;> cases r.sense <;> rfl

/-- An entry fires when its pattern and its qualifier hold (R129, R132). -/
theorem entryFires_eq (flags : BitVec 32) (code : Byte) : entryFires flags code = fun e =>
    decide (code &&& e.mask = e.code) && e.qual.all fun r => flagValue flags r.flag == (r.sense == .set) := by
  funext e
  rw [entryFires, qualHolds_eq, beq_eq_decide]

theorem entryFires_iff {flags : BitVec 32} {code : Byte} {e : BindEntry} : entryFires flags code e = true ↔
    code &&& e.mask = e.code ∧ ∀ r, e.qual = some r → flagValue flags r.flag = (r.sense == .set) := by
  rw [entryFires_eq]
  simp only [Bool.and_eq_true, decide_eq_true_eq, Option.all_eq_true, beq_iff_eq]

/-- The entries that fire, among the valid ones. -/
theorem mem_fired {s : State} {code : Byte} {e : BindEntry} : e ∈ s.fired code ↔ ∃ i : BindNo, s.tu.binds[i] = some e ∧
    code &&& e.mask = e.code ∧ ∀ r, e.qual = some r → flagValue s.tu.flags r.flag = (r.sense == .set) := by
  simp only [State.fired, List.mem_filterMap, Option.filter_eq_some_iff, entryFires_iff, Vector.mem_toList_iff]
  constructor
  · rintro ⟨x, hx, rfl, hfires⟩
    obtain ⟨i, hi, hget⟩ := Vector.mem_iff_getElem.mp hx
    exact ⟨⟨i, hi⟩, hget, hfires⟩
  · rintro ⟨i, hget, hfires⟩
    exact ⟨some e, hget ▸ Vector.getElem_mem i.isLt, rfl, hfires⟩

/-- The entries that fire stand in ascending entry number. -/
theorem fired_sublist (s : State) (code : Byte) : (s.fired code).Sublist (s.tu.binds.toList.filterMap id) := by
  have hfired : s.fired code = (s.tu.binds.toList.filterMap id).filter (entryFires s.tu.flags code) :=
    (List.filter_filterMap ..).symm
  rw [hfired]
  exact List.filter_sublist

/-! ## What an entry does -/

section
variable {s : State} {e : BindEntry} {cue : Cue}

theorem act_idle (stamp : Time) (h : ¬Running s ∨ s.ce.cues[e.cue] = none) : s.act e stamp = s := by
  unfold State.act
  split
  · next hrun => rw [h.resolve_left (not_not.mpr hrun)]
  · rfl

/-- START, and TOGGLE of a READY cue, schedule a defined cue in RUN and SETTLING (R101). -/
theorem act_start (stamp : Time) (hrun : Running s) (hcue : s.ce.cues[e.cue] = some cue)
    (h : e.action = .start ∨ e.action = .toggle ∧ cue.run = .ready) :
    s.act e stamp = s.actStart e.cue cue stamp e.owner := by
  unfold State.act
  rw [if_pos (show s.ps.state = .run ∨ s.ps.state = .settling from hrun), hcue]
  rcases h with h | ⟨h, hready⟩
  · rw [h]
  · rw [h]
    exact if_pos hready

/-- STOP, and TOGGLE of a cue in another state, stop it (R101). -/
theorem act_stop (stamp : Time) (hrun : Running s) (hcue : s.ce.cues[e.cue] = some cue)
    (h : e.action = .stop ∨ e.action = .toggle ∧ cue.run ≠ .ready) : s.act e stamp = s.stop e.cue cue := by
  unfold State.act
  rw [if_pos (show s.ps.state = .run ∨ s.ps.state = .settling from hrun), hcue]
  rcases h with h | ⟨h, hready⟩
  · rw [h]
  · rw [h]
    exact if_neg hready

/-- START schedules the cue, unless the start queue is full (R101). -/
theorem actStart_spec (c : CueNo) (stamp : Time) (o : Origin) :
    (16 ≤ s.ce.queue.length → cue.run ≠ .scheduled → s.actStart c cue stamp o = s) ∧
    (s.ce.queue.length < 16 ∨ cue.run = .scheduled →
      let s1 := { s with ce := { s.ce with cues := setAt s.ce.cues c (some { cue with run := .scheduled })
                                           queue := insertEntry ⟨c, stamp, o⟩ (s.ce.queue.filter (·.cue != c)) } }
      s.actStart c cue stamp o =
        if cue.run.active = true then s1.notify cue.owner (.cueEnded c cue.layer .stopped) else s1) := by
  unfold State.actStart
  refine ⟨fun hfull hidle => if_pos (startFull_iff.mpr ⟨hfull, hidle⟩), fun hroom => ?_⟩
  rw [startFull_false hroom, schedule_eq]
  exact if_neg Bool.false_ne_true

/-- STOP stops the cue by its state (R110). -/
theorem stop_spec (c : CueNo) :
    let ready := fun u : State => u.setCue c (some { cue with run := .ready })
    let tell := fun u : State => u.notify cue.owner (.cueEnded c cue.layer .stopped)
    (cue.run = .ready → s.stop c cue = s) ∧
    (cue.run = .scheduled → s.stop c cue = tell (ready (s.setStartQueue (s.ce.queue.filter (·.cue != c))))) ∧
    (∀ start latest, cue.run = .running start latest → (cue.release = 0 → s.stop c cue = tell (ready s)) ∧
      (0 < cue.release → s.stop c cue = s.setCue c (some { cue with run := .releasing start s.sc.scene latest }))) ∧
    ∀ start rel frozen, cue.run = .releasing start rel frozen → s.stop c cue = tell (ready s) := by
  refine ⟨stop_ready, stop_scheduled, fun start latest hr => ⟨fun hz => ?_, fun hpos => ?_⟩, fun start rel frozen hr =>
    stop_releasing hr⟩
  · rw [stop_running hr, if_neg (by omega)]
    rfl
  · rw [stop_running hr, if_pos hpos]

end

/-! ## SET_FLAGS -/

/-- A mark set names only flags of the requester when no flag it names is foreign (R126, check 2). -/
theorem marksForeign_iff {s : State} {o : Origin} {mask : BitVec 32} :
    s.marksForeign o mask = false ↔ ∀ f : FlagNo, mask.getLsbD f.val = true → s.tu.writers[f] = .origin o := by
  have hbit (f : FlagNo) : (mask &&& ~~~writtenBy s.tu.writers (.origin o)).getLsbD f.val =
      (mask.getLsbD f.val && s.tu.writers[f] != .origin o) := by
    rw [BitVec.getLsbD_and, BitVec.getLsbD_not, writtenBy, markSet_getLsbD, decide_eq_true f.isLt, Bool.true_and, bne]
  rw [State.marksForeign, bne_eq_false_iff_eq]
  constructor
  · intro hzero f hf
    have := hbit f
    rw [hzero, hf, Bool.true_and] at this
    simpa using this.symm
  · intro hown
    refine BitVec.eq_of_getLsbD_eq fun j hj => ?_
    rw [hbit ⟨j, hj⟩]
    cases hm : mask.getLsbD j with
    | false => simp
    | true => simp [hown ⟨j, hj⟩ hm]

theorem writeMarked_getLsbD (flags mask values : BitVec 32) (f : FlagNo) : (writeMarked flags mask values).getLsbD f.val =
    if mask.getLsbD f.val = true then values.getLsbD f.val else flags.getLsbD f.val := by
  rw [writeMarked, BitVec.getLsbD_or, BitVec.getLsbD_and, BitVec.getLsbD_and, BitVec.getLsbD_not, decide_eq_true f.isLt]
  cases mask.getLsbD f.val <;> simp

section
variable {s : State} {o : Origin} {rq : Intake}

theorem exec_setFlags (h : Takes s o .setFlags rq) : exec (.setFlags o) s =
    .next (answer ⟨o, rq⟩ (s.popIntake o) (serveSetFlags ⟨o, rq⟩ (setFlagsArgs rq.data) (s.popIntake o))) :=
  takeRequest_takes (fun tk s => answer tk s (serveSetFlags tk (setFlagsArgs tk.req.data) s)) h

/-- Outside SETUP, or with no marks, SET_FLAGS is left to the check of the flags' writer (R126, R188). -/
theorem exec_setFlags_checked (h : Takes s o .setFlags rq)
    (hstate : s.ps.state ≠ .setup ∨ BitVec.ofNat 32 (leAt rq.data 2 4) = 0) :
    let mask := BitVec.ofNat 32 (leAt rq.data 2 4)
    let flags := writeMarked s.tu.flags mask (BitVec.ofNat 32 (leAt rq.data 6 4))
    exec (.setFlags o) s = .next (answer ⟨o, rq⟩ (s.popIntake o) (require (s.marksForeign o mask) .notOwner >>= fun _ =>
      .ok (served (s.setFlagBits flags) o rq .done false false (leBytes 4 flags.toNat)))) := by
  dsimp only
  have hpass : ((s.popIntake o).inSetup && (setFlagsArgs rq.data).mask != 0) = false := by
    rw [Bool.and_eq_false_iff]
    exact hstate.imp (fun hs => beq_eq_false_iff_ne.mpr hs) fun hm => bne_eq_false_iff_eq.mpr hm
  rw [exec_setFlags h, serveSetFlags, hpass, require_false_bind, ← done_popIntake]
  rfl

/-! ## TRIGGER -/

theorem exec_trigger (h : Takes s o .trigger rq) : exec (.trigger o) s =
    .next (answer ⟨o, rq⟩ (s.popIntake o) (serveTrigger ⟨o, rq⟩ (byteAt rq.data 2) (s.popIntake o))) :=
  takeRequest_takes (fun tk s => answer tk s (serveTrigger tk (byteAt tk.req.data 2) s)) h

theorem exec_trigger_badValue (h : Takes s o .trigger rq) (hrun : Running s) (hcode : 0xF0 ≤ byteAt rq.data 2) :
    exec (.trigger o) s = .next (turnedAway s o rq .badValue) := by
  rw [exec_trigger h, serveTrigger, popIntake_inSetup hrun, require_false_bind, decide_eq_true hcode, require_true_bind,
    answer_error, refuse_popIntake]

theorem exec_trigger_matched (h : Takes s o .trigger rq) (hrun : Running s) (hcode : byteAt rq.data 2 < 0xF0) :
    let code := oneByte (byteAt rq.data 2)
    exec (.trigger o) s = .next ((served s o rq .done false false [oneByte (s.fired code).length]).matchCode
      (.origin o) code rq.stamp) := by
  dsimp only
  rw [exec_trigger h, serveTrigger, popIntake_inSetup hrun, require_false_bind,
    decide_eq_false (Nat.not_le.mpr hcode), require_false_bind, ← done_popIntake]
  rfl

end

/-- Settles O50: the entries that fire and what each does, then the two requests by their checks in turn. -/
theorem flagsAreWrittenAndCodesMatched : Obligations.FlagsAreWrittenAndCodesMatched := by
  refine ⟨fun s src code stamp => ?_, fun s e stamp => ⟨act_idle stamp, fun cue hrun hcue => ?_⟩,
    fun o s rq => ⟨fun h => ?_, fun h hrun => ⟨exec_trigger_badValue h hrun, fun hcode => ?_⟩⟩⟩
  · rw [State.matchCode, State.fired, entryFires_eq]
  · have hstarts := actStart_spec (s := s) (cue := cue) e.cue stamp e.owner
    have hstops := stop_spec (s := s) (cue := cue) e.cue
    refine ⟨fun ha => ?_, fun ha => ?_, fun ha hready => ?_, fun ha hready => ?_⟩
    · rwa [act_start stamp hrun hcue (.inl ha)]
    · rwa [act_stop stamp hrun hcue (.inl ha)]
    · rwa [act_start stamp hrun hcue (.inr ⟨ha, hready⟩)]
    · rwa [act_stop stamp hrun hcue (.inr ⟨ha, hready⟩)]
  · refine ⟨fun hstate hforeign => ?_, fun hstate hown => ⟨_, ?_, writeMarked_getLsbD _ _ _⟩⟩
    all_goals rw [exec_setFlags_checked h hstate]
    · rw [← marksForeign_iff, Bool.not_eq_false] at hforeign
      rw [hforeign, require_true_bind, answer_error, refuse_popIntake]
    · rw [marksForeign_iff.mpr hown, require_false_bind, answer_ok]
      rfl
  · exact ⟨s.fired (oneByte (byteAt rq.data 2)), fun e => mem_fired, fired_sublist s _, exec_trigger_matched h hrun hcode⟩

end Sys2Proof.Machine

/-! PROOF. What leaves the Trigger Unit as it is: replies, notices, ports, holds, layers, loops and composes, what touches cues
alone, and the commands that write no line, flag, bind entry, capture slot or wake list. -/

namespace Sys2Proof.Machine

/-- What touches ports, cue records, the start queue and layers alone leaves the Trigger Unit. -/
theorem CueFrame.triggers {s t : State} (h : CueFrame s t) : t.tu = s.tu := by
  unfold CueFrame at h
  rw [h]

theorem StartsFrame.triggers {s t : State} (h : StartsFrame s t) : t.tu = s.tu := h.parts.1

/-- The flags with the flag written that a line mirrors, if it mirrors one. -/
def mirrorFlag (flags : BitVec 32) (m : Option FlagNo) (v : Bool) : BitVec 32 := m.elim flags fun f => writeFlag flags f v

section
variable (s : State)

/-! ## Replies, notices, ports -/

@[simp] theorem reply_tu (tk : Taken) (c : Code) (clamped replaced : Bool) (result : List Byte) :
    (s.reply tk c clamped replaced result).tu = s.tu := rfl
@[simp] theorem done_tu (tk : Taken) (result : List Byte) : (s.done tk result).tu = s.tu := rfl

@[simp] theorem notify_tu (o : Origin) (n : Notice) : (s.notify o n).tu = s.tu := (StartsFrame.notify s o n).triggers
@[simp] theorem notifyAll_tu (n : Notice) : (s.notifyAll n).tu = s.tu := (StartsFrame.notifyAll s n).triggers

@[simp] theorem wakeEvent_tu : s.wakeEvent.tu = s.tu := by
  unfold State.wakeEvent
  split <;> rfl

@[simp] theorem offer_tu (o : Origin) (rq : Intake) : (s.offer o rq).tu = s.tu := by
  unfold State.offer
  dsimp only
  split <;> rfl

@[simp] theorem receive_tu (ch : Chan) (o : Origin) (data : List Byte) : (s.receive ch o data).tu = s.tu := by
  unfold State.receive State.countReceived
  dsimp only
  split <;> simp

@[simp] theorem finishSend_tu (ch : Chan) (o : Origin) : (s.finishSend ch o).tu = s.tu := setChan_tu ..

@[simp] theorem channelErr_tu (ch : Chan) (kind : ErrorKind) : (s.channelErr ch kind).tu = s.tu := by
  unfold State.channelErr
  dsimp only
  split
  · exact setChan_tu ..
  · exact setChan_tu ..

/-! ## Cues, codes, holds, layers -/

@[simp] theorem schedule_tu (c : CueNo) (cue : Cue) (start : Time) (o : Origin) : (s.schedule c cue start o).tu = s.tu :=
  (StartsFrame.schedule s c cue start o).triggers
@[simp] theorem stop_tu (c : CueNo) (cue : Cue) : (s.stop c cue).tu = s.tu := (StartsFrame.stop s c cue).triggers
@[simp] theorem emptyCue_tu (c : CueNo) (cue : Cue) (why : EndReason) : (s.emptyCue c cue why).tu = s.tu :=
  (emptyCue_frame s c cue why).triggers
@[simp] theorem endCuesWhere_tu (p : Cue → Bool) (why : EndReason) : (s.endCuesWhere p why).tu = s.tu :=
  (StartsFrame.endCuesWhere s p why).triggers
@[simp] theorem endAllCues_tu (why : EndReason) : (s.endAllCues why).tu = s.tu := (StartsFrame.endAllCues s why).triggers
@[simp] theorem matchCode_tu (src : CodeSource) (code : Byte) (stamp : Time) : (s.matchCode src code stamp).tu = s.tu :=
  (StartsFrame.matchCode s src code stamp).triggers

@[simp] theorem takeHold_tu (tk : Taken) (z : ZoneNo) (tier : Tier) : (takeHold tk z tier s).tu = s.tu := by
  unfold takeHold
  dsimp only
  split
  · rfl
  · split
    · rfl
    · split
      · exact notify_tu ..
      · rfl

@[simp] theorem freeLayersWhere_tu (p : LayerNo → Layer → Bool) : (s.freeLayersWhere p).tu = s.tu := rfl

@[simp] theorem makeEdit_tu (o : Origin) (i : LayerNo) (e : Edit) : (s.makeEdit o i e).tu = s.tu := by
  unfold State.makeEdit
  dsimp only
  split <;> rfl

@[simp] theorem expireGate_tu (o : Origin) : (s.expireGate o).tu = s.tu := notify_tu ..

theorem setupTables_tu (u : State) :
    (((u.openGates.freeLayersWhere fun _ l => l.state != .free).releaseHolds).setPartState .setup).tu = u.tu := rfl

theorem enterSetup_tu : s.enterSetup.tu = s.tu := (setupTables_tu _).trans (endAllCues_tu ..)

theorem darkened_tu (u : State) : u.darkLayers.emptyQueues.stopFrames.darkWatches.tu = u.tu := rfl

theorem fallAsleep_tu : s.fallAsleep.tu = s.tu := (darkened_tu _).trans (endAllCues_tu ..)

/-! ## Loops, composes, frame starts -/

@[simp] theorem changeLoop_tu (l : LoopNo) (x : Loop) (cause : LoopCause) : (s.changeLoop l x cause).tu = s.tu :=
  notifyAll_tu ..

@[simp] theorem followSettings_tu (l : LoopNo) : (s.followSettings l).tu = s.tu := by
  unfold State.followSettings State.clearQueried
  dsimp only
  repeat' split
  all_goals simp

@[simp] theorem storeChain_tu (l : LoopNo) (c : Chain) (enable : Bool) : (s.storeChain l c enable).tu = s.tu := rfl

@[simp] theorem applyQuery_tu (l : LoopNo) (q : Nat) (st : StatusWord) : (s.applyQuery l q st).tu = s.tu := by
  unfold State.applyQuery State.applyStatus
  dsimp only
  split
  · rfl
  · split
    · rfl
    · exact notifyAll_tu ..

@[simp] theorem countFailure_tu (l : LoopNo) : (s.countFailure l).tu = s.tu := by
  unfold State.countFailure
  dsimp only
  split
  · exact changeLoop_tu ..
  · rfl

@[simp] theorem actOn_tu (l : LoopNo) (v : Verdict) : (s.actOn l v).tu = s.tu := by
  cases v with
  | discovered n => exact changeLoop_tu ..
  | noNodes => exact changeLoop_tu ..
  | noReturn => exact changeLoop_tu ..
  | good q st => exact applyQuery_tu ..
  | failed => exact countFailure_tu ..

@[simp] theorem completeCompose_tu (c : Compose) : (s.completeCompose c).tu = s.tu := by rw [completeCompose_frame]

@[simp] theorem frameStart_tu (tf : Time) : (s.frameStart tf).tu = s.tu :=
  let ⟨_, htu, _⟩ := frameStart_rest s tf
  htu

/-- The wake list is matched and emptied, and nothing else of the Trigger Unit changes (R124, R192). -/
theorem completeWake_tu : s.completeWake.tu = { s.tu with wakeList := [] } :=
  (frameStart_tu ..).trans (StartsFrame.matchCodes ..).triggers

/-! ## Lines, edges, mirrored flags -/

theorem mirrorTo_eq (f : Option FlagNo) (v : Bool) : s.mirrorTo f v = s.setFlagBits (mirrorFlag s.tu.flags f v) := by
  cases f <;> rfl

theorem addWake_tu (t : LineNo) (e : EdgeKind) (stamp : Time) : (s.addWake t e stamp).tu =
    { s.tu with wakeList := (s.addWake t e stamp).tu.wakeList } := by
  unfold State.addWake State.seeUnmatched
  split
  · rfl
  · rw [notifyAll_tu]

/-- The code of an edge is matched, reported or put into the wake list (R124). -/
theorem handleEdge_tu (t : LineNo) (e : EdgeKind) (stamp : Time) : (s.handleEdge t e stamp).tu =
    { s.tu with wakeList := (s.handleEdge t e stamp).tu.wakeList } := by
  unfold State.handleEdge State.seeUnmatched
  split
  · rw [matchCode_tu]
  · rw [matchCode_tu]
  · rw [notifyAll_tu]
  · split
    · rw [wakeEvent_tu, ← addWake_tu]
    · rw [notifyAll_tu]
  · exact addWake_tu ..

/-- An accepted change moves the line's level, mirrors it in mode LEVEL, and else can fill the line's slot (R119, R120). -/
theorem acceptChange_tu (t : LineNo) (level : Bool) : (s.acceptChange t level).tu = { s.tu with
    lines := setAt s.tu.lines t { s.tu.lines[t] with level := level, pendingChange := none }
    flags := mirrorFlag s.tu.flags s.tu.lines[t].mirrored level
    captures := (s.acceptChange t level).tu.captures
    wakeList := (s.acceptChange t level).tu.wakeList } := by
  unfold State.acceptChange State.takeEdge Line.mirrored
  dsimp only
  split
  · rw [mirrorTo_eq]
    rfl
  · split
    · rw [handleEdge_tu]
      rfl
    · rfl

end

/-! ## Commands that leave it as it is -/

/-- The two states have the same Trigger Unit. -/
def SameTriggers (s t : State) : Prop := t.tu = s.tu

section
variable {s n : State}

theorem unchanged_triggers : WhenNext (SameTriggers s) (.next s) := whenNext_next.mpr rfl

theorem live_triggers (h : n.tu = s.tu) : WhenNext (SameTriggers s) (s.live n) := whenNext_live rfl fun _ => h

theorem liveWhen_triggers {c : Bool} (h : n.tu = s.tu) : WhenNext (SameTriggers s) (s.liveWhen c n) :=
  whenNext_liveWhen rfl fun _ _ => h

theorem taken_triggers {k : Option Kind} {o : Origin} {serve : Taken → State → State}
    (h : ∀ tk u, (serve tk u).tu = u.tu) : WhenNext (SameTriggers s) (takeRequest k o s serve) :=
  whenNext_takeRequest rfl rfl (fun _ => rfl) fun rq => h ⟨o, rq⟩ (s.popIntake o)

theorem answered_triggers {k : Option Kind} {o : Origin} {serve : Taken → State → Served}
    (h : ∀ tk u, WhenServed (fun t => t.tu = u.tu) (serve tk u)) :
    WhenNext (SameTriggers s) (takeRequest k o s fun tk u => answer tk u (serve tk u)) :=
  taken_triggers fun tk u => answer_keeps (P := fun t => t.tu = u.tu) (fun _ => rfl) (h tk u)

theorem atLastFrame_triggers {c : CueNo} {cond : Time → Cue → Bool} {next : Cue → State}
    (h : ∀ cue, (next cue).tu = s.tu) : WhenNext (SameTriggers s) (atLastFrame s c cond next) := by
  unfold atLastFrame
  split
  · exact liveWhen_triggers (h _)
  · exact unchanged_triggers

end

/-- The commands that write a line, a capture slot, a flag or its writer, a bind entry or the wake list. -/
def writesTriggers : Instr → Bool
  | .powerOn .. => true
  | .resetPinRelease .. => true
  | .restart .. => true
  | .setLine .. => true
  | .setFlagOwner .. => true
  | .setFlags .. => true
  | .deleteCue .. => true
  | .bind .. => true
  | .unbind .. => true
  | .readCapture .. => true
  | .forget .. => true
  | .lineRawChange .. => true
  | .lineChangeAccepted .. => true
  | .wakeCompletion => true
  | _ => false

/-- Every other command leaves the Trigger Unit as it is. -/
theorem exec_sameTriggers (c : Instr) (hc : writesTriggers c = false) (s : State) :
    WhenNext (SameTriggers s) (exec c s) := by
  cases c with
  | powerOn _ _ | resetPinRelease _ | restart _ | setLine _ | setFlagOwner _ | setFlags _ | deleteCue _ | bind _ | unbind _
  | readCapture _ | forget _ | lineRawChange _ _ | lineChangeAccepted _ | wakeCompletion => cases hc
  -- requests whose work rewrites records of other blocks
  | setOrigin _ | setZone _ | clearZone _ | setBin _ | setLampBin _ | setGlare _ | setFrame _ | setWatch _ | writePattern _
  | definePattern _ | deletePattern _ | writeKeys _ | defineCue _ | setClock _ | trimClock _ | subscribe _ | openLayer _
  | showLayer _ | hideLayer _ | releaseZone _ | clearHealth _ | sleep _ =>
    simp only [exec, execSetOrigin, execSetZone, execClearZone, execSetBin, execSetLampBin, execSetGlare, execSetFrame,
      execSetWatch, execWritePattern, execDefinePattern, execDeletePattern, execWriteKeys, execDefineCue, execSetClock,
      execTrimClock, execSubscribe, execOpenLayer, execShowLayer, execHideLayer, execReleaseZone, execClearHealth,
      execSleep]
    refine answered_triggers fun tk u => ?_
    simp only [serveSetOrigin, serveSetZone, serveClearZone, serveSetBin, serveSetLampBin, serveSetGlare, serveSetFrame,
      serveSetWatch, serveWritePattern, serveDefinePattern, serveDeletePattern, serveWriteKeys, serveDefineCue,
      serveSetClock, serveTrimClock, serveSubscribe, serveOpenLayer, serveShowLayer, serveHideLayer, serveReleaseZone,
      serveClearHealth, serveSleep, whenServed_bind, whenServed_pure]
    intros
    rfl
  -- requests whose work goes through an operation of its own
  | setChain _ | editLayer _ | closeLayer _ | startCue _ | stopCue _ | holdZone _ | trigger _ =>
    simp only [exec, execSetChain, execEditLayer, execCloseLayer, execStartCue, execStopCue, execHoldZone, execTrigger]
    refine answered_triggers fun tk u => ?_
    simp [serveSetChain, serveEditLayer, serveCloseLayer, serveStartCue, serveStopCue, serveHoldZone, serveTrigger]
  | gateClose _ | gateOpen _ | enterRun _ =>
    simp only [exec, execGateClose, execGateOpen, execEnterRun]
    refine answered_triggers fun tk u => ?_
    simp only [serveGateClose, serveGateOpen, serveEnterRun, whenServed_bind, whenServed_pure]
    intro _ _
    split <;> rfl
  | enterSetup _ =>
    simp only [exec, execEnterSetup]
    refine answered_triggers fun tk u => ?_
    simp only [serveEnterSetup, whenServed_bind, whenServed_pure]
    intro _ _
    split
    · rfl
    · exact enterSetup_tu ..
  | requestUnknownKind _ | timeQuery _ | readStatus _ =>
    simp only [exec, execRequestUnknownKind, execTimeQuery, execReadStatus]
    exact taken_triggers fun tk u => rfl
  | streamFrame _ =>
    simp only [exec, execStreamFrame]
    refine taken_triggers fun tk u => ?_
    unfold serveStreamFrame
    split <;> rfl
  | resetPinAssert => exact live_triggers rfl
  | frameReceived ch fmt ident data =>
    change WhenNext (SameTriggers s) (execFrameReceived ch fmt ident data s)
    unfold execFrameReceived
    split
    · exact liveWhen_triggers (receive_tu ..)
    · exact unchanged_triggers
  | trimCorrection => exact liveWhen_triggers rfl
  | frameStart =>
    change WhenNext (SameTriggers s) (execFrameStart s)
    unfold execFrameStart
    split
    · exact unchanged_triggers
    · exact liveWhen_triggers (frameStart_tu ..)
  | cueNaturalEnd c => exact atLastFrame_triggers fun cue => (CueFrame.naturalEnd s c cue).triggers
  | cueReleaseEnd c => exact atLastFrame_triggers fun cue => (CueFrame.endCue s c cue _).triggers
  | streamStale q =>
    change WhenNext (SameTriggers s) (execStreamStale q s)
    unfold execStreamStale
    split
    · exact unchanged_triggers
    · exact liveWhen_triggers rfl
  | composeComplete =>
    change WhenNext (SameTriggers s) (execComposeComplete s)
    unfold execComposeComplete
    split
    · exact unchanged_triggers
    · exact live_triggers (completeCompose_tu ..)
  | holdoffEnd l => exact liveWhen_triggers (changeLoop_tu ..)
  | quietThreshold l =>
    change WhenNext (SameTriggers s) (execQuietThreshold l s)
    unfold execQuietThreshold
    split
    · exact unchanged_triggers
    · exact liveWhen_triggers (changeLoop_tu ..)
  | loopReturnReceived l ret =>
    change WhenNext (SameTriggers s) (execLoopReturnReceived l ret s)
    unfold execLoopReturnReceived
    split
    · exact unchanged_triggers
    · exact live_triggers (actOn_tu ..)
  | loopReturnTimeout l =>
    change WhenNext (SameTriggers s) (execLoopReturnTimeout l s)
    unfold execLoopReturnTimeout
    split
    · exact unchanged_triggers
    · exact liveWhen_triggers (actOn_tu ..)
  | loopFailed l ret =>
    change WhenNext (SameTriggers s) (execLoopFailed l ret s)
    unfold execLoopFailed
    split
    · exact unchanged_triggers
    · exact liveWhen_triggers (actOn_tu ..)
  | gateExpiry o => exact liveWhen_triggers (expireGate_tu ..)
  | settle => exact liveWhen_triggers (fallAsleep_tu ..)
  | frameTransmitStart ch =>
    change WhenNext (SameTriggers s) (execFrameTransmitStart ch s)
    unfold execFrameTransmitStart
    split
    · exact unchanged_triggers
    · exact liveWhen_triggers rfl
  | frameTransmitted ch =>
    change WhenNext (SameTriggers s) (execFrameTransmitted ch s)
    unfold execFrameTransmitted
    split
    · exact unchanged_triggers
    · exact liveWhen_triggers (finishSend_tu ..)
  | channelError ch kind => exact liveWhen_triggers (channelErr_tu ..)
  | channelRecovery ch => exact liveWhen_triggers (setChan_tu ..)
  | loopBurstEnd l =>
    change WhenNext (SameTriggers s) (execLoopBurstEnd l s)
    unfold execLoopBurstEnd
    dsimp only
    split
    · exact unchanged_triggers
    · exact liveWhen_triggers rfl

end Sys2Proof.Machine

/-! PROOF. A defined cue keeps its owner in every step but a deletion, a teardown and a reset (R94, R97, R147): one lemma for each
operation on cues. -/

namespace Sys2Proof.Machine

/-- Every cue defined in the first state is defined in the second, with the same owner. -/
structure OwnersKept (s t : State) : Prop where
  kept : ∀ (c : CueNo) (x : Cue), s.ce.cues[c] = some x → ∃ y, t.ce.cues[c] = some y ∧ y.owner = x.owner

/-! ## The relation -/

theorem OwnersKept.refl (s : State) : OwnersKept s s := ⟨fun _ x hx => ⟨x, hx, rfl⟩⟩

theorem OwnersKept.trans {s t u : State} (h : OwnersKept s t) (g : OwnersKept t u) : OwnersKept s u := by
  refine ⟨fun c x hx => ?_⟩
  obtain ⟨y, hy, hyx⟩ := h.kept c x hx
  obtain ⟨z, hz, hzy⟩ := g.kept c y hy
  exact ⟨z, hz, hzy.trans hyx⟩

section
variable {s t : State}

theorem OwnersKept.of_cues (h : t.ce.cues = s.ce.cues) : OwnersKept s t :=
  ⟨fun _ x hx => ⟨x, h ▸ hx, rfl⟩⟩

theorem OwnersKept.of_ce (h : t.ce = s.ce) : OwnersKept s t := .of_cues (congrArg CueBlock.cues h)

/-- A record written that has the owner of the one before it, if there was one. -/
theorem OwnersKept.of_setAt {c : CueNo} {x : Cue} (hx : ∀ old, s.ce.cues[c] = some old → x.owner = old.owner)
    (h : t.ce.cues = setAt s.ce.cues c (some x)) : OwnersKept s t := by
  refine ⟨fun d y hy => ?_⟩
  rw [h, setAt_get]
  split
  · next hd => exact ⟨x, rfl, hx y (hd ▸ hy)⟩
  · exact ⟨y, hy, rfl⟩

/-- A defined cue's record changed in place. -/
theorem OwnersKept.of_change {c : CueNo} {cue x : Cue} (hcue : s.ce.cues[c] = some cue) (hx : x.owner = cue.owner)
    (h : t.ce.cues = setAt s.ce.cues c (some x)) : OwnersKept s t :=
  .of_setAt (fun _ hold => hx.trans (congrArg Cue.owner (Option.some.inj (hcue.symm.trans hold)))) h

/-- Every record changed in place. -/
theorem OwnersKept.of_map {f : Cue → Cue} (hf : ∀ x, (f x).owner = x.owner)
    (h : ∀ c : CueNo, t.ce.cues[c] = s.ce.cues[c].map f) : OwnersKept s t := by
  refine ⟨fun c x hx => ⟨f x, ?_, hf x⟩⟩
  rw [h, hx]
  rfl

end

/-! ## One cue -/

section
variable {s u : State} {c : CueNo} {cue : Cue} (hu : u.ce.cues = s.ce.cues) (hcue : s.ce.cues[c] = some cue)
include hu hcue

theorem OwnersKept.endCue (why : EndReason) : OwnersKept s (u.endCue c cue why) :=
  .of_change hcue (x := { cue with run := .ready }) rfl (by rw [endCue_ce, hu])

theorem OwnersKept.schedule (start : Time) (o : Origin) : OwnersKept s (u.schedule c cue start o) :=
  .of_change hcue (x := { cue with run := .scheduled }) rfl (by rw [schedule_ce, hu])

theorem OwnersKept.stop : OwnersKept s (u.stop c cue) := by
  unfold State.stop
  split
  · exact .of_cues hu
  · exact .endCue (u := u.setStartQueue (dropEntry c u.ce.queue)) hu hcue .stopped
  · next start latest _ =>
    split
    · exact .of_change hcue (x := { cue with run := .releasing start u.sc.scene latest }) rfl (by rw [setCue_cues, hu])
    · exact .endCue hu hcue .stopped
  · exact .endCue hu hcue .stopped

theorem OwnersKept.naturalEnd : OwnersKept s (u.naturalEnd c cue) :=
  .endCue (u := u.setLayer cue.layer (u.endedLayer cue u.lt.layers[cue.layer])) hu hcue .finished

end

section
variable {s : State} {c : CueNo} {cue : Cue}

theorem OwnersKept.startCueAt (hcue : s.ce.cues[c] = some cue) {x : Cue} (hx : x.owner = cue.owner) (tf start : Time) :
    OwnersKept s (s.startCueAt tf c x start) := by
  obtain ⟨start', hce⟩ := startCueAt_ce s tf c x start
  exact .of_change hcue (x := { x with run := .running start' [] }) hx (by rw [hce])

/-- A cue defined under an EMPTY number (R96). -/
theorem OwnersKept.define (hfree : s.ce.cues[c] = none) (cue : Cue) : OwnersKept s (s.setCue c (some cue)) :=
  .of_setAt (fun _ hold => nomatch hfree.symm.trans hold) rfl

end

/-! ## Cues that meet a test, codes and edges -/

section
variable (s : State)

theorem OwnersKept.endCuesWhere (p : Cue → Bool) (why : EndReason) : OwnersKept s (s.endCuesWhere p why) := by
  refine .of_map (f := endedBy p) (fun x => ?_) (endCuesWhere_cue s p why)
  unfold endedBy
  split <;> rfl

theorem OwnersKept.endAllCues (why : EndReason) : OwnersKept s (s.endAllCues why) :=
  (endCuesWhere ..).trans (.of_cues (setStartQueue_cues_kept ..))

theorem OwnersKept.enterSetup : OwnersKept s s.enterSetup := (endAllCues s .stopped).trans (.of_ce (setupTables_ce _))

theorem OwnersKept.fallAsleep : OwnersKept s s.fallAsleep :=
  .trans (t := s.setPartState .asleep) (.of_cues rfl) ((endAllCues ..).trans (.of_ce (darkened_ce _)))

theorem OwnersKept.act (e : BindEntry) (stamp : Time) : OwnersKept s (s.act e stamp) := by
  have hstart {cue : Cue} (hcue : s.ce.cues[e.cue] = some cue) : OwnersKept s (s.actStart e.cue cue stamp e.owner) := by
    unfold State.actStart
    split
    · exact .refl s
    · exact .schedule rfl hcue stamp e.owner
  unfold State.act
  split
  · split
    · exact .refl s
    · next cue hcue =>
      split
      · exact hstart hcue
      · exact .stop rfl hcue
      · split
        · exact hstart hcue
        · exact .stop rfl hcue
  · exact .refl s

theorem OwnersKept.matchCode (src : CodeSource) (code : Byte) (stamp : Time) : OwnersKept s (s.matchCode src code stamp) :=
  (foldl_related OwnersKept.refl OwnersKept.trans (fun u e => .act u e stamp) _ s).trans (.of_ce (notifyAll_ce ..))

theorem OwnersKept.matchWakeList : OwnersKept s s.matchWakeList := by
  refine .trans (t := s.setWakeList []) (.of_cues rfl) ?_
  apply foldl_related OwnersKept.refl OwnersKept.trans
  exact fun u w => .matchCode ..

theorem OwnersKept.handleEdge (t : LineNo) (e : EdgeKind) (stamp : Time) : OwnersKept s (s.handleEdge t e stamp) := by
  have hunmatched : OwnersKept s (s.seeUnmatched (.line t e) (edgeCode t e) stamp) := .of_ce (notifyAll_ce ..)
  unfold State.handleEdge
  split
  · exact .matchCode ..
  · exact .matchCode ..
  · exact hunmatched
  · split
    · exact .of_ce ((wakeEvent_ce _).trans (addWake_ce ..))
    · exact hunmatched
  · exact .of_ce (addWake_ce ..)

theorem OwnersKept.acceptChange (t : LineNo) (level : Bool) : OwnersKept s (s.acceptChange t level) := by
  unfold State.acceptChange State.takeEdge
  dsimp only
  split
  · exact .of_ce (mirrorTo_ce ..)
  · split
    · exact (OwnersKept.of_ce (setLineRec_ce ..)).trans ((OwnersKept.of_ce (setCapture_ce ..)).trans (.handleEdge ..))
    · exact .of_ce rfl

/-! ## Frame starts -/

theorem OwnersKept.endIfDue (tf : Time) (c : CueNo) : OwnersKept s (s.endIfDue tf c) := by
  unfold State.endIfDue
  split
  · exact .refl s
  · next cue hcue =>
    split
    · exact .endCue rfl hcue .stopped
    · split
      · exact .naturalEnd rfl hcue
      · exact .refl s

theorem OwnersKept.cueEnds (tf : Time) : OwnersKept s (s.cueEnds tf) :=
  foldl_related OwnersKept.refl OwnersKept.trans (fun u c => .endIfDue u tf c) _ s

theorem OwnersKept.resolve (tf : Time) (e : StartEntry) : OwnersKept s (s.resolve tf e) := by
  unfold State.resolve
  split
  · exact .refl s
  · next cue hcue =>
    dsimp only
    split
    · exact .endCue rfl hcue .layerGone
    · have hpreempted := endCuesWhere s (activeOn cue.layer) .preempted
      obtain ⟨x, hx, howner⟩ := hpreempted.kept e.cue cue hcue
      exact hpreempted.trans (.startCueAt hx howner.symm tf e.start)

theorem OwnersKept.dueStarts (tf : Time) : OwnersKept s (s.dueStarts tf) :=
  .trans (t := s.setStartQueue (s.ce.queue.filter fun e => !startDue tf e)) (.of_cues rfl)
    (foldl_related OwnersKept.refl OwnersKept.trans (fun u e => .resolve u tf e) _ _)

theorem OwnersKept.frameStart (tf : Time) : OwnersKept s (s.frameStart tf) := by
  have hcues : OwnersKept s (((s.raiseFrame tf).applyGates.dueStarts tf).cueEnds tf) :=
    .trans (t := (s.raiseFrame tf).applyGates) (.of_cues rfl) ((dueStarts ..).trans (.cueEnds ..))
  rw [frameStart_framed]
  generalize ((s.raiseFrame tf).applyGates.dueStarts tf).cueEnds tf = u at hcues ⊢
  refine hcues.trans (.of_map (f := u.evaluated tf) (fun x => ?_) (framed_cue u tf))
  unfold State.evaluated
  split <;> rfl

theorem OwnersKept.completeWake : OwnersKept s s.completeWake :=
  .trans (t := s.wakeUp.wakeLoops) (.of_cues rfl) ((matchWakeList _).trans (.frameStart ..))

theorem OwnersKept.setScene (clock : Time) : OwnersKept s (s.setScene clock) :=
  .of_map (f := fun x => { x with run := shiftRun (clock - s.sc.scene) x.run }) (fun _ => rfl) fun _ => mapAt_get ..

end

/-! ## Every command -/

section
variable {s : State}

theorem OwnersKept.request {k : Option Kind} {o : Origin} {serve : Taken → State → Served}
    (h : ∀ tk u, WhenServed (OwnersKept u) (serve tk u)) :
    WhenNext (OwnersKept s) (takeRequest k o s fun tk u => answer tk u (serve tk u)) :=
  whenNext_takeRequest (.refl s) (.of_cues rfl) (fun _ => .of_cues rfl) fun rq =>
    answer_keeps (P := OwnersKept s) (fun _ => .of_cues rfl) fun t ht =>
      .trans (t := s.popIntake o) (.of_cues rfl) (h ⟨o, rq⟩ _ t ht)

theorem OwnersKept.atLastFrame {c : CueNo} {cond : Time → Cue → Bool} {next : Cue → State}
    (h : ∀ cue, s.ce.cues[c] = some cue → OwnersKept s (next cue)) :
    WhenNext (OwnersKept s) (atLastFrame s c cond next) := by
  unfold Sys2Proof.Machine.atLastFrame
  split
  · next hcue => exact whenNext_liveWhen (.refl s) fun _ _ => h _ hcue
  · exact whenNext_next.mpr (.refl s)

end

/-- The commands that make a defined cue EMPTY: the resets, DELETE_CUE and FORGET. -/
def emptiesCues : Instr → Bool
  | .powerOn .. => true
  | .resetPinRelease .. => true
  | .restart .. => true
  | .deleteCue .. => true
  | .forget .. => true
  | _ => false

/-- Every other command leaves each defined cue with its owner. -/
theorem exec_ownersKept (c : Instr) (hc : emptiesCues c = false) (s : State) : WhenNext (OwnersKept s) (exec c s) := by
  cases hw : writesCues c with
  | false => exact fun t ht => .of_ce (exec_sameCues c hw s t ht)
  | true =>
    cases c with
    | powerOn _ _ | resetPinRelease _ | restart _ | deleteCue _ | forget _ => cases hc
    | writeKeys o =>
      simp only [exec, execWriteKeys]
      refine .request fun tk u => ?_
      simp only [serveWriteKeys, whenServed_bind, whenServed_pure]
      intros
      exact .of_cues rfl
    | defineCue o =>
      simp only [exec, execDefineCue]
      refine .request fun tk u => ?_
      simp only [serveDefineCue, whenServed_bind, whenServed_pure, found_eq_ok]
      intro _ _ _ _ _ _ _ _ _ _ _ _ _ _ c hfree
      exact (OwnersKept.define (freeCue?_some hfree) _).trans (.of_cues rfl)
    | setClock o =>
      simp only [exec, execSetClock]
      refine .request fun tk u => ?_
      simp only [serveSetClock, whenServed_bind, whenServed_pure]
      intros
      exact (OwnersKept.setScene u _).trans (.of_cues rfl)
    | closeLayer o =>
      simp only [exec, execCloseLayer]
      refine .request fun tk u => ?_
      simp only [serveCloseLayer, whenServed_bind, whenServed_pure]
      intro i _
      have hfreed : OwnersKept u ((u.done tk []).freeLayersWhere fun j _ => j == i) := .of_cues rfl
      exact hfreed.trans (.endCuesWhere ..)
    | startCue o =>
      simp only [exec, execStartCue]
      refine .request fun tk u => ?_
      simp only [serveStartCue, whenServed_bind, whenServed_pure, found_eq_ok]
      intro _ _ c _ _ _ cue hcue
      intros
      exact .schedule (by rw [reply_ce]) hcue ..
    | stopCue o =>
      simp only [exec, execStopCue]
      refine .request fun tk u => ?_
      simp only [serveStopCue, whenServed_bind, whenServed_pure, found_eq_ok]
      intro _ _ c _ cue hcue _ _
      exact .stop rfl hcue
    | trigger o =>
      simp only [exec, execTrigger]
      refine .request fun tk u => ?_
      simp only [serveTrigger, whenServed_bind, whenServed_pure]
      intros
      exact .trans (t := u.done ..) (.of_cues rfl) (.matchCode ..)
    | enterSetup o =>
      simp only [exec, execEnterSetup]
      refine .request fun tk u => ?_
      simp only [serveEnterSetup, whenServed_bind, whenServed_pure]
      intro _ _
      split
      · exact .of_cues rfl
      · exact .trans (t := u.done ..) (.of_cues rfl) (.enterSetup _)
    | frameStart =>
      change WhenNext (OwnersKept s) (execFrameStart s)
      unfold execFrameStart
      split
      · exact whenNext_next.mpr (.refl s)
      · exact whenNext_liveWhen (.refl s) fun _ _ => .frameStart ..
    | cueNaturalEnd c => exact .atLastFrame fun _ hcue => .naturalEnd rfl hcue
    | cueReleaseEnd c => exact .atLastFrame fun _ hcue => .endCue rfl hcue .stopped
    | lineChangeAccepted t =>
      change WhenNext (OwnersKept s) (execLineChangeAccepted t s)
      unfold execLineChangeAccepted
      split
      · exact whenNext_next.mpr (.refl s)
      · exact whenNext_liveWhen (.refl s) fun _ _ => .acceptChange ..
    | settle => exact whenNext_liveWhen (.refl s) fun _ _ => .trans (t := s.settleLoops) (.of_cues rfl) (.fallAsleep _)
    | wakeCompletion => exact whenNext_liveWhen (.refl s) fun _ _ => .completeWake s
    | _ => cases hw

end Sys2Proof.Machine

/-! PROOF. The bind table: its law along every step (R129 to R131), and the requests BIND and UNBIND (R130, R131). -/

namespace Sys2Proof.Machine

/-! ## Entries of one pattern -/

/-- The entry is the origin's, with this match and mask (R130). -/
def hasPattern (o : Origin) (code mask : Byte) (e : BindEntry) : Bool := e.owner == o && e.code == code && e.mask == mask

theorem hasPattern_iff {o : Origin} {code mask : Byte} {e : BindEntry} :
    hasPattern o code mask e = true ↔ e.owner = o ∧ e.code = code ∧ e.mask = mask := by
  simp only [hasPattern, Bool.and_eq_true, beq_iff_eq, and_assoc]

theorem unbindWhere_bind (s : State) (p : BindEntry → Bool) (i : BindNo) :
    (s.unbindWhere p).tu.binds[i] = s.tu.binds[i].filter fun e => !p e := mapAt_get ..

/-- An entry that is left is one that stood, and that the test does not hold for. -/
theorem unbindWhere_some {s : State} {p : BindEntry → Bool} {i : BindNo} {e : BindEntry} :
    (s.unbindWhere p).tu.binds[i] = some e ↔ s.tu.binds[i] = some e ∧ p e = false := by
  rw [unbindWhere_bind, Option.filter_eq_some_iff, Bool.not_eq_true']

theorem samePattern?_some {s : State} {o : Origin} {code mask : Byte} {i : BindNo} (h : s.samePattern? o code mask = some i) :
    ∃ e, s.tu.binds[i] = some e ∧ hasPattern o code mask e = true := by
  have hi := List.find?_some h
  rwa [Option.any_eq_true] at hi

theorem samePattern?_none {s : State} {o : Origin} {code mask : Byte} :
    s.samePattern? o code mask = none ↔ ∀ (i : BindNo) (e : BindEntry), s.tu.binds[i] = some e → hasPattern o code mask e = false := by
  simp only [State.samePattern?, List.find?_eq_none, Bool.not_eq_true]
  refine ⟨fun h i e he => ?_, fun h i _ => ?_⟩
  · have hi := h i (List.mem_finRange i)
    rwa [he] at hi
  · cases he : s.tu.binds[i] with
    | none => rfl
    | some e => exact h i e he

theorem samePattern?_isSome {s : State} {o : Origin} {code mask : Byte} : (s.samePattern? o code mask).isSome = true ↔
    ∃ (i : BindNo) (e : BindEntry), s.tu.binds[i] = some e ∧ hasPattern o code mask e = true := by
  rw [← Option.ne_none_iff_isSome, ne_eq, samePattern?_none]
  simp only [not_forall, Bool.not_eq_false, exists_prop]

/-- The first entry of the pattern goes, if there is one. -/
theorem unbindSame_frame (s : State) (o : Origin) (code mask : Byte) : s.unbindSame o code mask =
    { s with tu := { s.tu with binds := (s.unbindSame o code mask).tu.binds } } := by
  unfold State.unbindSame
  split <;> rfl

theorem unbindSame_bind (s : State) (o : Origin) (code mask : Byte) (j : BindNo) :
    (s.unbindSame o code mask).tu.binds[j] = if s.samePattern? o code mask = some j then none else s.tu.binds[j] := by
  unfold State.unbindSame
  split
  · next h => rw [h, if_neg nofun]
  · next i h =>
    rw [h, setBind_binds, setAt_get]
    simp only [Option.some.injEq, eq_comm]

/-- With no two entries of one pattern the first is the only one, so that all of them go (R130). -/
theorem unbindSame_eq {s : State} (hs : BindsSound s) (o : Origin) (code mask : Byte) :
    s.unbindSame o code mask = s.unbindWhere (hasPattern o code mask) := by
  have hbinds : (s.unbindSame o code mask).tu.binds = (s.unbindWhere (hasPattern o code mask)).tu.binds := by
    refine vec_ext fun j => ?_
    rw [unbindSame_bind, unbindWhere_bind]
    cases he : s.tu.binds[j] with
    | none => rw [ite_self, Option.filter_none]
    | some e =>
      rw [Option.filter_some]
      cases hp : hasPattern o code mask e with
      | false =>
        have hother : s.samePattern? o code mask ≠ some j := fun hsame => by
          obtain ⟨f, hf, hpf⟩ := samePattern?_some hsame
          rw [← Option.some.inj (he.symm.trans hf), hp] at hpf
          cases hpf
        rw [if_neg hother]
        rfl
      | true =>
        obtain ⟨i, hi⟩ := Option.isSome_iff_exists.mp (samePattern?_isSome.mpr ⟨j, e, he, hp⟩)
        obtain ⟨f, hf, hpf⟩ := samePattern?_some hi
        obtain ⟨ho, hc, hm⟩ := hasPattern_iff.mp hp
        obtain ⟨fo, fc, fm⟩ := hasPattern_iff.mp hpf
        have hij : i = j := hs.2 i j f e hf he (fo.trans ho.symm) (fc.trans hc.symm) (fm.trans hm.symm)
        rw [hi, hij, if_pos rfl]
        rfl
  rw [unbindSame_frame, hbinds]
  rfl

/-! ## The law of the bind table -/

section
variable {s t : State} (hs : BindsSound s)
include hs

/-- The law goes to a table whose entries all stood before, each with its cue. -/
theorem BindsSound.shrink (h : ∀ (i : BindNo) (e : BindEntry), t.tu.binds[i] = some e →
      s.tu.binds[i] = some e ∧ ∀ cue, s.ce.cues[e.cue] = some cue → cue.owner = e.owner →
        ∃ x, t.ce.cues[e.cue] = some x ∧ x.owner = e.owner) : BindsSound t := by
  obtain ⟨hentry, hone⟩ := hs
  refine ⟨fun i e he => ?_, fun i j e f he hf => hone i j e f (h i e he).1 (h j f hf).1⟩
  obtain ⟨hold, hkept⟩ := h i e he
  obtain ⟨hcode, cue, hcue, howner⟩ := hentry i e hold
  exact ⟨hcode, hkept cue hcue howner⟩

/-- The law goes along a step that leaves the entries, and each defined cue with its owner. -/
theorem BindsSound.of_owners (hbinds : t.tu.binds = s.tu.binds) (hcues : OwnersKept s t) : BindsSound t := by
  refine hs.shrink fun i e he => ⟨hbinds ▸ he, fun cue hcue howner => ?_⟩
  obtain ⟨x, hx, hxo⟩ := hcues.kept e.cue cue hcue
  exact ⟨x, hx, hxo.trans howner⟩

theorem BindsSound.unbindWhere (p : BindEntry → Bool) : BindsSound (s.unbindWhere p) :=
  hs.shrink fun _ _ he => ⟨(unbindWhere_some.mp he).1, fun cue hcue howner => ⟨cue, hcue, howner⟩⟩

theorem BindsSound.clearBind (i : BindNo) : BindsSound (s.setBind i none) := by
  refine hs.shrink fun j e he => ⟨?_, fun cue hcue howner => ⟨cue, hcue, howner⟩⟩
  rw [setBind_binds, setAt_get] at he
  split at he
  · cases he
  · exact he

/-- A new entry on a cue of its owner, of a pattern that no other of the owner's has (R130). -/
theorem BindsSound.setBind {e : BindEntry} (hcode : e.code &&& e.mask = e.code)
    (hcue : ∃ cue, s.ce.cues[e.cue] = some cue ∧ cue.owner = e.owner)
    (hnew : ∀ (j : BindNo) (f : BindEntry), s.tu.binds[j] = some f → hasPattern e.owner e.code e.mask f = false)
    (i : BindNo) : BindsSound (s.setBind i (some e)) := by
  obtain ⟨hentry, hone⟩ := hs
  have hother : ∀ (j : BindNo) (f : BindEntry), s.tu.binds[j] = some f →
      ¬(f.owner = e.owner ∧ f.code = e.code ∧ f.mask = e.mask) := fun j f hf =>
    hasPattern_iff.not.mp (Bool.eq_false_iff.mp (hnew j f hf))
  have hread (j : BindNo) : (s.setBind i (some e)).tu.binds[j] = if j = i then some e else s.tu.binds[j] := setAt_get ..
  refine ⟨fun j f hf => ?_, fun j k f g hf hg ho hc hm => ?_⟩
  · rw [hread] at hf
    split at hf
    · exact Option.some.inj hf ▸ ⟨hcode, hcue⟩
    · exact hentry j f hf
  · rw [hread] at hf hg
    split at hf <;> split at hg
    · next hj hk => exact hj.trans hk.symm
    · rw [← Option.some.inj hf] at ho hc hm
      exact absurd ⟨ho.symm, hc.symm, hm.symm⟩ (hother k g hg)
    · rw [← Option.some.inj hg] at ho hc hm
      exact absurd ⟨ho, hc, hm⟩ (hother j f hf)
    · exact hone j k f g hf hg ho hc hm

/-- BIND makes its entry in a table cleared of the requester's entry of the same pattern (R130). -/
theorem BindsSound.bind {o : Origin} {c : CueNo} {cue : Cue} (hcue : s.ce.cues[c] = some cue) (howner : cue.owner = o)
    (code mask : Byte) (qual : Option FlagRef) (act : BindAction) (i : BindNo) :
    BindsSound ((s.unbindSame o (code &&& mask) mask).setBind i (some ⟨o, code &&& mask, mask, qual, act, c⟩)) := by
  rw [unbindSame_eq hs]
  refine BindsSound.setBind (hs.unbindWhere _) (e := ⟨o, code &&& mask, mask, qual, act, c⟩) ?_ ⟨cue, hcue, howner⟩
    (fun j f hf => (unbindWhere_some.mp hf).2) i
  rw [BitVec.and_assoc, BitVec.and_self]

/-- DELETE_CUE makes the entries on its cue invalid, which are all its owner's (R97, R131). -/
theorem BindsSound.deleteCue {c : CueNo} {cue : Cue} (hcue : s.ce.cues[c] = some cue) (why : EndReason) :
    BindsSound ((s.emptyCue c cue why).unbindWhere fun e => e.owner == cue.owner && e.cue == c) := by
  refine hs.shrink fun i e he => ?_
  obtain ⟨hold, hkept⟩ := unbindWhere_some.mp he
  rw [emptyCue_tu] at hold
  refine ⟨hold, fun x hx howner => ⟨x, ?_, howner⟩⟩
  have hne : e.cue ≠ c := by
    intro hc
    subst hc
    rw [← howner, Option.some.inj (hx.symm.trans hcue), beq_self_eq_true, beq_self_eq_true] at hkept
    cases hkept
  change (s.emptyCue c cue why).ce.cues[e.cue] = some x
  rw [emptyCue_ce, setAt_get, if_neg hne]
  exact hx

/-- FORGET empties the cues of one origin and makes its entries invalid (R147). -/
theorem BindsSound.forget (q : Origin) : BindsSound (s.forget q) := by
  refine hs.shrink fun i e he => ?_
  rw [forget_bind, Option.filter_eq_some_iff, bne_iff_ne] at he
  obtain ⟨hold, hne⟩ := he
  exact ⟨hold, fun x hx howner => ⟨_, (forget_cue ..).trans (forgottenCue_other hx (howner ▸ hne)), howner⟩⟩

end

/-! ## Every step -/

/-- With no valid entry the law holds. -/
theorem bindsSound_of_none {s : State} (h : ∀ i : BindNo, s.tu.binds[i] = none) : BindsSound s :=
  ⟨fun i _ he => (nomatch (h i).symm.trans he), fun i _ _ _ he => (nomatch (h i).symm.trans he)⟩

theorem bindsSound_fresh (strap : Fin 8) (raw : LineNo → Bool) (pending : List Instr) (n : Nat) :
    BindsSound (State.fresh strap raw pending n) := bindsSound_of_none fun _ => replicate_get ..

theorem bindsSound_restarted (s : State) : BindsSound s.restarted := bindsSound_of_none fun _ => replicate_get ..

@[simp] theorem mirrorTo_binds (s : State) (f : Option FlagNo) (v : Bool) : (s.mirrorTo f v).tu.binds = s.tu.binds := by
  cases f <;> rfl

@[simp] theorem replaceLine_binds (s : State) (t : LineNo) (x : Line) : (s.replaceLine t x).tu.binds = s.tu.binds := by
  simp only [State.replaceLine, mirrorTo_binds, setCapture_binds_kept, setLineRec_binds_kept]

@[simp] theorem giveFlag_binds (s : State) (f : FlagNo) (w : Writer) : (s.giveFlag f w).tu.binds = s.tu.binds := by
  unfold State.giveFlag
  split <;> rfl

/-- A request keeps the law when its owning block's work does. -/
theorem BindsSound.request {s : State} (hs : BindsSound s) {k : Option Kind} {o : Origin} {serve : Taken → State → Served}
    (hserve : ∀ tk u, BindsSound u → WhenServed BindsSound (serve tk u)) :
    WhenNext BindsSound (takeRequest k o s fun tk u => answer tk u (serve tk u)) :=
  whenNext_takeRequest hs hs (fun _ => hs) fun rq => answer_keeps (fun _ => hs) (hserve ⟨o, rq⟩ (s.popIntake o) hs)

/-- The commands that write the Trigger Unit keep the law, each by its own rule. -/
theorem exec_bindsSound (c : Instr) (hc : writesTriggers c = true) {s : State} (hs : BindsSound s) :
    WhenNext BindsSound (exec c s) := by
  cases c with
  | powerOn strap raw => exact whenNext_next.mpr (bindsSound_fresh ..)
  | resetPinRelease strap =>
    refine whenNext_next.mpr ?_
    split
    · exact bindsSound_fresh ..
    · exact hs
  | restart o =>
    simp only [exec, execRestart]
    refine hs.request fun tk u _ => ?_
    simp only [serveRestart, whenServed_bind, whenServed_pure]
    intros
    exact bindsSound_restarted u
  | setLine o =>
    simp only [exec, execSetLine]
    refine hs.request fun tk u hu => ?_
    simp only [serveSetLine, whenServed_bind, whenServed_pure]
    intros
    exact hu.of_owners (replaceLine_binds ..) (.of_ce (replaceLine_ce ..))
  | setFlagOwner o =>
    simp only [exec, execSetFlagOwner]
    refine hs.request fun tk u hu => ?_
    simp only [serveSetFlagOwner, whenServed_bind, whenServed_pure]
    intros
    exact hu.of_owners (giveFlag_binds ..) (.of_ce (giveFlag_ce ..))
  | setFlags o =>
    simp only [exec, execSetFlags]
    refine hs.request fun tk u hu => ?_
    simp only [serveSetFlags, whenServed_bind, whenServed_pure]
    intros
    exact hu
  | deleteCue o =>
    simp only [exec, execDeleteCue]
    refine hs.request fun tk u hu => ?_
    simp only [serveDeleteCue, whenServed_bind, whenServed_pure, found_eq_ok]
    intro c _ x hcue _ _
    exact BindsSound.deleteCue (s := u.done tk []) hu hcue .stopped
  | bind o =>
    simp only [exec, execBind]
    refine hs.request fun tk u hu => ?_
    simp only [serveBind, whenServed_bind, whenServed_pure, found_eq_ok, require_eq_ok, decide_eq_false_iff_not, not_not]
    intro c _ act _ qual _ cue hcue _ howner i _
    exact hu.bind hcue howner ..
  | unbind o =>
    simp only [exec, execUnbind]
    refine hs.request fun tk u hu => ?_
    simp only [serveUnbind, whenServed_bind, whenServed_pure]
    intro i _ _ _ _ _
    exact hu.clearBind i
  | readCapture o =>
    simp only [exec, execReadCapture]
    refine hs.request fun tk u hu => ?_
    simp only [serveReadCapture, whenServed_bind, whenServed_pure]
    intros
    exact hu
  | forget o =>
    simp only [exec, execForget]
    refine hs.request fun tk u hu => ?_
    simp only [serveForget, whenServed_bind, whenServed_pure]
    intro q _ _ _
    exact BindsSound.forget (s := u.done ..) hu q
  | lineRawChange t level =>
    change WhenNext BindsSound (execLineRawChange t level s)
    unfold execLineRawChange
    dsimp only
    split
    · exact whenNext_next.mpr hs
    · split <;> exact whenNext_next.mpr hs
  | lineChangeAccepted t =>
    change WhenNext BindsSound (execLineChangeAccepted t s)
    unfold execLineChangeAccepted
    split
    · exact whenNext_next.mpr hs
    · exact whenNext_liveWhen hs fun _ _ => hs.of_owners (by rw [acceptChange_tu]) (.acceptChange ..)
  | wakeCompletion =>
    exact whenNext_liveWhen hs fun _ _ => hs.of_owners (by rw [completeWake_tu]) (.completeWake s)
  | _ => cases hc

/-- Settles O14: a command that leaves the Trigger Unit makes no cue EMPTY but by a reset, and the others keep entries and cues
together. -/
theorem stepsKeepBindEntriesSound : Obligations.StepsKeepBindEntriesSound := by
  refine keptByStep_of_exec (fun s q hs => hs) (fun s hs => hs) fun c s hs => ?_
  cases hc : writesTriggers c with
  | true => exact exec_bindsSound c hc hs
  | false =>
    have howned : emptiesCues c = false := by
      cases c with
      | powerOn _ _ | resetPinRelease _ | restart _ | deleteCue _ | forget _ => cases hc
      | _ => rfl
    exact fun t ht => hs.of_owners (congrArg TriggerBlock.binds (exec_sameTriggers c hc s t ht)) (exec_ownersKept c howned s t ht)

end Sys2Proof.Machine

/-! PROOF. BIND and UNBIND (R130, R131): their checks in turn, and the entry each makes or unmakes. -/

namespace Sys2Proof.Machine

section
variable {s : State} {o : Origin} {rq : Intake}

/-! ## BIND -/

theorem freeBind?_of_lowest {i : BindNo} (hi : s.tu.binds[i] = none) (hlow : ∀ j : BindNo, j < i → s.tu.binds[j].isSome = true) :
    s.freeBind? = some i := by
  refine find_finRange_eq_some.mpr ⟨by rw [hi]; rfl, fun j hj => ?_⟩
  rw [Option.isNone_eq_false_iff]
  exact hlow j hj

theorem freeBind?_none (h : ∀ i : BindNo, s.tu.binds[i].isSome = true) : s.freeBind? = none := by
  refine List.find?_eq_none.mpr fun i _ => ?_
  rw [Bool.not_eq_true, Option.isNone_eq_false_iff]
  exact h i

theorem exec_bind (h : Takes s o .bind rq) : exec (.bind o) s =
    .next (answer ⟨o, rq⟩ (s.popIntake o) (serveBind ⟨o, rq⟩ (bindArgs rq.data) (s.popIntake o))) :=
  takeRequest_takes (fun tk s => answer tk s (serveBind tk (bindArgs tk.req.data) s)) h

/-- The pattern that a BIND gives: its match, restricted to its mask, and the mask (R129, R130). -/
def bindMask (d : List Byte) : Byte := oneByte (byteAt d 3)
def bindCode (d : List Byte) : Byte := oneByte (byteAt d 2) &&& bindMask d

/-- A BIND of known fields is left to the checks of a defined cue, of its owner and of an invalid entry, in the table without the
requester's entry of the pattern (R130). -/
theorem exec_bind_checked (h : Takes s o .bind rq) (hs : BindsSound s) {c : CueNo} {act : BindAction} {qual : Option FlagRef}
    (hc : byteAt rq.data 7 = c.val) (hact : bindAction? (byteAt rq.data 6) = some act)
    (hqual : flagRef? (byteAt rq.data 4) (byteAt rq.data 5) = some qual) :
    let cleared := s.unbindWhere (hasPattern o (bindCode rq.data) (bindMask rq.data))
    exec (.bind o) s = .next (answer ⟨o, rq⟩ (s.popIntake o)
      (found s.ce.cues[c] .notFound >>= fun cue => require (cue.owner ≠ o) .notOwner >>= fun _ =>
        found cleared.freeBind? .noRoom >>= fun i => .ok (served
          (cleared.setBind i (some ⟨o, bindCode rq.data, bindMask rq.data, qual, act, c⟩)) o rq .done false
          (s.samePattern? o (bindCode rq.data) (bindMask rq.data)).isSome [oneByte i.val]))) := by
  have hcue : fin? 24 (bindArgs rq.data).cue = some c := by rw [bindArgs, hc, fin?_val]
  have haction : bindAction? (bindArgs rq.data).action = some act := hact
  have hflag : flagRef? (bindArgs rq.data).qual.1 (bindArgs rq.data).qual.2 = some qual := hqual
  have hpopped : BindsSound (s.popIntake o) := hs
  simp only [← reply_popIntake]
  rw [exec_bind h, serveBind, hcue, found_some_bind, haction, found_some_bind, hflag, found_some_bind]
  simp only [unbindSame_eq hpopped]
  rfl

/-- The table without the requester's entry of the pattern, given entry by entry. -/
theorem unbindWhere_eq {p : BindEntry → Bool} {binds : Vector (Option BindEntry) 24}
    (h : ∀ i : BindNo, binds[i] = s.tu.binds[i].filter fun e => !p e) :
    s.unbindWhere p = { s with tu := { s.tu with binds := binds } } := by
  have hbinds : (s.unbindWhere p).tu.binds = binds := vec_ext fun i => (unbindWhere_bind ..).trans (h i).symm
  rw [← hbinds]
  rfl

/-! ## UNBIND -/

theorem exec_unbind (h : Takes s o .unbind rq) : exec (.unbind o) s =
    .next (answer ⟨o, rq⟩ (s.popIntake o) (serveUnbind ⟨o, rq⟩ (byteAt rq.data 2) (s.popIntake o))) :=
  takeRequest_takes (fun tk s => answer tk s (serveUnbind tk (byteAt tk.req.data 2) s)) h

/-- An UNBIND of an entry number is left to the checks of a valid entry and of its owner (R131). -/
theorem exec_unbind_checked (h : Takes s o .unbind rq) {i : BindNo} (hi : byteAt rq.data 2 = i.val) :
    exec (.unbind o) s = .next (answer ⟨o, rq⟩ (s.popIntake o)
      (found s.tu.binds[i] .notFound >>= fun e => require (decide (o ≠ e.owner ∧ o ≠ .service)) .notOwner >>= fun _ =>
        .ok (served (s.setBind i none) o rq .done false false []))) := by
  rw [exec_unbind h, serveUnbind, hi, fin?_val, found_some_bind, ← done_popIntake]
  rfl

end

/-- Settles O41: each request by its checks in turn. -/
theorem bindEntriesAreMadeAndUnmade : Obligations.BindEntriesAreMadeAndUnmade := by
  intro o s rq
  refine ⟨fun h hs c act qual hc hact hqual => ?_, fun h => ⟨fun hout => ?_, fun i hi => ?_⟩⟩
  · have hexec := exec_bind_checked h hs hc hact hqual
    dsimp only at hexec ⊢
    refine ⟨fun hnone => ?_, fun cue hcue => ⟨fun howner => ?_, fun howner binds replaced hbinds hreplaced => ?_⟩⟩
    · rw [hexec, hnone, found_none_bind, answer_error, refuse_popIntake]
    · rw [hexec, hcue, found_some_bind, decide_eq_true howner, require_true_bind, answer_error, refuse_popIntake]
    · have hsame : (s.samePattern? o (bindCode rq.data) (bindMask rq.data)).isSome = replaced :=
        Bool.eq_iff_iff.mpr (samePattern?_isSome.trans hreplaced.symm)
      have hcleared := unbindWhere_eq (p := hasPattern o (bindCode rq.data) (bindMask rq.data)) hbinds
      rw [hcue, found_some_bind, decide_eq_false (not_not.mpr howner), require_false_bind, hsame, hcleared] at hexec
      refine ⟨fun hfull => ?_, fun i hi hlow => ?_⟩
      · rw [hexec, freeBind?_none hfull, found_none_bind, answer_error, refuse_popIntake]
      · rw [hexec, freeBind?_of_lowest hi hlow]
        rfl
  · rw [exec_unbind h, serveUnbind, fin?_ge (by omega), found_none_bind, answer_error, refuse_popIntake]
  · rw [exec_unbind_checked h hi]
    refine ⟨fun hnone => ?_, fun e he => ⟨fun hne hservice => ?_, fun hown => ?_⟩⟩
    · rw [hnone, found_none_bind, answer_error, refuse_popIntake]
    all_goals rw [he, found_some_bind]
    · rw [decide_eq_true ⟨hne, hservice⟩, require_true_bind, answer_error, refuse_popIntake]
    · have hright : ¬(o ≠ e.owner ∧ o ≠ .service) := fun ⟨hne, hservice⟩ => hown.elim hne hservice
      rw [decide_eq_false hright, require_false_bind, answer_ok]

end Sys2Proof.Machine

/-! PROOF. Mirrored flags along every step (R117, R120, R125 to R127): one flag written, a line's record replaced, a flag given a
new writer, a level accepted. -/

namespace Sys2Proof.Machine

/-! ## One flag written -/

theorem flagValue_writeFlag (flags : BitVec 32) (f g : FlagNo) (v : Bool) :
    flagValue (writeFlag flags f v) g = if g = f then v else flagValue flags g := by
  have hbit : (BitVec.twoPow 32 f.val).getLsbD g.val = decide (g = f) := by
    rw [BitVec.getLsbD_twoPow, decide_eq_true f.isLt, Bool.true_and, decide_eq_decide, Fin.ext_iff, eq_comm]
  unfold flagValue writeFlag
  split
  · next hv => rw [BitVec.getLsbD_or, hbit, hv]; by_cases h : g = f <;> simp [h]
  · next hv => rw [BitVec.getLsbD_and, BitVec.getLsbD_not, hbit]; by_cases h : g = f <;> simp [h, hv]

theorem flagValue_mirrorFlag {m : Option FlagNo} {g : FlagNo} (h : m ≠ some g) (flags : BitVec 32) (v : Bool) :
    flagValue (mirrorFlag flags m v) g = flagValue flags g := by
  cases m with
  | none => rfl
  | some f =>
    refine (flagValue_writeFlag ..).trans (if_neg fun hg => h ?_)
    rw [hg]

theorem flagValue_mirrorFlag_self (flags : BitVec 32) (f : FlagNo) (v : Bool) :
    flagValue (mirrorFlag flags (some f) v) f = v := (flagValue_writeFlag ..).trans (if_pos rfl)

/-- A record replaced: its slot emptied, the former mirror cleared and the new one given the level (R117). -/
theorem replaceLine_eq (s : State) (t : LineNo) (x : Line) : s.replaceLine t x = { s with tu := { s.tu with
    lines := setAt s.tu.lines t x
    captures := setAt s.tu.captures t { s.tu.captures[t] with valid := false, missed := false }
    flags := mirrorFlag (mirrorFlag s.tu.flags s.tu.lines[t].mirrored false) x.mirrored x.level } } := by
  unfold State.replaceLine
  dsimp only
  rw [mirrorTo_eq, mirrorTo_eq]
  rfl

theorem storedMirror?_some {writers : Vector Writer 32} {t : LineNo} {mode : LineMode} {n : Nat} {m : Option FlagNo}
    (h : storedMirror? writers t mode n = some m) (hmode : mode = .level) :
    ∃ f : FlagNo, m = some f ∧ n = f.val ∧ writers[f] = .line t := by
  unfold storedMirror? mirror? at h
  rw [if_pos hmode, Option.map_eq_some_iff] at h
  obtain ⟨f, hf, rfl⟩ := h
  obtain ⟨hn, hw⟩ := Option.filter_eq_some_iff.mp hf
  refine ⟨f, rfl, ?_, beq_iff_eq.mp hw⟩
  unfold fin? at hn
  split at hn
  · rw [← Option.some.inj hn]
  · cases hn

/-! ## What the checks of SET_FLAG_OWNER find -/

theorem mirrored_eq_some {x : Line} {f : FlagNo} : x.mirrored = some f ↔ x.mode = .level ∧ x.mirror = some f := by
  unfold Line.mirrored
  split
  · next hmode => exact (and_iff_right hmode).symm
  · next hmode => exact iff_of_false nofun fun h => hmode h.1

theorem mirrorHeld_iff {s : State} {f : FlagNo} {w : Writer} : s.mirrorHeld f w = true ↔ ∃ t : LineNo,
    s.tu.writers[f] = .line t ∧ s.tu.lines[t].mode = .level ∧ s.tu.lines[t].mirror = some f ∧ w ≠ .line t := by
  unfold State.mirrorHeld
  split
  · next o ho => exact iff_of_false nofun fun ⟨t, ht, _⟩ => nomatch ho.symm.trans ht
  · next t ht =>
    rw [Bool.and_eq_true, beq_iff_eq, mirrored_eq_some, bne_iff_ne, and_assoc]
    refine ⟨fun h => ⟨t, ht, h⟩, fun ⟨k, hk, h⟩ => ?_⟩
    obtain rfl : t = k := Writer.line.inj (ht.symm.trans hk)
    exact h

theorem lineBusy_iff {s : State} {f : FlagNo} {w : Writer} : s.lineBusy f w = true ↔
    (∃ t, w = .line t) ∧ ∃ g : FlagNo, g ≠ f ∧ s.tu.writers[g] = w := by
  unfold State.lineBusy
  split
  · exact iff_of_false nofun fun ⟨⟨_, ht⟩, _⟩ => nomatch ht
  · next t =>
    simp only [List.any_eq_true, List.mem_finRange, true_and, Bool.and_eq_true, bne_iff_ne, beq_iff_eq]
    exact (and_iff_right ⟨t, rfl⟩).symm

/-! ## The law -/

/-- A line in mode LEVEL wakes nothing and mirrors into a flag that it writes (R117, checks 4 and 5). -/
def MirrorsInto (writers : Vector Writer 32) (t : LineNo) (x : Line) : Prop :=
  x.mode = .level → x.wake = false ∧ ∃ f : FlagNo, x.mirror = some f ∧ writers[f] = .line t

theorem MirrorsInto.writer {writers : Vector Writer 32} {t : LineNo} {x : Line} (h : MirrorsInto writers t x) {f : FlagNo}
    (hf : x.mirrored = some f) : writers[f] = .line t := by
  obtain ⟨hmode, hmirror⟩ := mirrored_eq_some.mp hf
  obtain ⟨-, g, hg, hw⟩ := h hmode
  rwa [Option.some.inj (hmirror.symm.trans hg)]

/-- A flag that one line writes is not the mirror of another. -/
theorem MirrorsInto.other {writers : Vector Writer 32} {t k : LineNo} {x : Line} (h : MirrorsInto writers t x) {f : FlagNo}
    (hw : writers[f] = .line k) (hk : k ≠ t) : x.mirrored ≠ some f :=
  fun hf => hk (Writer.line.inj (hw.symm.trans (h.writer hf)))

section
variable {s t : State} (hs : MirrorsSound s)
include hs

theorem MirrorsSound.into (k : LineNo) : MirrorsInto s.tu.writers k s.tu.lines[k] := fun hmode =>
  let ⟨hwake, f, hf, hw, _⟩ := hs.1 k hmode
  ⟨hwake, f, hf, hw⟩

theorem MirrorsSound.value {k : LineNo} {f : FlagNo} (h : s.tu.lines[k].mirrored = some f) :
    flagValue s.tu.flags f = s.tu.lines[k].level := by
  obtain ⟨hmode, hmirror⟩ := mirrored_eq_some.mp h
  obtain ⟨-, g, hg, -, hv⟩ := hs.1 k hmode
  rwa [Option.some.inj (hmirror.symm.trans hg)]

theorem MirrorsSound.of_triggers (hlines : t.tu.lines = s.tu.lines) (hflags : t.tu.flags = s.tu.flags)
    (hwriters : t.tu.writers = s.tu.writers) : MirrorsSound t := by
  unfold MirrorsSound
  rw [hlines, hflags, hwriters]
  exact hs

/-- The law reads of the flags only those that a line writes. -/
theorem MirrorsSound.of_flags (hlines : t.tu.lines = s.tu.lines) (hwriters : t.tu.writers = s.tu.writers)
    (hflags : ∀ (f : FlagNo) (k : LineNo), s.tu.writers[f] = .line k → flagValue t.tu.flags f = flagValue s.tu.flags f) :
    MirrorsSound t := by
  obtain ⟨hlevel, hone⟩ := hs
  unfold MirrorsSound
  rw [hlines, hwriters]
  refine ⟨fun k hk => ?_, hone⟩
  obtain ⟨hwake, f, hf, hw, hv⟩ := hlevel k hk
  exact ⟨hwake, f, hf, hw, (hflags f k hw).trans hv⟩

/-- A line's record changes, the flags that other lines write stay, and its own mirror has its level. -/
theorem MirrorsSound.changeLine {k : LineNo} {x : Line} (hlines : t.tu.lines = setAt s.tu.lines k x)
    (hwriters : t.tu.writers = s.tu.writers) (hx : MirrorsInto s.tu.writers k x)
    (hown : ∀ f, x.mirrored = some f → flagValue t.tu.flags f = x.level)
    (hflags : ∀ (f : FlagNo) (j : LineNo), s.tu.writers[f] = .line j → j ≠ k →
      flagValue t.tu.flags f = flagValue s.tu.flags f) : MirrorsSound t := by
  obtain ⟨hlevel, hone⟩ := hs
  unfold MirrorsSound
  rw [hlines, hwriters]
  refine ⟨fun j => ?_, hone⟩
  rw [setAt_get]
  split
  · next hj =>
    intro hmode
    obtain ⟨hwake, f, hf, hw⟩ := hx hmode
    exact ⟨hwake, f, hf, hj ▸ hw, hown f (mirrored_eq_some.mpr ⟨hmode, hf⟩)⟩
  · next hj =>
    intro hmode
    obtain ⟨hwake, f, hf, hw, hv⟩ := hlevel j hmode
    exact ⟨hwake, f, hf, hw, (hflags f j hw hj).trans hv⟩

/-- SET_LINE writes the flags of its own line alone (R117). -/
theorem MirrorsSound.replaceLine {k : LineNo} {x : Line} (hx : MirrorsInto s.tu.writers k x) :
    MirrorsSound (s.replaceLine k x) := by
  rw [replaceLine_eq]
  refine hs.changeLine rfl rfl hx (fun f hf => ?_) fun f j hw hj => ?_
  · dsimp only
    rw [hf, flagValue_mirrorFlag_self]
  · exact (flagValue_mirrorFlag (hx.other hw hj) ..).trans (flagValue_mirrorFlag ((hs.into k).other hw hj) ..)

/-- A raw change moves neither mode nor mirror nor debounced level (R118). -/
theorem MirrorsSound.setPending (k : LineNo) (raw : Bool) (p : Option PendingChange) :
    MirrorsSound (s.setLineRec k { s.tu.lines[k] with raw := raw, pendingChange := p }) :=
  hs.changeLine rfl rfl (hs.into k) (fun _ hf => hs.value hf) fun _ _ _ _ => rfl

/-- A LEVEL line's accepted level is mirrored at once, and a line in another mode has no mirror (R119, R120). -/
theorem MirrorsSound.acceptChange (k : LineNo) (level : Bool) : MirrorsSound (s.acceptChange k level) := by
  have htu := acceptChange_tu s k level
  have hflags : (s.acceptChange k level).tu.flags = mirrorFlag s.tu.flags s.tu.lines[k].mirrored level := by rw [htu]
  refine hs.changeLine (x := { s.tu.lines[k] with level := level, pendingChange := none }) (by rw [htu]) (by rw [htu])
    (hs.into k) (fun f hf => ?_) fun f j hw hj => ?_
  · have hold : s.tu.lines[k].mirrored = some f := hf
    rw [hflags, hold, flagValue_mirrorFlag_self]
  · rw [hflags]
    exact flagValue_mirrorFlag ((hs.into k).other hw hj) ..

/-- A flag given to another writer is no line's mirror, and its new writer writes no other (R127, checks 4 and 5). -/
theorem MirrorsSound.giveFlag {f : FlagNo} {w : Writer} (hheld : s.mirrorHeld f w = false) (hbusy : s.lineBusy f w = false) :
    MirrorsSound (s.giveFlag f w) := by
  rw [← Bool.not_eq_true, mirrorHeld_iff] at hheld
  rw [← Bool.not_eq_true, lineBusy_iff] at hbusy
  unfold State.giveFlag
  split
  · exact hs
  · next hother =>
    obtain ⟨hlevel, hone⟩ := hs
    have hwriter (g : FlagNo) : (setAt s.tu.writers f w)[g] = if g = f then w else s.tu.writers[g] := setAt_get ..
    have hnew {g : FlagNo} {k : LineNo} (hw : w = .line k) (hg : g ≠ f) : s.tu.writers[g] ≠ .line k := fun hgk =>
      hbusy ⟨⟨k, hw⟩, g, hg, hgk.trans hw.symm⟩
    refine ⟨fun k hmode => ?_, fun k a b ha hb => ?_⟩
    · obtain ⟨hwake, g, hg, hw, hv⟩ := hlevel k hmode
      have hgf : g ≠ f := by
        rintro rfl
        exact hheld ⟨k, hw, hmode, hg, fun hwk => hother (hw.trans hwk.symm)⟩
      refine ⟨hwake, g, hg, (hwriter g).trans ((if_neg hgf).trans hw), ?_⟩
      exact ((flagValue_writeFlag ..).trans (if_neg hgf)).trans hv
    · replace ha := (hwriter a).symm.trans ha
      replace hb := (hwriter b).symm.trans hb
      split at ha <;> split at hb
      · next haf hbf => exact haf.trans hbf.symm
      · next hbf => exact absurd hb (hnew ha hbf)
      · next haf _ => exact absurd ha (hnew hb haf)
      · exact hone k a b ha hb

/-- SET_FLAGS marks no flag that a line writes (R126, check 2). -/
theorem MirrorsSound.writeMarked {o : Origin} {mask : BitVec 32} (hown : s.marksForeign o mask = false) (values : BitVec 32) :
    MirrorsSound (s.setFlagBits (writeMarked s.tu.flags mask values)) := by
  refine hs.of_flags rfl rfl fun f k hw => ?_
  refine (writeMarked_getLsbD ..).trans (if_neg fun hmark => ?_)
  exact nomatch hw.symm.trans (marksForeign_iff.mp hown f hmark)

/-- FORGET clears the flags of an origin alone (R147, step 7). -/
theorem MirrorsSound.forget (q : Origin) : MirrorsSound (s.forget q) := by
  have hframe := forget_frame q s
  refine hs.of_flags (by rw [hframe]) (by rw [hframe]) fun f k hw => ?_
  rw [flagValue, forget_flag, hw]
  exact Bool.and_true _

end

/-! ## Every step -/

/-- After a reset every line is OFF and every flag is an origin's (R116, R125). -/
theorem mirrorsSound_fresh (strap : Fin 8) (raw : LineNo → Bool) (pending : List Instr) (n : Nat) :
    MirrorsSound (State.fresh strap raw pending n) := by
  refine ⟨fun k hmode => ?_, fun k f g hf => ?_⟩
  · rw [fresh_line] at hmode
    cases hmode
  · rw [fresh_writer] at hf
    split at hf
    · cases hf
    · split at hf <;> cases hf

theorem mirrorsSound_restarted (s : State) : MirrorsSound s.restarted :=
  (mirrorsSound_fresh s.mp.strap s.rawLevels s.pending s.freeCount).of_triggers rfl rfl rfl

/-- A request keeps the law when its owning block's work does. -/
theorem MirrorsSound.request {s : State} (hs : MirrorsSound s) {k : Option Kind} {o : Origin} {serve : Taken → State → Served}
    (hserve : ∀ tk u, MirrorsSound u → WhenServed MirrorsSound (serve tk u)) :
    WhenNext MirrorsSound (takeRequest k o s fun tk u => answer tk u (serve tk u)) :=
  whenNext_takeRequest hs hs (fun _ => hs) fun rq => answer_keeps (fun _ => hs) (hserve ⟨o, rq⟩ (s.popIntake o) hs)

/-- The commands that write the Trigger Unit keep the law, each by its own rule. -/
theorem exec_mirrorsSound (c : Instr) (hc : writesTriggers c = true) {s : State} (hs : MirrorsSound s) :
    WhenNext MirrorsSound (exec c s) := by
  cases c with
  | powerOn strap raw => exact whenNext_next.mpr (mirrorsSound_fresh ..)
  | resetPinRelease strap =>
    refine whenNext_next.mpr ?_
    split
    · exact mirrorsSound_fresh ..
    · exact hs
  | restart o =>
    simp only [exec, execRestart]
    refine hs.request fun tk u _ => ?_
    simp only [serveRestart, whenServed_bind, whenServed_pure]
    intros
    exact mirrorsSound_restarted u
  | setLine o =>
    simp only [exec, execSetLine]
    refine hs.request fun tk u hu => ?_
    simp only [serveSetLine, whenServed_bind, whenServed_pure, found_eq_ok, require_eq_ok, Bool.and_eq_false_iff,
      Bool.or_eq_false_iff, beq_eq_false_iff_ne]
    intro _ _ t _ mode _ policy _ wake _ _ hwake mirror hmirror
    refine hu.replaceLine fun hmode => ⟨hwake.resolve_right fun h => h.2 hmode, ?_⟩
    obtain ⟨f, hf, -, hw⟩ := storedMirror?_some hmirror hmode
    exact ⟨f, hf, hw⟩
  | setFlagOwner o =>
    simp only [exec, execSetFlagOwner]
    refine hs.request fun tk u hu => ?_
    simp only [serveSetFlagOwner, whenServed_bind, whenServed_pure, require_eq_ok]
    intro _ _ f _ w _ _ hheld _ hbusy
    exact hu.giveFlag hheld hbusy
  | setFlags o =>
    simp only [exec, execSetFlags]
    refine hs.request fun tk u hu => ?_
    simp only [serveSetFlags, whenServed_bind, whenServed_pure, require_eq_ok]
    intro _ _ _ hown
    exact hu.writeMarked hown _
  | deleteCue o =>
    simp only [exec, execDeleteCue]
    refine hs.request fun tk u hu => ?_
    simp only [serveDeleteCue, whenServed_bind, whenServed_pure]
    intro c _ x _ _ _
    have hdone : MirrorsSound (u.done tk []) := hu
    have hempty : MirrorsSound ((u.done tk []).emptyCue c x .stopped) :=
      hdone.of_triggers (by rw [emptyCue_tu]) (by rw [emptyCue_tu]) (by rw [emptyCue_tu])
    exact hempty
  | bind o =>
    simp only [exec, execBind]
    refine hs.request fun tk u hu => ?_
    simp only [serveBind, whenServed_bind, whenServed_pure]
    intros
    rw [unbindSame_frame]
    exact hu
  | unbind o =>
    simp only [exec, execUnbind]
    refine hs.request fun tk u hu => ?_
    simp only [serveUnbind, whenServed_bind, whenServed_pure]
    intros
    exact hu
  | readCapture o =>
    simp only [exec, execReadCapture]
    refine hs.request fun tk u hu => ?_
    simp only [serveReadCapture, whenServed_bind, whenServed_pure]
    intros
    exact hu
  | forget o =>
    simp only [exec, execForget]
    refine hs.request fun tk u hu => ?_
    simp only [serveForget, whenServed_bind, whenServed_pure]
    intro q _ _ _
    exact MirrorsSound.forget (s := u.done ..) hu q
  | lineRawChange t level =>
    change WhenNext MirrorsSound (execLineRawChange t level s)
    unfold execLineRawChange
    dsimp only
    split
    · exact whenNext_next.mpr hs
    · split
      · exact whenNext_next.mpr (hs.setPending t level _)
      · exact whenNext_next.mpr (hs.setPending t level _)
  | lineChangeAccepted t =>
    change WhenNext MirrorsSound (execLineChangeAccepted t s)
    unfold execLineChangeAccepted
    split
    · exact whenNext_next.mpr hs
    · exact whenNext_liveWhen hs fun _ _ => hs.acceptChange ..
  | wakeCompletion =>
    have htu := completeWake_tu s
    exact whenNext_liveWhen hs fun _ _ => hs.of_triggers (by rw [htu]) (by rw [htu]) (by rw [htu])
  | _ => cases hc

/-- Settles O15: the commands that write the Trigger Unit move a mirrored flag with its line's level, and no other command reads or
writes either. -/
theorem stepsKeepMirrorFlagsAtTheirLines : Obligations.StepsKeepMirrorFlagsAtTheirLines := by
  refine keptByStep_of_exec (fun s q hs => hs) (fun s hs => hs) fun c s hs => ?_
  cases hc : writesTriggers c with
  | true => exact exec_mirrorsSound c hc hs
  | false =>
    intro t ht
    have htu : t.tu = s.tu := exec_sameTriggers c hc s t ht
    exact hs.of_triggers (by rw [htu]) (by rw [htu]) (by rw [htu])

end Sys2Proof.Machine

/-! PROOF. SET_LINE and SET_FLAG_OWNER (R117, R127): their checks in turn, the record that SET_LINE writes and the flag that
SET_FLAG_OWNER moves. -/

namespace Sys2Proof.Machine

section
variable {s : State} {o : Origin} {rq : Intake}

/-! ## SET_LINE -/

theorem exec_setLine (h : Takes s o .setLine rq) : exec (.setLine o) s =
    .next (answer ⟨o, rq⟩ (s.popIntake o) (serveSetLine ⟨o, rq⟩ (setLineArgs rq.data) (s.popIntake o))) :=
  takeRequest_takes (fun tk s => answer tk s (serveSetLine tk (setLineArgs tk.req.data) s)) h

/-- The record that a SET_LINE writes: its durations in range, its level the pin's (R117). -/
def lineOf (d : List Byte) (mode : LineMode) (policy : CapturePolicy) (wake : Bool) (mirror : Option FlagNo) (raw : Bool) :
    Line :=
  ⟨mode, clampDebounce (byteAt d 4), wake, policy, clampWindow (leAt d 7 2), mirror, raw, none, raw⟩

theorem lineDurations_clamped (debounce window : Nat) :
    (clampDebounce debounce != debounce || clampWindow window != window) =
      decide (50 < debounce ∨ window = 0 ∨ 10000 < window) := by
  rw [Bool.eq_iff_iff, Bool.or_eq_true, bne_iff_ne, bne_iff_ne, decide_eq_true_eq]
  unfold clampDebounce clampWindow
  omega

/-- A SET_LINE of known fields is left to the checks of its wake field and of its mirror flag (R117, checks 4 and 5). -/
theorem exec_setLine_checked (h : TakesConfig s o .setLine rq) {t : LineNo} {mode : LineMode} {policy : CapturePolicy}
    {wake : Bool} (ht : byteAt rq.data 2 = t.val) (hmode : lineMode? (byteAt rq.data 3) = some mode)
    (hpolicy : capturePolicy? (byteAt rq.data 6) = some policy) (hwake : yesNo? (byteAt rq.data 5) = some wake) :
    exec (.setLine o) s = .next (answer ⟨o, rq⟩ (s.popIntake o)
      (require (wake && (mode == .off || mode == .level)) .badValue >>= fun _ =>
        found (storedMirror? s.tu.writers t mode (byteAt rq.data 9)) .badValue >>= fun mirror =>
        .ok (served (s.replaceLine t (lineOf rq.data mode policy wake mirror s.tu.lines[t].raw)) o rq .done
          (decide (50 < byteAt rq.data 4 ∨ leAt rq.data 7 2 = 0 ∨ 10000 < leAt rq.data 7 2)) false []))) := by
  obtain ⟨htakes, ho, hs⟩ := h
  have hline : fin? 8 (setLineArgs rq.data).line = some t := by rw [setLineArgs, ht, fin?_val]
  have hmode' : lineMode? (setLineArgs rq.data).mode = some mode := hmode
  have hpolicy' : capturePolicy? (setLineArgs rq.data).policy = some policy := hpolicy
  have hwake' : yesNo? (setLineArgs rq.data).wake = some wake := hwake
  simp only [← reply_popIntake, ← lineDurations_clamped, replaceLine_eq]
  rw [exec_setLine htakes, serveSetLine, configChecks_bind ho hs, hline, found_some_bind, hmode', found_some_bind, hpolicy',
    found_some_bind, hwake', found_some_bind]
  simp only [replaceLine_eq]
  rfl

/-- A mirror flag that the line writes is stored in mode LEVEL, and none in another mode (R117). -/
theorem storedMirror?_eq {writers : Vector Writer 32} {t : LineNo} {mode : LineMode} {n : Nat} {mirror : Option FlagNo}
    (hnone : mode ≠ .level → mirror = none)
    (hsome : mode = .level → ∃ f : FlagNo, mirror = some f ∧ n = f.val ∧ writers[f] = .line t) :
    storedMirror? writers t mode n = some mirror := by
  unfold storedMirror? mirror?
  split
  · next hmode =>
    obtain ⟨f, rfl, rfl, hw⟩ := hsome hmode
    rw [fin?_val, Option.filter_some, if_pos (beq_iff_eq.mpr hw), Option.map_some]
  · next hmode => rw [hnone hmode]

/-- In a mode other than LEVEL a line of SET_LINE stores no mirror flag, so it mirrors the one it stores (R117). -/
theorem lineOf_mirrored {d : List Byte} {mode : LineMode} {policy : CapturePolicy} {wake raw : Bool} {mirror : Option FlagNo}
    (hnone : mode ≠ .level → mirror = none) : (lineOf d mode policy wake mirror raw).mirrored = mirror := by
  unfold Line.mirrored
  split
  · rfl
  · next hmode => exact (hnone hmode).symm

end

/-- Settles O35: the check of the wake field, and the record written with the flags of its old and its new mirror. -/
theorem setLineReplacesTheLine : Obligations.SetLineReplacesTheLine := by
  intro o s rq t mode policy wake mirror h ht hmode hwake hpolicy debounce window raw
  have hexec := exec_setLine_checked h ht hmode hpolicy hwake
  refine ⟨fun hyes hidle => ?_, fun hno hnone hsome => ?_⟩
  · have hbad : (wake && (mode == .off || mode == .level)) = true := by
      rwa [hyes, Bool.true_and, Bool.or_eq_true, beq_iff_eq, beq_iff_eq]
    rw [hexec, hbad, require_true_bind, answer_error, refuse_popIntake]
  · have hgood : (wake && (mode == .off || mode == .level)) = false := by
      rw [Bool.and_eq_false_imp, Bool.or_eq_false_iff]
      exact fun hyes => ⟨beq_eq_false_iff_ne.mpr (hno hyes).1, beq_eq_false_iff_ne.mpr (hno hyes).2⟩
    rw [hexec, hgood, require_false_bind, storedMirror?_eq hnone hsome, found_some_bind, answer_ok, replaceLine_eq,
      lineOf_mirrored hnone]
    split
    · next f hlevel hmirror =>
      rw [mirrored_eq_some.mpr ⟨hlevel, hmirror⟩]
      cases mirror <;> rfl
    · next hold =>
      have hfree : s.tu.lines[t].mirrored = none :=
        Option.eq_none_iff_forall_ne_some.mpr fun f hf =>
          let ⟨hlevel, hmirror⟩ := mirrored_eq_some.mp hf
          hold f hlevel hmirror
      rw [hfree]
      cases mirror <;> rfl

/-! ## SET_FLAG_OWNER -/

section
variable {s : State} {o : Origin} {rq : Intake}

theorem exec_setFlagOwner (h : Takes s o .setFlagOwner rq) : exec (.setFlagOwner o) s =
    .next (answer ⟨o, rq⟩ (s.popIntake o) (serveSetFlagOwner ⟨o, rq⟩ (setFlagOwnerArgs rq.data) (s.popIntake o))) :=
  takeRequest_takes (fun tk s => answer tk s (serveSetFlagOwner tk (setFlagOwnerArgs tk.req.data) s)) h

theorem popIntake_giveFlag (s : State) (o : Origin) (f : FlagNo) (w : Writer) :
    (s.popIntake o).giveFlag f w = (s.giveFlag f w).popIntake o := by
  unfold State.giveFlag
  rw [show (s.popIntake o).tu = s.tu from rfl]
  split <;> rfl

/-- A SET_FLAG_OWNER of known fields is left to the two checks for an overlap (R127, checks 4 and 5). -/
theorem exec_setFlagOwner_checked (h : TakesConfig s o .setFlagOwner rq) {f : FlagNo} {w : Writer}
    (hf : byteAt rq.data 2 = f.val) (hw : writer? (byteAt rq.data 3) (byteAt rq.data 4) = some w) :
    exec (.setFlagOwner o) s = .next (answer ⟨o, rq⟩ (s.popIntake o)
      (require (s.mirrorHeld f w || s.lineBusy f w) .overlap >>= fun _ =>
        .ok (served (s.giveFlag f w) o rq .done false false []))) := by
  obtain ⟨htakes, ho, hs⟩ := h
  have hflag : fin? 32 (setFlagOwnerArgs rq.data).flag = some f := by rw [setFlagOwnerArgs, hf, fin?_val]
  have hwriter : writer? (setFlagOwnerArgs rq.data).writerKind (setFlagOwnerArgs rq.data).writer = some w := hw
  rw [exec_setFlagOwner htakes, serveSetFlagOwner, configChecks_bind ho hs, hflag, found_some_bind, hwriter, found_some_bind,
    ← require_require, ← done_popIntake, ← popIntake_giveFlag]
  rfl

end

/-- Settles O36: refused by either check, or given to its writer. -/
theorem setFlagOwnerMovesTheFlag : Obligations.SetFlagOwnerMovesTheFlag := by
  intro o s rq f w h hf hw mirrored busy
  have hexec := exec_setFlagOwner_checked h hf hw
  have hoverlap : (s.mirrorHeld f w || s.lineBusy f w) = true ↔ mirrored ∨ busy := by
    rw [Bool.or_eq_true, mirrorHeld_iff, lineBusy_iff]
  refine ⟨fun hbad => ?_, fun hgood hsame => ?_, fun hgood hother => ?_⟩
  · rw [hexec, hoverlap.mpr hbad, require_true_bind, answer_error, refuse_popIntake]
  all_goals rw [hexec, Bool.eq_false_iff.mpr (hoverlap.not.mpr hgood), require_false_bind, answer_ok, State.giveFlag]
  · rw [if_pos hsame]
  · rw [if_neg hother]
    rfl

end Sys2Proof.Machine

/-! PROOF. The lines (R118 to R121, R124, R192): a raw change, an accepted change by the line's mode, the capture slot, and an
edge's code by the part state. -/

namespace Sys2Proof.Machine

section
variable (s : State)

/-! ## What a notice, a wake event and a wake list pair leave of the part state -/

@[simp] theorem notifyAll_ps (n : Notice) : (s.notifyAll n).ps = s.ps := by rw [notifyAll_frame]

@[simp] theorem matchCode_ps (src : CodeSource) (code : Byte) (stamp : Time) : (s.matchCode src code stamp).ps = s.ps := by
  have h := StartsFrame.matchCode s src code stamp
  unfold StartsFrame at h
  rw [h]

/-- A wake event moves nothing but the part state. -/
theorem wakeEvent_with_ps : { s.wakeEvent with ps := s.ps } = s := by
  unfold State.wakeEvent
  split <;> rfl

theorem wakeEvent_ps : s.wakeEvent.ps =
    if s.ps.state = .asleep then ⟨.waking, s.ps.resetHeld, some s.sc.local'⟩ else s.ps := by
  unfold State.wakeEvent
  split
  · next h => rw [if_pos h]
  · next h => rw [if_neg h]

theorem addWake_frame (t : LineNo) (e : EdgeKind) (stamp : Time) :
    (s.addWake t e stamp).ps = s.ps ∧ (s.addWake t e stamp).sc = s.sc := by
  unfold State.addWake State.seeUnmatched
  split
  · exact ⟨rfl, rfl⟩
  · rw [notifyAll_frame]
    exact ⟨rfl, rfl⟩

end

/-! ## An edge's code by the part state (R124, R192) -/

section
variable {s : State} {t : LineNo} (e : EdgeKind) (stamp : Time)

/-- An edge of this line joins the wake list: in WAKING of any line, in ASLEEP of a wake line. -/
def JoinsWakeList (s : State) (t : LineNo) : Prop :=
  s.ps.state = .waking ∨ s.ps.state = .asleep ∧ s.tu.lines[t].wake = true

theorem addWake_room (h : s.tu.wakeList.length < 8) :
    s.addWake t e stamp = s.setWakeList (s.tu.wakeList ++ [⟨edgeCode t e, stamp, t⟩]) := if_pos h

theorem addWake_full (h : 8 ≤ s.tu.wakeList.length) :
    s.addWake t e stamp = s.seeUnmatched (.line t e) (edgeCode t e) stamp := if_neg (Nat.not_lt.mpr h)

theorem handleEdge_running (h : Running s) :
    s.handleEdge t e stamp = s.matchCode (.line t e) (edgeCode t e) stamp := by
  unfold State.handleEdge
  cases h with
  | inl hrun => rw [hrun]
  | inr hsettling => rw [hsettling]

theorem handleEdge_unmatched (h : s.ps.state = .setup ∨ s.ps.state = .asleep ∧ s.tu.lines[t].wake = false) :
    s.handleEdge t e stamp = s.seeUnmatched (.line t e) (edgeCode t e) stamp := by
  unfold State.handleEdge
  cases h with
  | inl hsetup => rw [hsetup]
  | inr hasleep =>
    obtain ⟨hstate, hwake⟩ := hasleep
    rw [hstate, hwake]
    rfl

theorem handleEdge_joins (h : JoinsWakeList s t) : s.handleEdge t e stamp = (s.addWake t e stamp).wakeEvent := by
  unfold State.handleEdge
  cases h with
  | inl hwaking =>
    have hkept : (s.addWake t e stamp).ps.state = .waking := by rw [(addWake_frame ..).1, hwaking]
    rw [hwaking, State.wakeEvent, hkept]
  | inr hasleep =>
    obtain ⟨hstate, hwake⟩ := hasleep
    rw [hstate, hwake]
    rfl

/-- But for the part state, an edge that joins the wake list does what `addWake` does. -/
theorem handleEdge_joins_with_ps (h : JoinsWakeList s t) :
    { s.handleEdge t e stamp with ps := s.ps } = s.addWake t e stamp := by
  rw [handleEdge_joins e stamp h, ← (addWake_frame s t e stamp).1, wakeEvent_with_ps]

/-- But for the part state, an edge only reports its code in SETUP, in ASLEEP on another line, and at a full wake list. -/
theorem handleEdge_reported (h : s.ps.state = .setup ∨ s.ps.state = .asleep ∧ s.tu.lines[t].wake = false ∨
      JoinsWakeList s t ∧ 8 ≤ s.tu.wakeList.length) :
    { s.handleEdge t e stamp with ps := s.ps } = s.seeUnmatched (.line t e) (edgeCode t e) stamp := by
  rcases or_assoc.mpr h with hunmatched | ⟨hjoins, hfull⟩
  · rw [handleEdge_unmatched e stamp hunmatched, State.seeUnmatched, notifyAll_frame]
  · rw [handleEdge_joins_with_ps e stamp hjoins, addWake_full e stamp hfull]

/-- An edge of a wake line wakes the part from ASLEEP, and no other edge moves the part state. -/
theorem handleEdge_ps : (s.handleEdge t e stamp).ps =
    if s.ps.state = .asleep ∧ s.tu.lines[t].wake = true then ⟨.waking, s.ps.resetHeld, some s.sc.local'⟩ else s.ps := by
  by_cases hjoins : JoinsWakeList s t
  · obtain ⟨hps, hsc⟩ := addWake_frame s t e stamp
    rw [handleEdge_joins e stamp hjoins, wakeEvent_ps, hps, hsc]
    refine if_congr ⟨fun hasleep => ⟨hasleep, ?_⟩, And.left⟩ rfl rfl
    exact (hjoins.resolve_left (by rw [hasleep]; decide)).2
  · obtain ⟨hwaking, hasleep⟩ := not_or.mp hjoins
    rw [if_neg hasleep]
    unfold State.handleEdge State.seeUnmatched
    cases hstate : s.ps.state with
    | run | settling => exact matchCode_ps ..
    | setup => exact notifyAll_ps ..
    | waking => exact absurd hstate hwaking
    | asleep =>
      dsimp only
      rw [if_neg fun hwake => hasleep ⟨hstate, hwake⟩]
      exact notifyAll_ps ..

end

/-! ## Edges and the capture slot (R119, R121) -/

theorem isEdge_iff {mode : LineMode} {level : Bool} :
    isEdge mode level = true ↔ mode = .both ∨ mode = .rise ∧ level = true ∨ mode = .fall ∧ level = false := by
  cases mode <;> simp [isEdge]

theorem edgeCode_edgeTo (t : LineNo) (level : Bool) :
    edgeCode t (edgeTo level) = oneByte ((if level = true then 0xF0 else 0xF8) + t.val) := by
  cases level <;> rfl

theorem fills_iff {x : Line} {now : Time} {c : Capture} : fills x now c = true ↔
    c.valid = false ∨ x.policy = .overwrite ∨ x.policy = .holdTimed ∧ x.window * 1000 < (now - c.fill).toNat := by
  unfold fills localSince
  cases x.policy <;> simp

/-! ## The commands on a line -/

section
variable {s : State} {t : LineNo}

/-- The state with a line's pending change accepted as its level (R118). -/
def State.levelAccepted (s : State) (t : LineNo) (level : Bool) : State :=
  s.setLineRec t { s.tu.lines[t] with level := level, pendingChange := none }

/-- The state with an edge offered to the line's slot, before its code is handled (R121). -/
def State.edgeOffered (s : State) (t : LineNo) (level : Bool) : State :=
  (s.levelAccepted t level).setCapture t (offered s.tu.lines[t] s.sc.local' (edgeTo level) s.sc.scene s.tu.captures[t])

theorem levelAccepted_line (s : State) (t : LineNo) (level : Bool) : (s.levelAccepted t level).tu.lines[t] =
    { s.tu.lines[t] with level := level, pendingChange := none } :=
  (setAt_get ..).trans (if_pos rfl)

theorem execLineRawChange_same {level : Bool} (h : level = s.tu.lines[t].raw) :
    exec (.lineRawChange t level) s = .next s := if_pos h.symm

theorem execLineRawChange_moved (hr : s.ps.resetHeld = false) {level : Bool} (h : level ≠ s.tu.lines[t].raw) :
    exec (.lineRawChange t level) s = .next (s.setLineRec t (rawChanged s.sc.local' level s.tu.lines[t])) := by
  refine (if_neg h.symm).trans (if_neg ?_)
  rw [hr]
  exact Bool.false_ne_true

theorem execLineChangeAccepted_none (h : s.tu.lines[t].pendingChange = none) :
    exec (.lineChangeAccepted t) s = .next s := by
  change execLineChangeAccepted t s = _
  rw [execLineChangeAccepted, h]

theorem execLineChangeAccepted_early {p : PendingChange} (h : s.tu.lines[t].pendingChange = some p)
    (hearly : (s.sc.local' - p.since).toNat < s.tu.lines[t].debounce * 1000) :
    exec (.lineChangeAccepted t) s = .next s := by
  have hdue : changeDue s.sc.local' s.tu.lines[t] = false := by
    rw [changeDue, h]
    exact decide_eq_false (Nat.not_le.mpr hearly)
  change execLineChangeAccepted t s = _
  rw [execLineChangeAccepted, h, hdue]
  exact liveWhen_false ..

theorem execLineChangeAccepted_due (hr : s.ps.resetHeld = false) {p : PendingChange}
    (h : s.tu.lines[t].pendingChange = some p)
    (hstood : s.tu.lines[t].debounce * 1000 ≤ (s.sc.local' - p.since).toNat) :
    exec (.lineChangeAccepted t) s = .next (s.acceptChange t p.level) := by
  have hdue : changeDue s.sc.local' s.tu.lines[t] = true := by
    rw [changeDue, h]
    exact decide_eq_true hstood
  change execLineChangeAccepted t s = _
  rw [execLineChangeAccepted, h, hdue]
  exact liveWhen_true _ hr

theorem acceptChange_level {f : FlagNo} (level : Bool) (hmode : s.tu.lines[t].mode = .level)
    (hmirror : s.tu.lines[t].mirror = some f) :
    s.acceptChange t level = (s.levelAccepted t level).setFlagBits (writeFlag s.tu.flags f level) := by
  refine (if_pos hmode).trans ?_
  change (s.levelAccepted t level).mirrorTo s.tu.lines[t].mirror level = _
  rw [hmirror]
  rfl

theorem acceptChange_notEdge {level : Bool} (hmode : s.tu.lines[t].mode ≠ .level)
    (hedge : isEdge s.tu.lines[t].mode level = false) : s.acceptChange t level = s.levelAccepted t level := by
  refine (if_neg hmode).trans (if_neg ?_)
  rw [hedge]
  exact Bool.false_ne_true

theorem acceptChange_edge {level : Bool} (hedge : isEdge s.tu.lines[t].mode level = true) :
    s.acceptChange t level = (s.edgeOffered t level).handleEdge t (edgeTo level) s.sc.scene := by
  have hmode : s.tu.lines[t].mode ≠ .level := fun h => by
    rw [h] at hedge
    cases hedge
  refine ((if_neg hmode).trans (if_pos hedge)).trans ?_
  change ((s.levelAccepted t level).setCapture t (offered (s.levelAccepted t level).tu.lines[t] ..)).handleEdge .. = _
  rw [levelAccepted_line]
  rfl

theorem edgeOffered_wake (s : State) (t : LineNo) (level : Bool) :
    (s.edgeOffered t level).tu.lines[t].wake = s.tu.lines[t].wake := by
  change (s.levelAccepted t level).tu.lines[t].wake = _
  rw [levelAccepted_line]

theorem JoinsWakeList.offered (h : JoinsWakeList s t) (level : Bool) : JoinsWakeList (s.edgeOffered t level) t := by
  unfold JoinsWakeList
  rw [edgeOffered_wake]
  exact h

end

/-- Settles O51: each command by its guard, and an accepted edge by its slot's policy and then by the part state. -/
theorem lineChangesAreDebouncedAndCaptured : Obligations.LineChangesAreDebouncedAndCaptured := by
  intro t s hr x
  refine ⟨fun level => execLineRawChange_same, fun level => execLineRawChange_moved hr, execLineChangeAccepted_none,
    fun p hp => ⟨execLineChangeAccepted_early hp, fun hstood => ?_⟩⟩
  have hexec := execLineChangeAccepted_due hr hp hstood
  intro s1 c edge code isOne takes
  refine ⟨fun hmode f hf => ?_, fun hmode hedge => ?_, fun hedge => ?_⟩
  · rw [hexec, acceptChange_level p.level hmode hf]
    rfl
  · rw [hexec, acceptChange_notEdge hmode (Bool.eq_false_iff.mpr (isEdge_iff.not.mpr hedge))]
    rfl
  · rw [acceptChange_edge (isEdge_iff.mpr hedge)] at hexec
    rw [show edge = edgeTo p.level from rfl, show code = edgeCode t (edgeTo p.level) from (edgeCode_edgeTo ..).symm]
    have hwake : (s.edgeOffered t p.level).tu.lines[t].wake = x.wake := edgeOffered_wake ..
    refine ⟨s.edgeOffered t p.level, fun hfills => ?_, fun hfull => ?_, fun hrun => ?_, fun hreported => ?_,
      fun hjoins hroom => ?_, fun u hu => ?_⟩
    · rw [State.edgeOffered, offered, if_pos (fills_iff.mpr hfills)]
      rfl
    · rw [State.edgeOffered, offered, if_neg (fills_iff.not.mpr hfull)]
      rfl
    · rw [hexec, handleEdge_running (s := s.edgeOffered t p.level) _ _ hrun]
    · refine ⟨_, hexec, handleEdge_reported (s := s.edgeOffered t p.level) _ _ ?_⟩
      rw [hwake]
      exact hreported.imp_right (Or.imp_right (And.imp_left fun hjoins => JoinsWakeList.offered hjoins p.level))
    · have hjoined := JoinsWakeList.offered hjoins p.level
      exact ⟨_, hexec, (handleEdge_joins_with_ps _ _ hjoined).trans (addWake_room _ _ hroom)⟩
    · obtain rfl := Host.Outcome.next.inj (hexec.symm.trans hu)
      rw [handleEdge_ps, hwake]
      rfl

end Sys2Proof.Machine

/-! PROOF. SET_ORIGIN: the fields it stores and the two checks it makes against the other origins (R136, R137, R138). -/

namespace Sys2Proof.Machine

/-! ## Ranges that share no number (R136, check 5) -/

theorem rangesShare_eq_false {first last first' last' : Nat} :
    rangesShare first last first' last' = false ↔ last < first' ∨ last' < first := by
  simp only [rangesShare, Bool.and_eq_false_iff, decide_eq_false_iff_not]
  omega

/-- The ranges of the request lie apart from those of every origin but `q`. -/
def RangesApart (s : State) (q : Origin) (a : SetOriginArgs) : Prop := ∀ p, p ≠ q →
  (a.keyLast < (s.originRec p).keyFirst ∨ (s.originRec p).keyLast < a.keyFirst) ∧
  (a.patLast < (s.originRec p).patFirst ∨ (s.originRec p).patLast < a.patFirst)

theorem origin_mem_all (p : Origin) : p ∈ Origin.all := by cases p <;> decide

theorem rangesTaken_eq_false {s : State} {q : Origin} {a : SetOriginArgs} :
    rangesTaken s q a = false ↔ RangesApart s q a := by
  rw [rangesTaken, List.any_eq_false]
  refine forall_congr' fun p => ?_
  rw [Bool.not_eq_true, Bool.and_eq_false_iff, Bool.or_eq_false_iff, rangesShare_eq_false, rangesShare_eq_false,
    bne_eq_false_iff_eq, or_iff_not_imp_left]
  exact ⟨fun h => h (origin_mem_all p), fun h _ => h⟩

/-! ## The request -/

/-- The fields name origin `q`, a tier, the time-source mark and four windows, and the numbers lie in their ranges
(R136, checks 3 and 4). -/
structure OriginFields (a : SetOriginArgs) (q : Origin) (tier : Tier) (mark : Bool) (ws : List Window) : Prop where
  origin : a.origin = q.idx.val
  tier : a.maxTier = tier.val
  mark : yesNo? a.timeSource = some mark
  reserve : a.reserve ≤ a.limit
  limit : a.limit ≤ 16
  windows : a.windows.map window? = ws.map some
  keyOrder : a.keyFirst ≤ a.keyLast
  keyLast : a.keyLast ≤ 1023
  patOrder : a.patFirst ≤ a.patLast
  patLast : a.patLast ≤ 4095

/-- The state with the record of `q` replaced by the request's, and `q` the time source when marked (R136, R137). -/
def originReplaced (s : State) (q : Origin) (tier : Tier) (mark : Bool) (ws : List Window) (a : SetOriginArgs) : State :=
  { s with ot := { s.ot with
      recs := setAt s.ot.recs q.idx
        ⟨tier, a.reserve, a.limit, fourWindows ws, a.keyFirst, a.keyLast, a.patFirst, a.patLast⟩
      timeSource := if mark then q else s.ot.timeSource } }

section
variable {s : State} {o q : Origin} {rq : Intake} {tier : Tier} {mark : Bool} {ws : List Window}

theorem exec_setOrigin (h : Takes s o .setOrigin rq) : exec (.setOrigin o) s =
    .next (answer ⟨o, rq⟩ (s.popIntake o) (serveSetOrigin ⟨o, rq⟩ (setOriginArgs rq.data) (s.popIntake o))) :=
  takeRequest_takes (fun tk s => answer tk s (serveSetOrigin tk (setOriginArgs tk.req.data) s)) h

/-- Fields of their kind leave the two checks against the other origins. -/
theorem serveSetOrigin_checks {a : SetOriginArgs} (ho : Configures o) (hs : s.ps.state = .setup)
    (ha : OriginFields a q tier mark ws) : serveSetOrigin ⟨o, rq⟩ a (s.popIntake o) =
      (require (decide (a.reserve + otherReserves s q > 16)) .badValue >>= fun _ =>
        require (rangesTaken s q a) .overlap >>= fun _ =>
        .ok (served (originReplaced s q tier mark ws a) o rq .done false false [])) := by
  have hlimit : decide (a.limit > 16 ∨ a.reserve > a.limit) = false :=
    decide_eq_false (not_or.mpr ⟨Nat.not_lt.mpr ha.limit, Nat.not_lt.mpr ha.reserve⟩)
  have hkeys : decide (a.keyLast > 1023 ∨ a.keyFirst > a.keyLast) = false :=
    decide_eq_false (not_or.mpr ⟨Nat.not_lt.mpr ha.keyLast, Nat.not_lt.mpr ha.keyOrder⟩)
  have hpats : decide (a.patLast > 4095 ∨ a.patFirst > a.patLast) = false :=
    decide_eq_false (not_or.mpr ⟨Nat.not_lt.mpr ha.patLast, Nat.not_lt.mpr ha.patOrder⟩)
  rw [serveSetOrigin, configChecks_bind ho hs, ha.origin, ofNat?_idx, found_some_bind, ha.tier, fin?_val, found_some_bind,
    hlimit, require_false_bind, allFound_eq_some.mpr ha.windows, found_some_bind, ha.mark, found_some_bind, hkeys,
    require_false_bind, hpats, require_false_bind, ← done_popIntake]
  rfl

variable (h : TakesConfig s o .setOrigin rq) (ha : OriginFields (setOriginArgs rq.data) q tier mark ws)
include h ha

theorem exec_setOrigin_badValue (hsum : (setOriginArgs rq.data).reserve + otherReserves s q > 16) :
    exec (.setOrigin o) s = .next (turnedAway s o rq .badValue) := by
  obtain ⟨ht, ho, hs⟩ := h
  rw [exec_setOrigin ht, serveSetOrigin_checks ho hs ha, decide_eq_true hsum, require_true_bind, answer_error,
    refuse_popIntake]

theorem exec_setOrigin_overlap (hsum : (setOriginArgs rq.data).reserve + otherReserves s q ≤ 16)
    (hapart : ¬RangesApart s q (setOriginArgs rq.data)) :
    exec (.setOrigin o) s = .next (turnedAway s o rq .overlap) := by
  obtain ⟨ht, ho, hs⟩ := h
  have htaken : rangesTaken s q (setOriginArgs rq.data) = true :=
    (Bool.not_eq_false _).mp (rangesTaken_eq_false.not.mpr hapart)
  rw [exec_setOrigin ht, serveSetOrigin_checks ho hs ha, decide_eq_false (Nat.not_lt.mpr hsum), require_false_bind, htaken,
    require_true_bind, answer_error, refuse_popIntake]

theorem exec_setOrigin_replaced (hsum : (setOriginArgs rq.data).reserve + otherReserves s q ≤ 16)
    (hapart : RangesApart s q (setOriginArgs rq.data)) : exec (.setOrigin o) s =
      .next (served (originReplaced s q tier mark ws (setOriginArgs rq.data)) o rq .done false false []) := by
  obtain ⟨ht, ho, hs⟩ := h
  rw [exec_setOrigin ht, serveSetOrigin_checks ho hs ha, decide_eq_false (Nat.not_lt.mpr hsum), require_false_bind,
    rangesTaken_eq_false.mpr hapart, require_false_bind, answer_ok]

end

/-- Settles O32: fields of their kind pass the earlier checks, and the reserves and the ranges decide. -/
theorem setOriginReplacesTheRecord : Obligations.SetOriginReplacesTheRecord := by
  intro o q s rq tier mark ws h a horigin htier hmark hreserve hlimit hwindows hkeyOrder hkeyLast hpatOrder hpatLast
  have ha : OriginFields a q tier mark ws :=
    ⟨horigin, htier, hmark, hreserve, hlimit, hwindows, hkeyOrder, hkeyLast, hpatOrder, hpatLast⟩
  exact ⟨exec_setOrigin_badValue h ha, exec_setOrigin_overlap h ha, exec_setOrigin_replaced h ha⟩

end Sys2Proof.Machine

/-! PROOF. The zones an origin can target, HOLD_ZONE and RELEASE_ZONE (R139, R142, R143, R144). -/

namespace Sys2Proof.Machine

/-! ## Targetable zones (R139) -/

theorem inWindows_iff {r : OriginRec} {lam : LampNo} : inWindows r lam = true ↔ ∃ k : Fin 4,
    r.windows[k].enabled = true ∧ r.windows[k].first ≤ lam.val ∧ lam.val ≤ r.windows[k].last := by
  rw [inWindows, vec_toList, List.any_map, List.any_eq_true]
  simp only [List.mem_finRange, true_and, Function.comp_apply, Bool.and_eq_true, decide_eq_true_eq]

theorem targetable_iff {s : State} {o : Origin} {z : ZoneNo} : s.targetable o z = true ↔
    s.co.zones[z].isSome = true ∧
      ∀ lam : LampNo, inZone s.co.zones z lam = true → inWindows (s.originRec o) lam = true := by
  rw [State.targetable, Bool.and_eq_true, List.all_eq_true]
  simp only [List.mem_finRange, forall_const, Bool.or_eq_true, Bool.not_eq_true', ← Bool.not_eq_true, ← imp_iff_not_or]

/-! ## A hold meets the zone's record (R142, R143) -/

section
variable {s : State} {o : Origin} {rq : Intake} {z : ZoneNo} {tier : Tier}

/-- The state with the zone held by the requester at the tier, and the request answered with the former holder. -/
def holdTaken (s : State) (o : Origin) (rq : Intake) (z : ZoneNo) (tier : Tier) (former : Byte) : State :=
  served (s.setHold z (some ⟨o, tier⟩)) o rq .done false false [originByte o, oneByte tier.val, former]

theorem takeHold_free (hz : s.ot.holds[z] = none) :
    takeHold ⟨o, rq⟩ z tier (s.popIntake o) = holdTaken s o rq z tier 0xFF := by
  have hz' : (s.popIntake o).ot.holds[z] = none := hz
  rw [takeHold, hz']
  exact done_popIntake (s.setHold z (some ⟨o, tier⟩)) o rq _

theorem takeHold_own {g : Hold} (hz : s.ot.holds[z] = some g) (ho : g.holder = o) :
    takeHold ⟨o, rq⟩ z tier (s.popIntake o) = holdTaken s o rq z tier 0xFF := by
  have hz' : (s.popIntake o).ot.holds[z] = some g := hz
  rw [takeHold, hz']
  exact (if_pos ho).trans (done_popIntake (s.setHold z (some ⟨o, tier⟩)) o rq _)

theorem takeHold_over {g : Hold} (hz : s.ot.holds[z] = some g) (ho : g.holder ≠ o) (ht : g.tier < tier) :
    takeHold ⟨o, rq⟩ z tier (s.popIntake o) =
      (holdTaken s o rq z tier (originByte g.holder)).notify g.holder (.holdLost z o tier) := by
  have hz' : (s.popIntake o).ot.holds[z] = some g := hz
  rw [takeHold, hz', holdTaken, ← done_popIntake]
  exact (if_neg ho).trans (if_pos ht)

theorem takeHold_held {g : Hold} (hz : s.ot.holds[z] = some g) (ho : g.holder ≠ o) (ht : tier ≤ g.tier) :
    takeHold ⟨o, rq⟩ z tier (s.popIntake o) =
      served s o rq .zoneHeld false false [originByte g.holder, oneByte g.tier.val, 0xFF] := by
  have hz' : (s.popIntake o).ot.holds[z] = some g := hz
  rw [takeHold, hz', ← reply_popIntake]
  exact (if_neg ho).trans (if_neg (Fin.not_lt.mpr ht))

/-! ## HOLD_ZONE -/

theorem popIntake_in_setup (hs : s.ps.state = .setup) : (s.popIntake o).inSetup = true :=
  inSetup_iff.mpr hs

/-- Requests are taken in SETUP, RUN and SETTLING alone (R178). -/
theorem Takes.running {k : Kind} (h : Takes s o k rq) (hs : s.ps.state ≠ .setup) : Running s := by
  obtain ⟨⟨-, htakes, -⟩, -⟩ := h
  cases hstate : s.ps.state with
  | setup => exact absurd hstate hs
  | run => exact .inl hstate
  | settling => exact .inr hstate
  | asleep | waking => rw [hstate] at htakes; cases htakes

theorem exec_holdZone (h : Takes s o .holdZone rq) : exec (.holdZone o) s =
    .next (answer ⟨o, rq⟩ (s.popIntake o) (serveHoldZone ⟨o, rq⟩ (holdZoneArgs rq.data) (s.popIntake o))) :=
  takeRequest_takes (fun tk s => answer tk s (serveHoldZone tk (holdZoneArgs tk.req.data) s)) h

theorem exec_holdZone_wrongState (h : Takes s o .holdZone rq) (hs : s.ps.state = .setup) :
    exec (.holdZone o) s = .next (turnedAway s o rq .wrongState) := by
  rw [exec_holdZone h, serveHoldZone, popIntake_in_setup hs, require_true_bind, answer_error, refuse_popIntake]

theorem exec_holdZone_badValue (h : Takes s o .holdZone rq) (hs : s.ps.state ≠ .setup)
    (hbad : 31 < byteAt rq.data 2 ∨ 5 < byteAt rq.data 3) :
    exec (.holdZone o) s = .next (turnedAway s o rq .badValue) := by
  rw [exec_holdZone h, serveHoldZone, popIntake_inSetup (h.running hs), require_false_bind]
  simp only [holdZoneArgs]
  cases hzone : fin? 32 (byteAt rq.data 2) with
  | none => rw [found_none_bind, answer_error, refuse_popIntake]
  | some z =>
    have htier := hbad.resolve_left fun hlarge => nomatch (fin?_ge hlarge).symm.trans hzone
    rw [found_some_bind, fin?_ge htier, found_none_bind, answer_error, refuse_popIntake]

/-- Fields of their kind leave the check of the requester's rights (R139, R142). -/
theorem exec_holdZone_checked (h : Takes s o .holdZone rq) (hs : s.ps.state ≠ .setup) (hz : byteAt rq.data 2 = z.val)
    (ht : byteAt rq.data 3 = tier.val) : exec (.holdZone o) s = .next (answer ⟨o, rq⟩ (s.popIntake o)
      (require (!s.targetable o z || decide (tier > (s.originRec o).maxTier)) .noRight >>= fun _ =>
        .ok (takeHold ⟨o, rq⟩ z tier (s.popIntake o)))) := by
  rw [exec_holdZone h, serveHoldZone, popIntake_inSetup (h.running hs), require_false_bind]
  simp only [holdZoneArgs]
  rw [hz, ht, fin?_val, found_some_bind, fin?_val, found_some_bind]
  rfl

theorem exec_holdZone_noRight (h : Takes s o .holdZone rq) (hs : s.ps.state ≠ .setup) (hz : byteAt rq.data 2 = z.val)
    (ht : byteAt rq.data 3 = tier.val) (hright : s.targetable o z = false ∨ (s.originRec o).maxTier < tier) :
    exec (.holdZone o) s = .next (turnedAway s o rq .noRight) := by
  have hrefused : (!s.targetable o z || decide (tier > (s.originRec o).maxTier)) = true := by
    simpa only [Bool.or_eq_true, Bool.not_eq_true', decide_eq_true_eq] using hright
  rw [exec_holdZone_checked h hs hz ht, hrefused, require_true_bind, answer_error, refuse_popIntake]

theorem exec_holdZone_right (h : Takes s o .holdZone rq) (hs : s.ps.state ≠ .setup) (hz : byteAt rq.data 2 = z.val)
    (ht : byteAt rq.data 3 = tier.val) (htarget : s.targetable o z = true) (hmax : tier ≤ (s.originRec o).maxTier) :
    exec (.holdZone o) s = .next (takeHold ⟨o, rq⟩ z tier (s.popIntake o)) := by
  rw [exec_holdZone_checked h hs hz ht, htarget, decide_eq_false (Fin.not_lt.mpr hmax)]
  rfl

/-! ## RELEASE_ZONE -/

theorem exec_releaseZone (h : Takes s o .releaseZone rq) : exec (.releaseZone o) s =
    .next (answer ⟨o, rq⟩ (s.popIntake o) (serveReleaseZone ⟨o, rq⟩ (byteAt rq.data 2) (s.popIntake o))) :=
  takeRequest_takes (fun tk s => answer tk s (serveReleaseZone tk (byteAt tk.req.data 2) s)) h

theorem holder_eq_some : s.holder z = some o ↔ ∃ tier, s.ot.holds[z] = some ⟨o, tier⟩ := by
  rw [State.holder, Option.map_eq_some_iff]
  constructor
  · rintro ⟨⟨p, tier⟩, hz, rfl⟩
    exact ⟨tier, hz⟩
  · rintro ⟨tier, hz⟩
    exact ⟨_, hz, rfl⟩

theorem exec_releaseZone_wrongState (h : Takes s o .releaseZone rq) (hs : s.ps.state = .setup) :
    exec (.releaseZone o) s = .next (turnedAway s o rq .wrongState) := by
  rw [exec_releaseZone h, serveReleaseZone, popIntake_in_setup hs, require_true_bind, answer_error, refuse_popIntake]

theorem exec_releaseZone_badValue (h : Takes s o .releaseZone rq) (hs : s.ps.state ≠ .setup)
    (hbad : 31 < byteAt rq.data 2) : exec (.releaseZone o) s = .next (turnedAway s o rq .badValue) := by
  rw [exec_releaseZone h, serveReleaseZone, popIntake_inSetup (h.running hs), require_false_bind, fin?_ge hbad,
    found_none_bind, answer_error, refuse_popIntake]

/-- A zone number leaves the check of the zone's holder (R144). -/
theorem exec_releaseZone_checked (h : Takes s o .releaseZone rq) (hs : s.ps.state ≠ .setup)
    (hz : byteAt rq.data 2 = z.val) : exec (.releaseZone o) s = .next (answer ⟨o, rq⟩ (s.popIntake o)
      (require (s.holder z != some o) .notOwner >>= fun _ =>
        .ok (served (s.setHold z none) o rq .done false false []))) := by
  rw [exec_releaseZone h, serveReleaseZone, popIntake_inSetup (h.running hs), require_false_bind, hz, fin?_val,
    found_some_bind, ← done_popIntake]
  rfl

theorem exec_releaseZone_foreign (h : Takes s o .releaseZone rq) (hs : s.ps.state ≠ .setup)
    (hz : byteAt rq.data 2 = z.val) (hother : ∀ tier, s.ot.holds[z] ≠ some ⟨o, tier⟩) :
    exec (.releaseZone o) s = .next (turnedAway s o rq .notOwner) := by
  have hholder : s.holder z ≠ some o := holder_eq_some.not.mpr (not_exists.mpr hother)
  rw [exec_releaseZone_checked h hs hz, bne_iff_ne.mpr hholder, require_true_bind, answer_error, refuse_popIntake]

theorem exec_releaseZone_own (h : Takes s o .releaseZone rq) (hs : s.ps.state ≠ .setup)
    (hz : byteAt rq.data 2 = z.val) (hown : s.ot.holds[z] = some ⟨o, tier⟩) :
    exec (.releaseZone o) s = .next (served (s.setHold z none) o rq .done false false []) := by
  rw [exec_releaseZone_checked h hs hz, bne_eq_false_iff_eq.mpr (holder_eq_some.mpr ⟨tier, hown⟩), require_false_bind,
    answer_ok]

end

/-- Settles O49: each request by its checks in turn, and a hold with the right to it by the record it meets. -/
theorem zonesAreHeldAndReleased : Obligations.ZonesAreHeldAndReleased := by
  refine ⟨fun o s z => ?_, fun o s rq => ⟨fun h => ?_, fun h => ?_⟩⟩
  · simp only [targetable_iff, inWindows_iff]
  · refine ⟨exec_holdZone_wrongState h, exec_holdZone_badValue h, fun hs z tier hz ht =>
      ⟨exec_holdZone_noRight h hs hz ht, fun htarget hmax => ?_⟩⟩
    rw [exec_holdZone_right h hs hz ht htarget hmax]
    exact ⟨fun hfree => congrArg _ (takeHold_free hfree), fun g hg => ⟨fun hown => congrArg _ (takeHold_own hg hown),
      fun hother hlow => congrArg _ (takeHold_over hg hother hlow),
      fun hother hhigh => congrArg _ (takeHold_held hg hother hhigh)⟩⟩
  · exact ⟨exec_releaseZone_wrongState h, exec_releaseZone_badValue h, fun hs z hz =>
      ⟨exec_releaseZone_foreign h hs hz, fun tier => exec_releaseZone_own h hs hz⟩⟩

end Sys2Proof.Machine

/-! PROOF. What leaves the Lamp Loops, whether the part is in ASLEEP or WAKING, and whether a compose is in flight: one lemma
for each operation of the other blocks, and the commands made of these alone (R149, R161). -/

namespace Sys2Proof.Machine

/-- The Lamp Loops, and what the law of loop records reads besides: whether the part is in ASLEEP or WAKING, and whether a
compose is in flight. -/
def lampParts (s : State) : LoopBlock × Bool × Bool := (s.lc, s.trimSuspended, s.co.inFlight.isSome)

/-- What touches ports, cue records, the start queue, slots and layers alone leaves those parts. -/
theorem CueFrame.lamps {s t : State} (h : CueFrame s t) : lampParts t = lampParts s := by
  unfold CueFrame at h
  rw [h]
  rfl

theorem StartsFrame.lamps {s t : State} (h : StartsFrame s t) : lampParts t = lampParts s := by
  unfold StartsFrame at h
  rw [h]
  rfl

theorem SlotsFrame.lamps {s t : State} (h : SlotsFrame s t) : lampParts t = lampParts s := by
  unfold SlotsFrame at h
  rw [h]
  rfl

section
variable (s : State)

/-! ## Replies, notices, ports -/

@[simp] theorem reply_lamps (tk : Taken) (c : Code) (clamped replaced : Bool) (result : List Byte) :
    lampParts (s.reply tk c clamped replaced result) = lampParts s := rfl
@[simp] theorem done_lamps (tk : Taken) (result : List Byte) : lampParts (s.done tk result) = lampParts s := rfl

@[simp] theorem notify_lamps (o : Origin) (n : Notice) : lampParts (s.notify o n) = lampParts s :=
  (StartsFrame.notify s o n).lamps
@[simp] theorem notifyAll_lamps (n : Notice) : lampParts (s.notifyAll n) = lampParts s :=
  (StartsFrame.notifyAll s n).lamps

@[simp] theorem setChan_lamps (ch : Chan) (c : Channel) : lampParts (s.setChan ch c) = lampParts s := by
  cases ch <;> rfl

@[simp] theorem offer_lamps (o : Origin) (rq : Intake) : lampParts (s.offer o rq) = lampParts s := by
  unfold State.offer
  dsimp only
  split <;> rfl

/-- A wake event goes from ASLEEP to WAKING (R192). -/
@[simp] theorem wakeEvent_lamps : lampParts s.wakeEvent = lampParts s := by
  unfold State.wakeEvent
  split
  · next h =>
    have hasleep : s.trimSuspended = true := trimSuspended_iff.mpr (.inl h)
    rw [lampParts, lampParts, hasleep]
    rfl
  · rfl

@[simp] theorem receive_lamps (ch : Chan) (o : Origin) (data : List Byte) :
    lampParts (s.receive ch o data) = lampParts s := by
  have hport (u : State) (p : Port) : lampParts (u.setPort o p) = lampParts u := rfl
  unfold State.receive State.countReceived
  dsimp only
  split
  · rw [wakeEvent_lamps, hport, setChan_lamps]
  · rw [offer_lamps, wakeEvent_lamps, hport, setChan_lamps]

@[simp] theorem finishSend_lamps (ch : Chan) (o : Origin) : lampParts (s.finishSend ch o) = lampParts s :=
  setChan_lamps ..

@[simp] theorem channelErr_lamps (ch : Chan) (kind : ErrorKind) : lampParts (s.channelErr ch kind) = lampParts s := by
  unfold State.channelErr
  dsimp only
  split
  · exact setChan_lamps ..
  · exact setChan_lamps ..

/-! ## Cues, codes, lines, holds -/

@[simp] theorem schedule_lamps (c : CueNo) (cue : Cue) (start : Time) (o : Origin) :
    lampParts (s.schedule c cue start o) = lampParts s := (StartsFrame.schedule s c cue start o).lamps
@[simp] theorem stop_lamps (c : CueNo) (cue : Cue) : lampParts (s.stop c cue) = lampParts s :=
  (StartsFrame.stop s c cue).lamps
@[simp] theorem emptyCue_lamps (c : CueNo) (cue : Cue) (why : EndReason) :
    lampParts (s.emptyCue c cue why) = lampParts s := (emptyCue_frame s c cue why).lamps
@[simp] theorem unbindWhere_lamps (p : BindEntry → Bool) : lampParts (s.unbindWhere p) = lampParts s := rfl
@[simp] theorem endCuesWhere_lamps (p : Cue → Bool) (why : EndReason) :
    lampParts (s.endCuesWhere p why) = lampParts s := (StartsFrame.endCuesWhere s p why).lamps
@[simp] theorem endAllCues_lamps (why : EndReason) : lampParts (s.endAllCues why) = lampParts s :=
  (StartsFrame.endAllCues s why).lamps
@[simp] theorem matchCode_lamps (src : CodeSource) (code : Byte) (stamp : Time) :
    lampParts (s.matchCode src code stamp) = lampParts s := (StartsFrame.matchCode s src code stamp).lamps

@[simp] theorem mirrorTo_lamps (f : Option FlagNo) (v : Bool) : lampParts (s.mirrorTo f v) = lampParts s := by
  cases f <;> rfl

@[simp] theorem replaceLine_lamps (t : LineNo) (x : Line) : lampParts (s.replaceLine t x) = lampParts s :=
  (mirrorTo_lamps ..).trans (mirrorTo_lamps ..)

@[simp] theorem giveFlag_lamps (f : FlagNo) (w : Writer) : lampParts (s.giveFlag f w) = lampParts s := by
  unfold State.giveFlag
  split <;> rfl

@[simp] theorem setBind_lamps (i : BindNo) (e : Option BindEntry) : lampParts (s.setBind i e) = lampParts s := rfl

@[simp] theorem unbindSame_lamps (o : Origin) (code mask : Byte) :
    lampParts (s.unbindSame o code mask) = lampParts s := by
  unfold State.unbindSame
  split <;> rfl

@[simp] theorem addWake_lamps (t : LineNo) (e : EdgeKind) (stamp : Time) :
    lampParts (s.addWake t e stamp) = lampParts s := by
  unfold State.addWake
  split
  · rfl
  · exact notifyAll_lamps ..

@[simp] theorem handleEdge_lamps (t : LineNo) (e : EdgeKind) (stamp : Time) :
    lampParts (s.handleEdge t e stamp) = lampParts s := by
  unfold State.handleEdge State.seeUnmatched
  split
  · exact matchCode_lamps ..
  · exact matchCode_lamps ..
  · exact notifyAll_lamps ..
  · split
    · rw [wakeEvent_lamps, addWake_lamps]
    · exact notifyAll_lamps ..
  · exact addWake_lamps ..

@[simp] theorem acceptChange_lamps (t : LineNo) (level : Bool) : lampParts (s.acceptChange t level) = lampParts s := by
  unfold State.acceptChange State.takeEdge
  dsimp only
  split
  · exact mirrorTo_lamps ..
  · split
    · exact handleEdge_lamps ..
    · rfl

@[simp] theorem takeHold_lamps (tk : Taken) (z : ZoneNo) (tier : Tier) :
    lampParts (takeHold tk z tier s) = lampParts s := by
  unfold takeHold
  dsimp only
  split
  · rfl
  · split
    · rfl
    · split
      · exact notify_lamps ..
      · rfl

/-! ## Layers, FORGET, the part state -/

/-- Freeing layers marks a compose in flight, and leaves it in flight (R67). -/
@[simp] theorem freeLayersWhere_lamps (p : LayerNo → Layer → Bool) : lampParts (s.freeLayersWhere p) = lampParts s := by
  simp only [lampParts, freeLayersWhere_inFlight, Option.isSome_map]
  rfl

@[simp] theorem makeEdit_lamps (o : Origin) (i : LayerNo) (e : Edit) : lampParts (s.makeEdit o i e) = lampParts s := by
  unfold State.makeEdit
  dsimp only
  split <;> rfl

@[simp] theorem expireGate_lamps (o : Origin) : lampParts (s.expireGate o) = lampParts s := notify_lamps ..

theorem openGates_lamps : lampParts s.openGates = lampParts s := rfl
theorem releaseHolds_lamps : lampParts s.releaseHolds = lampParts s := rfl
theorem forgetRest_lamps (o : Origin) : lampParts (forgetRest o s) = lampParts s := rfl
theorem forgottenCopies_lamps (o : Origin) : lampParts (forgottenCopies o s) = lampParts s := rfl

/-- FORGET in its stages: cues, layers, slots, and what is no loop's (R147). -/
@[simp] theorem forget_lamps (o : Origin) : lampParts (s.forget o) = lampParts s := by
  rw [forget_eq, forgetRest_lamps, (forgetSlots_frame o (forgottenLayers o s)).lamps, forgottenLayers, freeLayersWhere_lamps,
    (forgetCues_frame o (forgottenCopies o s)).lamps, forgottenCopies_lamps]

end

/-- From SETUP, RUN and SETTLING to one of them the part is neither in ASLEEP nor in WAKING. -/
theorem setPartState_lamps {s : State} (hs : s.ps.state.takes = true) {p : PartState} (hp : p.takes = true) :
    lampParts (s.setPartState p) = lampParts s := by
  have hawake : ∀ u : State, u.ps.state.takes = true → u.trimSuspended = false := fun u hu =>
    trimSuspended_eq_false.mpr (not_or.mpr (takes_awake hu))
  rw [lampParts, lampParts, hawake s hs, hawake (s.setPartState p) hp]
  rfl

/-- ENTER_SETUP ends cues and frees layers before it moves the part state (R189). -/
theorem enterSetup_lamps {s : State} (hs : s.ps.state.takes = true) : lampParts s.enterSetup = lampParts s := by
  have hends := congrArg Prod.fst (endAllCues_timer s .stopped)
  have hcues := endAllCues_lamps s .stopped
  unfold State.enterSetup
  generalize s.endAllCues .stopped = u at hends hcues ⊢
  replace hends : u.ps.state = s.ps.state := hends
  have htakes : (u.openGates.freeLayersWhere fun _ l => l.state != .free).releaseHolds.ps.state.takes = true :=
    (congrArg PartState.takes hends).trans hs
  rw [setPartState_lamps htakes rfl, releaseHolds_lamps, freeLayersWhere_lamps, openGates_lamps, hcues]

/-! ## Commands that leave those parts as they are -/

/-- The two states agree in the Lamp Loops and in what their law reads besides. -/
def SameLamps (s t : State) : Prop := lampParts t = lampParts s

section
variable {s n : State}

theorem unchanged_lamps : WhenNext (SameLamps s) (.next s) := whenNext_next.mpr rfl

theorem liveWhen_lamps {c : Bool} (h : lampParts n = lampParts s) : WhenNext (SameLamps s) (s.liveWhen c n) :=
  whenNext_liveWhen rfl fun _ _ => h

/-- A request is taken only in SETUP, RUN and SETTLING (R178). -/
theorem taken_lamps {k : Option Kind} {o : Origin} {serve : Taken → State → State}
    (h : ∀ tk u, u.ps.state.takes = true → lampParts (serve tk u) = lampParts u) :
    WhenNext (SameLamps s) (takeRequest k o s serve) := by
  cases ht : s.ps.state.takes with
  | false => rw [takeRequest_waits _ ht]; exact unchanged_lamps
  | true => exact whenNext_takeRequest rfl rfl (fun _ => rfl) fun rq => h ⟨o, rq⟩ (s.popIntake o) ht

theorem answered_lamps {k : Option Kind} {o : Origin} {serve : Taken → State → Served}
    (h : ∀ tk u, u.ps.state.takes = true → WhenServed (fun t => lampParts t = lampParts u) (serve tk u)) :
    WhenNext (SameLamps s) (takeRequest k o s fun tk u => answer tk u (serve tk u)) :=
  taken_lamps fun tk u ht => answer_keeps (P := fun t => lampParts t = lampParts u) (fun _ => rfl) (h tk u ht)

theorem atLastFrame_lamps {c : CueNo} {cond : Time → Cue → Bool} {next : Cue → State}
    (h : ∀ cue, lampParts (next cue) = lampParts s) : WhenNext (SameLamps s) (atLastFrame s c cond next) := by
  unfold atLastFrame
  split
  · exact liveWhen_lamps (h _)
  · exact unchanged_lamps

end

/-- The commands that write a loop's record or a lamp's health record, or begin or end a compose. -/
def writesLamps : Instr → Bool
  | .powerOn .. => true
  | .resetPinAssert => true
  | .resetPinRelease .. => true
  | .restart .. => true
  | .setChain .. => true
  | .clearHealth .. => true
  | .frameStart => true
  | .holdoffEnd .. => true
  | .composeComplete => true
  | .quietThreshold .. => true
  | .loopReturnReceived .. => true
  | .loopReturnTimeout .. => true
  | .loopFailed .. => true
  | .settle => true
  | .wakeCompletion => true
  | .loopBurstEnd .. => true
  | _ => false

/-- Every other command leaves those parts as they are. -/
theorem exec_sameLamps (c : Instr) (hc : writesLamps c = false) (s : State) : WhenNext (SameLamps s) (exec c s) := by
  cases c with
  | powerOn _ _ | resetPinAssert | resetPinRelease _ | restart _ | setChain _ | clearHealth _ | frameStart | holdoffEnd _
  | composeComplete | quietThreshold _ | loopReturnReceived _ _ | loopReturnTimeout _ | loopFailed _ _ | settle
  | wakeCompletion | loopBurstEnd _ => cases hc
  -- requests whose work rewrites records of other blocks
  | setOrigin _ | setZone _ | clearZone _ | setBin _ | setLampBin _ | setGlare _ | setFrame _ | setWatch _ | writePattern _
  | definePattern _ | deletePattern _ | writeKeys _ | defineCue _ | setClock _ | trimClock _ | subscribe _ | readCapture _
  | openLayer _ | showLayer _ | hideLayer _ | releaseZone _ | setFlags _ | unbind _ =>
    simp only [exec, execSetOrigin, execSetZone, execClearZone, execSetBin, execSetLampBin, execSetGlare, execSetFrame,
      execSetWatch, execWritePattern, execDefinePattern, execDeletePattern, execWriteKeys, execDefineCue, execSetClock,
      execTrimClock, execSubscribe, execReadCapture, execOpenLayer, execShowLayer, execHideLayer, execReleaseZone,
      execSetFlags, execUnbind]
    refine answered_lamps fun tk u _ => ?_
    simp only [serveSetOrigin, serveSetZone, serveClearZone, serveSetBin, serveSetLampBin, serveSetGlare, serveSetFrame,
      serveSetWatch, serveWritePattern, serveDefinePattern, serveDeletePattern, serveWriteKeys, serveDefineCue,
      serveSetClock, serveTrimClock, serveSubscribe, serveReadCapture, serveOpenLayer, serveShowLayer, serveHideLayer,
      serveReleaseZone, serveSetFlags, serveUnbind, whenServed_bind, whenServed_pure]
    intros
    rfl
  -- requests whose work goes through an operation of its own
  | setLine _ | setFlagOwner _ | deleteCue _ | bind _ | editLayer _ | closeLayer _ | startCue _ | stopCue _ | holdZone _
  | trigger _ | forget _ =>
    simp only [exec, execSetLine, execSetFlagOwner, execDeleteCue, execBind, execEditLayer, execCloseLayer, execStartCue,
      execStopCue, execHoldZone, execTrigger, execForget]
    refine answered_lamps fun tk u _ => ?_
    simp [serveSetLine, serveSetFlagOwner, serveDeleteCue, serveBind, serveEditLayer, serveCloseLayer, serveStartCue,
      serveStopCue, serveHoldZone, serveTrigger, serveForget]
  | gateClose _ | gateOpen _ =>
    simp only [exec, execGateClose, execGateOpen]
    refine answered_lamps fun tk u _ => ?_
    simp only [serveGateClose, serveGateOpen, whenServed_bind, whenServed_pure]
    intro _ _
    split <;> rfl
  | enterRun _ =>
    simp only [exec, execEnterRun]
    refine answered_lamps fun tk u ht => ?_
    simp only [serveEnterRun, whenServed_bind, whenServed_pure]
    intro _ _
    split
    · rw [done_lamps, setPartState_lamps ht rfl]
    · exact done_lamps ..
  | enterSetup _ =>
    simp only [exec, execEnterSetup]
    refine answered_lamps fun tk u ht => ?_
    simp only [serveEnterSetup, whenServed_bind, whenServed_pure]
    intro _ _
    split
    · exact done_lamps ..
    · exact enterSetup_lamps (s := u.done tk []) ht
  | sleep _ =>
    simp only [exec, execSleep]
    refine answered_lamps fun tk u ht => ?_
    simp only [serveSleep, whenServed_bind, whenServed_pure]
    intros
    rw [done_lamps, setPartState_lamps ht rfl]
  | requestUnknownKind _ | timeQuery _ | readStatus _ =>
    simp only [exec, execRequestUnknownKind, execTimeQuery, execReadStatus]
    exact taken_lamps fun tk u _ => rfl
  | streamFrame _ =>
    simp only [exec, execStreamFrame]
    refine taken_lamps fun tk u _ => ?_
    unfold serveStreamFrame
    split <;> rfl
  | frameReceived ch fmt ident data =>
    change WhenNext (SameLamps s) (execFrameReceived ch fmt ident data s)
    unfold execFrameReceived
    split
    · exact liveWhen_lamps (receive_lamps ..)
    · exact unchanged_lamps
  | trimCorrection => exact liveWhen_lamps rfl
  | cueNaturalEnd c => exact atLastFrame_lamps fun cue => (CueFrame.naturalEnd s c cue).lamps
  | cueReleaseEnd c => exact atLastFrame_lamps fun cue => (CueFrame.endCue s c cue _).lamps
  | streamStale q =>
    change WhenNext (SameLamps s) (execStreamStale q s)
    unfold execStreamStale
    split
    · exact unchanged_lamps
    · exact liveWhen_lamps rfl
  | gateExpiry o => exact liveWhen_lamps (expireGate_lamps ..)
  | lineRawChange t level =>
    change WhenNext (SameLamps s) (execLineRawChange t level s)
    unfold execLineRawChange
    dsimp only
    split
    · exact unchanged_lamps
    · split <;> exact whenNext_next.mpr rfl
  | lineChangeAccepted t =>
    change WhenNext (SameLamps s) (execLineChangeAccepted t s)
    unfold execLineChangeAccepted
    split
    · exact unchanged_lamps
    · exact liveWhen_lamps (acceptChange_lamps ..)
  | frameTransmitStart ch =>
    change WhenNext (SameLamps s) (execFrameTransmitStart ch s)
    unfold execFrameTransmitStart
    split
    · exact unchanged_lamps
    · exact liveWhen_lamps rfl
  | frameTransmitted ch =>
    change WhenNext (SameLamps s) (execFrameTransmitted ch s)
    unfold execFrameTransmitted
    split
    · exact unchanged_lamps
    · exact liveWhen_lamps (finishSend_lamps ..)
  | channelError ch kind => exact liveWhen_lamps (channelErr_lamps ..)
  | channelRecovery ch => exact liveWhen_lamps (setChan_lamps ..)

end Sys2Proof.Machine

/-! PROOF. The law of loop records along every step (R149 to R161): each change of one record, the commands that rewrite
loops one by one, and the steps of the whole part. -/

namespace Sys2Proof.Machine

/-! ## One record -/

theorem loopSound_fresh : LoopSound Loop.fresh :=
  ⟨by decide, by decide, by decide, .inl rfl, by decide, nofun, nofun, .inr ⟨rfl, rfl⟩, nofun, nofun, nofun⟩

/-- A return is awaited in DISCOVERING and RUNNING alone (R152, R154). -/
theorem LoopSound.awaits {x : Loop} (h : LoopSound x) {a : Await} (ha : x.await = some a) :
    x.state = .discovering ∨ x.state = .running := by
  obtain ⟨-, -, -, -, -, -, -, -, -, -, hawait⟩ := h
  have hkind := hawait a ha
  cases hk : a.kind with
  | count => rw [hk] at hkind; exact .inl hkind
  | refresh q => rw [hk] at hkind; exact .inr hkind.1

theorem LoopSound.awaits_none {x : Loop} (h : LoopSound x) (hs : x.state ≠ .discovering ∧ x.state ≠ .running)
    (a : Await) : x.await ≠ some a :=
  fun ha => (h.awaits ha).elim hs.1 hs.2

/-- A loop that is not QUIET is not held for sleep (R161). -/
theorem LoopSound.awake {x : Loop} (h : LoopSound x) (hs : x.state ≠ .quiet) : x.sleepHold ≠ true := by
  obtain ⟨-, -, -, -, -, -, -, -, -, hsleep, -⟩ := h
  exact mt hsleep hs

/-- A loop that is not RUNNING has no SHOW pending (R152, R158). -/
theorem LoopSound.not_pending {x : Loop} (h : LoopSound x) (hs : x.state ≠ .running) : x.showPending ≠ true := by
  obtain ⟨-, -, -, -, -, -, -, -, hshow, -, -⟩ := h
  exact mt hshow hs

section
variable {x : Loop} (h : LoopSound x)
include h

theorem LoopSound.withEnable (enable : Bool) : LoopSound { x with enable := enable } := h

theorem LoopSound.unclaimed : LoopSound { x with claimed := false } := h

theorem LoopSound.switchedOff : LoopSound x.switchedOff := by
  obtain ⟨hnodes, -, -, hlen, hcount, -, -, hquery, -, -, -⟩ := h
  exact ⟨hnodes, Nat.zero_le _, Nat.zero_le _, hlen, hcount, nofun, nofun, hquery, nofun, nofun, nofun⟩

theorem LoopSound.switchedOn (hs : x.state = .off) : LoopSound x.switchedOn := by
  have hshow := h.not_pending (by rw [hs]; decide)
  have hsleep := h.awake (by rw [hs]; decide)
  have hawait := h.awaits_none (by rw [hs]; decide)
  obtain ⟨hnodes, herrors, hquiet, -, hcount, -, -, hquery, -, -, -⟩ := h
  exact ⟨hnodes, herrors, hquiet, .inl rfl, hcount, nofun, nofun, hquery, fun e => absurd e hshow,
    fun e => absurd e hsleep, fun a e => absurd e (hawait a)⟩

/-- A loop in DISCOVERING, or one whose holdoff has ended, sends COUNT (R152). -/
theorem LoopSound.counting (hs : x.state = .discovering ∨ x.state = .failed) {n : Nat} (hn : n ≤ 64) (now : Time) :
    LoopSound (({ x with state := .discovering, holdCount := n } : Loop).counting now) := by
  have hne : x.state ≠ .running ∧ x.state ≠ .quiet := by rcases hs with hs | hs <;> rw [hs] <;> decide
  have hshow := h.not_pending hne.1
  have hsleep := h.awake hne.2
  obtain ⟨hnodes, herrors, hquiet, hlen, -, -, -, hquery, -, -, -⟩ := h
  refine ⟨hnodes, herrors, hquiet, hlen, hn, nofun, nofun, hquery, fun e => absurd e hshow,
    fun e => absurd e hsleep, fun a e => ?_⟩
  cases e
  rfl

theorem LoopSound.shown : LoopSound x.shown := by
  unfold Loop.shown
  split
  · obtain ⟨hnodes, herrors, hquiet, hlen, hcount, hfailed, hrunning, hquery, -, hsleep, hawait⟩ := h
    exact ⟨hnodes, herrors, hquiet, hlen, hcount, hfailed, hrunning, hquery, nofun, hsleep, hawait⟩
  · exact h

theorem LoopSound.heldOff (hc : 2 ≤ x.holdCount) : LoopSound { x with holdCount := x.holdCount - 1, claimed := false } := by
  obtain ⟨hnodes, herrors, hquiet, hlen, hcount, -, hrest⟩ := h
  exact ⟨hnodes, herrors, hquiet, hlen, Nat.le_trans (Nat.sub_le ..) hcount, fun _ => Nat.le_sub_of_add_le hc, hrest⟩

/-- A frame start at one loop (R152). -/
theorem LoopSound.framed (now : Time) : LoopSound (framedLoop now x) := by
  obtain ⟨-, -, -, -, hcount, -⟩ := id h
  unfold framedLoop
  split
  · exact h.shown
  · next hs =>
    have hcounting := h.counting (.inl hs) hcount now
    rwa [← hs] at hcounting
  · next hs =>
    split
    · exact h.counting (.inr hs) (Nat.zero_le _) now
    · next hover => exact h.heldOff (Nat.lt_of_not_le fun hle => hover (decide_eq_true hle))
  · exact h.unclaimed
  · exact h.unclaimed

/-- The end of a burst leaves what is awaited (R149). -/
theorem LoopSound.ended {a : Await} (ha : x.await = some a) (now : Option Time) :
    LoopSound { x with await := some { a with ended := now } } := by
  obtain ⟨hnodes, herrors, hquiet, hlen, hcount, hfailed, hrunning, hquery, hshow, hsleep, hawait⟩ := h
  refine ⟨hnodes, herrors, hquiet, hlen, hcount, hfailed, hrunning, hquery, hshow, hsleep, fun b hb => ?_⟩
  cases hb
  exact hawait a ha

/-- A return judged is awaited no more, and at most two errors in a row are counted (R151, R155). -/
theorem LoopSound.judged {errors : Nat} (he : errors ≤ 2) : LoopSound { x with errors := errors, await := none } := by
  obtain ⟨hnodes, -, hquiet, hlen, hcount, hfailed, hrunning, hquery, hshow, hsleep, -⟩ := h
  exact ⟨hnodes, he, hquiet, hlen, hcount, hfailed, hrunning, hquery, hshow, hsleep, nofun⟩

theorem LoopSound.found (hs : x.state ≠ .quiet) {n : Nat} (hn : 1 ≤ n ∧ n ≤ 64) : LoopSound (x.found n) := by
  have hsleep := h.awake hs
  obtain ⟨-, -, -, -, hcount, -⟩ := h
  exact ⟨hn.2, Nat.zero_le _, Nat.zero_le _, .inl rfl, hcount, nofun, fun _ => hn.1, .inl hn.1, nofun,
    fun e => absurd e hsleep, nofun⟩

/-- A loop that fails holds off for its present length, and the length doubles up to 64 (R157). -/
theorem LoopSound.failing (hs : x.state ≠ .quiet) : LoopSound x.failing := by
  have hsleep := h.awake hs
  obtain ⟨hnodes, -, hquiet, hlen, -, -, -, hquery, -, -, -⟩ := h
  have hheld : 1 ≤ x.holdLen ∧ x.holdLen ≤ 64 := by omega
  have hdoubled : min 64 (2 * x.holdLen) = 8 ∨ min 64 (2 * x.holdLen) = 16 ∨ min 64 (2 * x.holdLen) = 32 ∨
      min 64 (2 * x.holdLen) = 64 := by omega
  exact ⟨hnodes, Nat.zero_le _, hquiet, hdoubled, hheld.2, fun _ => hheld.1, nofun, hquery, nofun,
    fun e => absurd e hsleep, nofun⟩

theorem LoopSound.refreshed (hs : x.state = .running) (now : Time) (words : List Rgb) {n : Nat} (hn : n ≤ 63) :
    LoopSound (x.refreshed now words n) := by
  obtain ⟨hnodes, herrors, -, hlen, hcount, hfailed, hrunning, hquery, -, hsleep, -⟩ := h
  have hfound : 1 ≤ x.nodes := hrunning hs
  have hasked : x.query < x.nodes := by omega
  refine ⟨hnodes, herrors, hn, hlen, hcount, hfailed, hrunning, .inl (Nat.mod_lt _ hfound), fun _ => hs, hsleep,
    fun a e => ?_⟩
  cases e
  exact ⟨hs, hasked⟩

theorem LoopSound.quieted : LoopSound x.quieted := by
  obtain ⟨hnodes, herrors, -, hlen, hcount, -, -, hquery, -, -, -⟩ := h
  exact ⟨hnodes, herrors, Nat.zero_le _, hlen, hcount, nofun, nofun, hquery, nofun, fun _ => rfl, nofun⟩

theorem LoopSound.lit (hs : x.state = .quiet) (hsleep : x.sleepHold ≠ true) (hn : 1 ≤ x.nodes) : LoopSound x.lit := by
  have hshow := h.not_pending (by rw [hs]; decide)
  have hawait := h.awaits_none (by rw [hs]; decide)
  obtain ⟨hnodes, -, -, hlen, hcount, -, -, hquery, -, -, -⟩ := h
  exact ⟨hnodes, Nat.zero_le _, Nat.zero_le _, hlen, hcount, nofun, fun _ => hn, hquery, fun e => absurd e hshow,
    fun e => absurd e hsleep, fun a e => absurd e (hawait a)⟩

/-- A completion at one loop that is not held for sleep; only codes that light a node end QUIET (R154, R158, R159). -/
theorem LoopSound.completed (hsleep : x.sleepHold ≠ true) (now : Time) (codes : List Rgb) :
    LoopSound (completedLoop now (codes.take x.nodes) x) := by
  unfold completedLoop
  split
  · next hs =>
    split
    · split
      · exact h.quieted
      · next hn => exact h.refreshed hs now _ (Nat.le_of_lt_succ (Nat.lt_of_not_le hn))
    · exact h
  · next hs =>
    split
    · exact h
    · next hlit =>
      refine h.lit hs hsleep (Nat.pos_of_ne_zero fun hzero => hlit ?_)
      rw [hzero]
      rfl
  · exact h
  · exact h
  · exact h

theorem LoopSound.settled : LoopSound x.settled := by
  by_cases hs : x.state = .off
  · rwa [settled_off hs]
  · obtain ⟨hnodes, -, -, hlen, hcount, -, -, hquery, -, -, -⟩ := h
    rw [settled_on hs]
    refine ⟨hnodes, Nat.zero_le _, Nat.zero_le _, hlen, ?_, nofun, nofun, hquery, nofun, fun _ => rfl, nofun⟩
    dsimp only
    split
    · exact Nat.zero_le _
    · exact hcount

/-- A loop held for sleep discovers its nodes afresh (R161). -/
theorem LoopSound.woken : LoopSound x.woken := by
  unfold Loop.woken
  split
  · next hheld =>
    have hs : x.state = .quiet := by
      obtain ⟨-, -, -, -, -, -, -, -, -, hsleep, -⟩ := h
      exact hsleep hheld
    have hshow := h.not_pending (by rw [hs]; decide)
    have hawait := h.awaits_none (by rw [hs]; decide)
    obtain ⟨hnodes, herrors, hquiet, -, hcount, -, -, hquery, -, -, -⟩ := h
    exact ⟨hnodes, herrors, hquiet, .inl rfl, hcount, nofun, nofun, hquery, fun e => absurd e hshow, nofun,
      fun a e => absurd e (hawait a)⟩
  · exact h

theorem LoopSound.cutOff : LoopSound x.cutOff := by
  obtain ⟨hnodes, herrors, hquiet, hlen, hcount, hfailed, hrunning, hquery, hshow, hsleep, -⟩ := h
  exact ⟨hnodes, herrors, hquiet, hlen, hcount, hfailed, hrunning, hquery, hshow, hsleep, nofun⟩

end

theorem woken_sleepHold (x : Loop) : x.woken.sleepHold ≠ true := by
  unfold Loop.woken
  split
  · exact nofun
  · next h => exact h

theorem framedLoop_sleepHold (now : Time) (x : Loop) : (framedLoop now x).sleepHold = x.sleepHold := by
  unfold framedLoop Loop.shown
  split
  · split <;> rfl
  · rfl
  · split <;> rfl
  · rfl
  · rfl

theorem completedLoop_sleepHold (now : Time) (words : List Rgb) (x : Loop) :
    (completedLoop now words x).sleepHold = x.sleepHold := by
  unfold completedLoop
  split
  · split
    · split <;> rfl
    · rfl
  · split <;> rfl
  · rfl
  · rfl
  · rfl

/-! ## The law -/

theorem loopsSound_iff {s : State} : LoopsSound s ↔ (∀ l : LoopNo, LoopSound s.lc.loops[l]) ∧
    (∀ l : LoopNo, s.lc.loops[l].sleepHold = true → s.trimSuspended = true) ∧
    (s.trimSuspended = true → s.co.inFlight = none) := by
  simp only [LoopsSound, trimSuspended_iff]

/-- Outside ASLEEP and WAKING no loop is held for sleep (R161). -/
theorem loopsSound_awake {s : State} (hawake : s.trimSuspended = false)
    (hloops : ∀ l : LoopNo, LoopSound s.lc.loops[l] ∧ s.lc.loops[l].sleepHold ≠ true) : LoopsSound s :=
  loopsSound_iff.mpr ⟨fun l => (hloops l).1, fun l e => absurd e (hloops l).2,
    fun e => absurd e (Bool.eq_false_iff.mp hawake)⟩

/-- The loops of the second state are sound, and none of them is held for sleep that was not in the first. -/
def LoopsFollow (s t : State) : Prop :=
  ∀ l : LoopNo, LoopSound t.lc.loops[l] ∧ (t.lc.loops[l].sleepHold = true → s.lc.loops[l].sleepHold = true)

theorem LoopsFollow.sound {s t : State} (h : LoopsFollow s t) (l : LoopNo) : LoopSound t.lc.loops[l] := (h l).1

section
variable {s : State} (hs : LoopsSound s)
include hs

theorem LoopsSound.sound (l : LoopNo) : LoopSound s.lc.loops[l] := hs.1 l

/-- The law goes along loops that follow, where ASLEEP, WAKING and a compose in flight stay as they are. -/
theorem LoopsSound.follow {t : State} (hloops : LoopsFollow s t) (hsuspended : t.trimSuspended = s.trimSuspended)
    (hflight : t.co.inFlight.isSome = s.co.inFlight.isSome) : LoopsSound t := by
  obtain ⟨-, hsleep, hnone⟩ := loopsSound_iff.mp hs
  refine loopsSound_iff.mpr ⟨hloops.sound, fun l e => ?_, fun e => ?_⟩
  · rw [hsuspended]
    exact hsleep l ((hloops l).2 e)
  · rw [hsuspended] at e
    rw [← Option.not_isSome_iff_eq_none, hflight, Option.not_isSome_iff_eq_none]
    exact hnone e

theorem LoopsSound.followed : LoopsFollow s s := fun l => ⟨hs.sound l, id⟩

theorem LoopsSound.of_same {t : State} (h : lampParts t = lampParts s) : LoopsSound t := by
  simp only [lampParts, Prod.mk.injEq] at h
  obtain ⟨hlc, hsuspended, hflight⟩ := h
  exact hs.follow (fun l => by rw [hlc]; exact hs.followed l) hsuspended hflight

/-- While the part is awake no loop is held for sleep (R161). -/
theorem LoopsSound.not_held (hawake : s.trimSuspended = false) (l : LoopNo) : s.lc.loops[l].sleepHold ≠ true := by
  obtain ⟨-, hsleep, -⟩ := loopsSound_iff.mp hs
  exact mt (hsleep l) (Bool.eq_false_iff.mp hawake)

/-- While a compose is in flight the part is neither in ASLEEP nor in WAKING. -/
theorem LoopsSound.composing {c : Compose} (hc : s.co.inFlight = some c) : s.trimSuspended = false := by
  obtain ⟨-, -, hnone⟩ := loopsSound_iff.mp hs
  exact Bool.eq_false_iff.mpr fun e => nomatch hc.symm.trans (hnone e)

end

/-! ## Loops rewritten one by one -/

section
variable {s u : State} (h : LoopsFollow s u)
include h

theorem LoopsFollow.of_loops {t : State} (ht : t.lc.loops = u.lc.loops) : LoopsFollow s t := by
  intro l
  rw [ht]
  exact h l

theorem LoopsFollow.setLoop {l : LoopNo} {x : Loop} (hx : LoopSound x)
    (hsleep : x.sleepHold = true → u.lc.loops[l].sleepHold = true) : LoopsFollow s (u.setLoop l x) := by
  intro j
  simp only [setLoop_loops, setAt_get]
  split
  · next hj =>
    subst hj
    exact ⟨hx, fun e => (h j).2 (hsleep e)⟩
  · exact h j

theorem LoopsFollow.notifyAll (n : Notice) : LoopsFollow s (u.notifyAll n) :=
  h.of_loops (congrArg LoopBlock.loops (congrArg Prod.fst (notifyAll_lamps u n)))

theorem LoopsFollow.changeLoop {l : LoopNo} {x : Loop} (hx : LoopSound x)
    (hsleep : x.sleepHold = true → u.lc.loops[l].sleepHold = true) (cause : LoopCause) :
    LoopsFollow s (u.changeLoop l x cause) :=
  (h.setLoop hx hsleep).notifyAll _

/-- The loop follows its settings (R160). -/
theorem LoopsFollow.followSettings (l : LoopNo) : LoopsFollow s (u.followSettings l) := by
  have hcleared : LoopsFollow s (u.clearQueried l) := h.of_loops rfl
  unfold State.followSettings
  dsimp only
  split
  · split
    · exact h
    · exact h.changeLoop (h.sound l).switchedOff nofun _
  · split
    · next hoff => exact hcleared.changeLoop ((h.sound l).switchedOn hoff) id _
    · exact h

theorem LoopsFollow.storeChain (l : LoopNo) (c : Chain) (enable : Bool) : LoopsFollow s (u.storeChain l c enable) := by
  have hset := h.setLoop (l := l) ((h.sound l).withEnable enable) id
  exact hset.of_loops rfl

theorem LoopsFollow.endHoldoff {l : LoopNo} (hfailed : u.lc.loops[l].state = .failed) : LoopsFollow s (u.endHoldoff l) := by
  have hcleared : LoopsFollow s (u.clearQueried l) := h.of_loops rfl
  exact hcleared.changeLoop ((h.sound l).counting (.inr hfailed) (Nat.zero_le _) _) id _

theorem LoopsFollow.applyQuery (l : LoopNo) (q : Nat) (st : StatusWord) : LoopsFollow s (u.applyQuery l q st) := by
  have hset (lam : LampNo) (x : Health) : LoopsFollow s (u.setHealth lam x) := h.of_loops rfl
  unfold State.applyQuery State.applyStatus
  dsimp only
  split
  · exact h
  · split
    · exact hset _ _
    · exact (hset _ _).notifyAll _

theorem LoopsFollow.countFailure {l : LoopNo} (hs : u.lc.loops[l].state ≠ .quiet) :
    LoopsFollow s (u.countFailure l) := by
  unfold State.countFailure
  dsimp only
  split
  · exact h.changeLoop ((h.sound l).failing hs) id _
  · exact h.setLoop ((h.sound l).judged (by omega)) id

end

/-- Only 1 to 64 hops discover nodes (R153). -/
theorem verdict_discovered {now : Time} {x : Loop} {a : Await} {ret : Option LoopReturn} {n : Nat}
    (h : verdict now x a ret = .discovered n) : 1 ≤ n ∧ n ≤ 64 := by
  unfold verdict judgeCount judgeRefresh at h
  repeat' split at h
  all_goals cases h
  omega

/-- A judged return: nodes found, a failure, an error counted, or a lamp's status taken (R153, R155). -/
theorem LoopsFollow.actOn {s u : State} (h : LoopsFollow s u) {l : LoopNo} {a : Await} (ha : u.lc.loops[l].await = some a)
    {v : Verdict} (hv : ∀ n, v = .discovered n → 1 ≤ n ∧ n ≤ 64) : LoopsFollow s (u.actOn l v) := by
  have hquiet : u.lc.loops[l].state ≠ .quiet := by rcases (h.sound l).awaits ha with hs | hs <;> rw [hs] <;> decide
  have hfails (cause : LoopCause) : LoopsFollow s (u.failLoop l cause) := h.changeLoop ((h.sound l).failing hquiet) id _
  cases v with
  | discovered n => exact h.changeLoop ((h.sound l).found hquiet (hv n rfl)) id _
  | noNodes => exact hfails _
  | noReturn => exact hfails _
  | good q st =>
    have hjudged := h.setLoop (l := l) ((h.sound l).judged (Nat.zero_le 2)) id
    exact hjudged.applyQuery l q st
  | failed => exact h.countFailure hquiet

section
variable {s : State} (hs : LoopsSound s)
include hs

theorem LoopsSound.actOn {l : LoopNo} {a : Await} (ha : s.lc.loops[l].await = some a) (ret : Option LoopReturn) :
    LoopsFollow s (s.actOn l (verdict s.sc.local' s.lc.loops[l] a ret)) :=
  hs.followed.actOn ha fun _ => verdict_discovered

/-- A request leaves loops that follow when its owning block's work does. -/
theorem answered_follow {k : Option Kind} {o : Origin} {serve : Taken → State → Served}
    (h : ∀ tk u, LoopsFollow s u → WhenServed (LoopsFollow s) (serve tk u)) :
    WhenNext (LoopsFollow s) (takeRequest k o s fun tk u => answer tk u (serve tk u)) := by
  have hpop : LoopsFollow s (s.popIntake o) := hs.followed.of_loops rfl
  have hrefused (tk : Taken) (c : Code) : LoopsFollow s ((s.popIntake o).refuse tk c) := hpop.of_loops rfl
  exact whenNext_takeRequest hs.followed hpop (fun _ => hrefused _ _) fun rq =>
    answer_keeps (fun _ => hrefused _ _) (h ⟨o, rq⟩ _ hpop)

/-- The commands on one loop or on the health map leave loops that follow. -/
theorem exec_loopsFollow (c : Instr) (hc : writesLamps c = true) (ht : movesTimer c = false) :
    WhenNext (LoopsFollow s) (exec c s) := by
  have hsame := hs.followed
  cases c with
  | setChain o =>
    simp only [exec, execSetChain]
    refine answered_follow hs fun tk u hu => ?_
    simp only [serveSetChain, whenServed_bind, whenServed_pure]
    intro _ _ l _ enable _
    have hreplied (c : Chain) (clamped : Bool) :
        LoopsFollow s ((u.storeChain l c enable).reply tk .done clamped false []) :=
      (hu.storeChain l c enable).of_loops rfl
    exact (hreplied _ _).followSettings l
  | clearHealth o =>
    simp only [exec, execClearHealth]
    refine answered_follow hs fun tk u hu => ?_
    simp only [serveClearHealth, whenServed_bind, whenServed_pure]
    intros
    exact hu.of_loops rfl
  | holdoffEnd l =>
    refine whenNext_liveWhen hsame fun _ hcond => ?_
    simp only [Bool.and_eq_true, beq_iff_eq] at hcond
    obtain ⟨⟨-, hfailed⟩, -⟩ := hcond
    exact hsame.endHoldoff hfailed
  | quietThreshold l =>
    change WhenNext (LoopsFollow s) (execQuietThreshold l s)
    unfold execQuietThreshold
    split
    · exact whenNext_next.mpr hsame
    · exact whenNext_liveWhen hsame fun _ _ => hsame.changeLoop (hs.sound l).quieted id _
  | loopReturnReceived l ret =>
    change WhenNext (LoopsFollow s) (execLoopReturnReceived l ret s)
    unfold execLoopReturnReceived
    split
    · exact whenNext_next.mpr hsame
    · next ha => exact whenNext_live hsame fun _ => hs.actOn ha _
  | loopReturnTimeout l =>
    change WhenNext (LoopsFollow s) (execLoopReturnTimeout l s)
    unfold execLoopReturnTimeout
    split
    · exact whenNext_next.mpr hsame
    · next ha => exact whenNext_liveWhen hsame fun _ _ => hs.actOn ha _
  | loopFailed l ret =>
    change WhenNext (LoopsFollow s) (execLoopFailed l ret s)
    unfold execLoopFailed
    split
    · exact whenNext_next.mpr hsame
    · next ha => exact whenNext_liveWhen hsame fun _ _ => hs.actOn ha _
  | loopBurstEnd l =>
    change WhenNext (LoopsFollow s) (execLoopBurstEnd l s)
    unfold execLoopBurstEnd
    dsimp only
    split
    · exact whenNext_next.mpr hsame
    · next ha => exact whenNext_liveWhen hsame fun _ _ => hsame.setLoop ((hs.sound l).ended ha _) id
  | powerOn _ _ | resetPinAssert | resetPinRelease _ | restart _ | frameStart | composeComplete | settle
  | wakeCompletion => cases ht
  | _ => cases hc

end

/-! ## Steps of the whole part -/

theorem fresh_lamps (strap : Fin 8) (raw : LineNo → Bool) (pending : List Instr) (n : Nat) :
    lampParts (State.fresh strap raw pending n) = lampParts State.reset := rfl

/-- A RESTART makes every loop record afresh (R162). -/
theorem loopsSound_restarted (s : State) : LoopsSound s.restarted := by
  refine loopsSound_awake rfl fun l => ?_
  have hfresh : s.restarted.lc.loops[l] = Loop.fresh := reset_loop l.val l.isLt
  rw [hfresh]
  exact ⟨loopSound_fresh, nofun⟩

/-- A frame start that finds every loop sound and none held for sleep leaves them so (R152). -/
theorem loopsSound_frameStart {s : State} (hawake : s.trimSuspended = false)
    (hloops : ∀ l : LoopNo, LoopSound s.lc.loops[l] ∧ s.lc.loops[l].sleepHold ≠ true) (tf : Time) :
    LoopsSound (s.frameStart tf) := by
  obtain ⟨hps, -, -, -, hframed, -⟩ := frameStart_rest s tf
  refine loopsSound_awake ?_ fun l => ?_
  · rw [State.trimSuspended, hps]
    exact hawake
  · rw [hframed, framedLoop_sleepHold]
    exact ⟨(hloops l).1.framed _, (hloops l).2⟩

theorem matchWakeList_lamps (s : State) : lampParts s.matchWakeList = lampParts s :=
  (StartsFrame.matchCodes (s.setWakeList []) s.tu.wakeList).lamps

/-- A wake's loops discover afresh, and none stays held (R161, R192). -/
theorem LoopsSound.completeWake {s : State} (hs : LoopsSound s) : LoopsSound s.completeWake := by
  have hmatched := matchWakeList_lamps s.wakeUp.wakeLoops
  unfold State.completeWake
  dsimp only
  generalize s.wakeUp.wakeLoops.matchWakeList = u at hmatched ⊢
  simp only [lampParts, Prod.mk.injEq] at hmatched
  obtain ⟨hlc, hsuspended, -⟩ := hmatched
  refine loopsSound_frameStart hsuspended (fun l => ?_) _
  have hwoken : u.lc.loops[l] = s.lc.loops[l].woken := by
    rw [hlc]
    exact mapAt_get s.lc.loops (fun _ x => x.woken) l
  rw [hwoken]
  exact ⟨(hs.sound l).woken, woken_sleepHold _⟩

section
variable {s : State} (hs : LoopsSound s)
include hs

/-- A compose completes with no loop held for sleep (R154, R158, R159). -/
theorem LoopsSound.completeCompose {c : Compose} (hc : s.co.inFlight = some c) : LoopsSound (s.completeCompose c) := by
  have hawake := hs.composing hc
  have hps : (s.completeCompose c).ps = s.ps := by rw [completeCompose_frame]
  refine loopsSound_awake ?_ fun l => ?_
  · rw [State.trimSuspended, hps]
    exact hawake
  · rw [completeCompose_loop, completedLoop_sleepHold]
    exact ⟨(hs.sound l).completed (hs.not_held hawake l) _ _, hs.not_held hawake l⟩

/-- The settle event holds the loops for sleep and enters ASLEEP, with no compose in flight (R161, R190, R191). -/
theorem LoopsSound.settle (hready : s.settleReady = true) : LoopsSound s.settleLoops.fallAsleep := by
  obtain ⟨-, hflight, -⟩ := settleReady_iff.mp hready
  rw [settle_eq]
  refine loopsSound_iff.mpr ⟨fun l => ?_, fun _ _ => rfl, fun _ => hflight⟩
  change LoopSound s.settleLoops.lc.loops[l]
  rw [settleLoops_loop]
  exact (hs.sound l).settled

/-- Asserting the RESET pin cuts off bursts and the compose, and leaves the part state (R58, R162). -/
theorem LoopsSound.abandonWork : LoopsSound s.abandonWork.zeroClocks.holdReset := by
  obtain ⟨hloops, hsleep, -⟩ := loopsSound_iff.mp hs
  have hcut : ∀ l : LoopNo, s.abandonWork.zeroClocks.holdReset.lc.loops[l] = s.lc.loops[l].cutOff :=
    mapAt_get s.lc.loops fun _ x => x.cutOff
  refine loopsSound_iff.mpr ⟨fun l => ?_, fun l e => ?_, fun _ => rfl⟩
  · rw [hcut]
    exact (hloops l).cutOff
  · rw [hcut] at e
    exact hsleep l e

/-! ## Every step -/

/-- The commands that reset the part, begin or end a compose, or move the part into ASLEEP or out of WAKING. -/
theorem exec_loopsSound (c : Instr) (hc : writesLamps c = true) (ht : movesTimer c = true) :
    WhenNext LoopsSound (exec c s) := by
  cases c with
  | powerOn strap raw => exact whenNext_next.mpr (loopsSound_reset.of_same (fresh_lamps ..))
  | resetPinAssert => exact whenNext_live hs fun _ => hs.abandonWork
  | resetPinRelease strap =>
    refine whenNext_next.mpr ?_
    split
    · exact loopsSound_reset.of_same (fresh_lamps ..)
    · exact hs
  | restart o =>
    simp only [exec, execRestart]
    refine whenNext_takeRequest hs (hs.of_same rfl) (fun _ => hs.of_same rfl) fun rq =>
      answer_keeps (fun _ => hs.of_same rfl) ?_
    simp only [serveRestart, whenServed_bind, whenServed_pure]
    intros
    exact (loopsSound_restarted _).of_same (done_lamps ..)
  | frameStart =>
    change WhenNext LoopsSound (execFrameStart s)
    unfold execFrameStart
    split
    · exact whenNext_next.mpr hs
    · next tf htf =>
      refine whenNext_liveWhen hs fun _ hdue => ?_
      obtain ⟨-, -, hstate, -⟩ := (frameDue_iff htf).mp hdue
      have hawake : s.trimSuspended = false := by
        rw [State.trimSuspended]
        rcases hstate with h | h <;> rw [h] <;> rfl
      exact loopsSound_frameStart hawake (fun l => ⟨hs.sound l, hs.not_held hawake l⟩) tf
  | composeComplete =>
    change WhenNext LoopsSound (execComposeComplete s)
    unfold execComposeComplete
    split
    · exact whenNext_next.mpr hs
    · next hflight => exact whenNext_live hs fun _ => hs.completeCompose hflight
  | settle => exact whenNext_liveWhen hs fun _ hready => hs.settle hready
  | wakeCompletion => exact whenNext_liveWhen hs fun _ _ => hs.completeWake
  | setChain _ | clearHealth _ | holdoffEnd _ | quietThreshold _ | loopReturnReceived _ _ | loopReturnTimeout _
  | loopFailed _ _ | loopBurstEnd _ => cases ht
  | _ => cases hc

/-- What leaves the timer's parts leaves whether the part is in ASLEEP or WAKING, and whether a compose is in flight. -/
theorem LoopsSound.follow_timer {t : State} (hloops : LoopsFollow s t) (ht : timerParts t = timerParts s) : LoopsSound t := by
  simp only [timerParts, Prod.mk.injEq] at ht
  obtain ⟨hstate, -, -, hflight, -⟩ := ht
  exact hs.follow hloops (by rw [State.trimSuspended, State.trimSuspended, hstate]) hflight

end

/-- Settles O17: most commands leave what the law reads, those on one loop rewrite it soundly, and those on the whole part
bring every loop along. -/
theorem stepsKeepLoopRecordsSound : Obligations.StepsKeepLoopRecordsSound := by
  refine keptByStep_of_exec (fun s q hs => hs.of_same rfl) (fun s hs => hs.of_same rfl) fun c s hs t ht => ?_
  cases hwrites : writesLamps c with
  | false => exact hs.of_same (exec_sameLamps c hwrites s t ht)
  | true =>
    cases hmoves : movesTimer c with
    | true => exact exec_loopsSound hs c hwrites hmoves t ht
    | false => exact hs.follow_timer (exec_loopsFollow hs c hwrites hmoves t ht) (exec_sameTimer c hmoves s t ht)

end Sys2Proof.Machine

/-! PROOF. Bursts and returns (R149, R151, R153, R155 to R157, R163, R165): what each return is judged to be, what a verdict does
to its loop, and the commands at an awaited return and at none. -/

namespace Sys2Proof.Machine

/-! ## The time of a return (R151) -/

section
variable {now : Time} {a : Await}

theorem timedOut_iff : timedOut now a = true ↔ ∃ t, a.ended = some t ∧ 200 ≤ (now - t).toNat := by
  rw [timedOut, Option.any_eq_true]
  simp only [localSince, returnTimeout, decide_eq_true_eq, ge_iff_le]

theorem timedOut_early (h : a.ended = none ∨ ∃ t, a.ended = some t ∧ (now - t).toNat < 200) : timedOut now a = false := by
  refine Bool.eq_false_iff.mpr fun hout => ?_
  obtain ⟨t, ht, hlong⟩ := timedOut_iff.mp hout
  rcases h with hnone | ⟨u, hu, hshort⟩
  · exact nomatch hnone.symm.trans ht
  · cases hu.symm.trans ht
    omega

theorem tooLate_eq_false : tooLate now a = false ↔ ∀ t, a.ended = some t → (now - t).toNat ≤ 200 := by
  rw [tooLate, Option.any_eq_false]
  simp only [localSince, returnTimeout, decide_eq_false_iff_not, gt_iff_lt, Nat.not_lt]

/-- A return in time and with an agreeing check word (R151; for the very microsecond, log entry 18). -/
def GoodReturn (now : Time) (a : Await) (ret : LoopReturn) : Prop :=
  ret.checkGood = true ∧ ∀ t, a.ended = some t → (now - t).toNat ≤ 200

/-! ## What a return is judged to be (R151, R153, R155) -/

theorem goodReturn_iff {ret : LoopReturn} : (tooLate now a || !ret.checkGood) = false ↔ GoodReturn now a ret := by
  rw [Bool.or_eq_false_iff, Bool.not_eq_false', tooLate_eq_false, GoodReturn, and_comm]

variable {x : Loop}

section
variable (hk : a.kind = .count)
include hk

theorem verdict_count (ret : Option LoopReturn) : verdict now x a ret = judgeCount (tooLate now a) ret := by
  rw [verdict, hk]

theorem verdict_count_none : verdict now x a none = .noReturn := verdict_count hk none

theorem verdict_count_good {ret : LoopReturn} (hg : GoodReturn now a ret) : verdict now x a (some ret) =
    if ret.hops = 0 then .noNodes else if ret.hops ≤ 64 then .discovered ret.hops else .noReturn := by
  rw [verdict_count hk, judgeCount, goodReturn_iff.mpr hg]
  rfl

theorem verdict_count_discovered {ret : LoopReturn} (hg : GoodReturn now a ret) (hlow : 1 ≤ ret.hops)
    (hhigh : ret.hops ≤ 64) : verdict now x a (some ret) = .discovered ret.hops := by
  rw [verdict_count_good hk hg, if_neg (Nat.ne_of_gt hlow), if_pos hhigh]

theorem verdict_count_noNodes {ret : LoopReturn} (hg : GoodReturn now a ret) (hzero : ret.hops = 0) :
    verdict now x a (some ret) = .noNodes := by
  rw [verdict_count_good hk hg, if_pos hzero]

theorem verdict_count_noReturn {ret : LoopReturn} (h : ¬GoodReturn now a ret ∨ 64 < ret.hops) :
    verdict now x a (some ret) = .noReturn := by
  by_cases hg : GoodReturn now a ret
  · have hfar : 64 < ret.hops := h.resolve_left (not_not_intro hg)
    rw [verdict_count_good hk hg, if_neg (by omega), if_neg (by omega)]
  · have hbad : (tooLate now a || !ret.checkGood) = true := Bool.not_eq_false _ ▸ goodReturn_iff.not.mpr hg
    rw [verdict_count hk, judgeCount, if_pos hbad]

end

section
variable {q : Nat} (hk : a.kind = .refresh q)
include hk

theorem verdict_refresh (ret : Option LoopReturn) :
    verdict now x a ret = judgeRefresh (tooLate now a) x.nodes q ret := by
  rw [verdict, hk]

theorem verdict_refresh_none : verdict now x a none = .failed := verdict_refresh hk none

theorem verdict_refresh_good {ret : LoopReturn} {st : StatusWord} (hg : GoodReturn now a ret) (hn : ret.hops = x.nodes)
    (hst : ret.status = some st) : verdict now x a (some ret) = .good q st := by
  rw [verdict_refresh hk, judgeRefresh, hst]
  dsimp only
  rw [goodReturn_iff.mpr hg, hn, bne_self_eq_false]
  rfl

theorem verdict_refresh_failed {ret : LoopReturn}
    (h : ¬GoodReturn now a ret ∨ ret.hops ≠ x.nodes ∨ ret.status = none) : verdict now x a (some ret) = .failed := by
  rw [verdict_refresh hk, judgeRefresh]
  split
  · rfl
  · next st hst =>
    refine if_pos ?_
    rw [Bool.or_eq_true, bne_iff_ne, ← Bool.not_eq_false, goodReturn_iff]
    exact h.imp_right fun hrest => hrest.resolve_right (by rw [hst]; exact nofun)

end

end

/-! ## What a verdict does (R153, R155, R163, R165) -/

/-- A REFRESH return that fails: the third in a row fails the loop (R155). -/
theorem countFailure_eq (s : State) (l : LoopNo) : s.countFailure l =
    if s.lc.loops[l].errors < 2 then
      s.setLoop l { s.lc.loops[l] with errors := s.lc.loops[l].errors + 1, await := none }
    else s.failLoop l .errors := by
  unfold State.countFailure
  dsimp only
  split
  · next h => rw [if_neg (Nat.not_lt.mpr h)]
  · next h => rw [if_pos (Nat.lt_of_not_le h)]

theorem actOn_failed (s : State) (l : LoopNo) : s.actOn l .failed = s.countFailure l := rfl

/-- LOOP_FAILED at a REFRESH return that fails is the third in a row alone (log entry 6). -/
theorem failsLoop_failed (s : State) (l : LoopNo) :
    (if failsLoop s.lc.loops[l] .failed = true then s.actOn l .failed else s) =
      if s.lc.loops[l].errors < 2 then s else s.failLoop l .errors := by
  simp only [actOn_failed, countFailure_eq, failsLoop, decide_eq_true_eq]
  by_cases h : s.lc.loops[l].errors < 2
  · rw [if_neg (Nat.not_le.mpr h), if_pos h]
  · rw [if_pos (Nat.not_lt.mp h), if_neg h, if_neg h]

/-- A good query clears the error count and gives its status word to the lamp queried. -/
theorem actOn_good (s : State) (l : LoopNo) (k : Fin 64) (st : StatusWord) : s.actOn l (.good k.val st) =
    (s.setLoop l { s.lc.loops[l] with errors := 0, await := none }).applyStatus (lampAt l k) st := by
  change State.applyQuery _ l k.val st = _
  rw [State.applyQuery, fin?_val]

/-! ## The commands -/

section
variable {s : State} {l : LoopNo}

theorem exec_unawaited (h : s.lc.loops[l].await = none) :
    exec (.loopBurstEnd l) s = .next s ∧ exec (.loopReturnTimeout l) s = .next s ∧
      ∀ ret, exec (.loopReturnReceived l ret) s = .next s ∧ ∀ ret, exec (.loopFailed l ret) s = .next s := by
  change execLoopBurstEnd l s = _ ∧ execLoopReturnTimeout l s = _ ∧
    ∀ ret, execLoopReturnReceived l ret s = _ ∧ ∀ ret, execLoopFailed l ret s = _
  simp only [execLoopBurstEnd, execLoopReturnTimeout, execLoopReturnReceived, execLoopFailed, h, implies_true, and_self]

variable {a : Await} (ha : s.lc.loops[l].await = some a)
include ha

theorem exec_loopBurstEnd_awaited : exec (.loopBurstEnd l) s = s.liveWhen a.ended.isNone
    (s.setLoop l { s.lc.loops[l] with await := some { a with ended := some s.sc.local' } }) := by
  change execLoopBurstEnd l s = _
  rw [execLoopBurstEnd, ha]

theorem exec_loopReturnTimeout_awaited : exec (.loopReturnTimeout l) s =
    s.liveWhen (timedOut s.sc.local' a) (s.actOn l (verdict s.sc.local' s.lc.loops[l] a none)) := by
  change execLoopReturnTimeout l s = _
  rw [execLoopReturnTimeout, ha]

theorem exec_loopFailed_awaited (ret : Option LoopReturn) : exec (.loopFailed l ret) s =
    let v := verdict s.sc.local' s.lc.loops[l] a ret
    s.liveWhen ((ret.isSome || timedOut s.sc.local' a) && failsLoop s.lc.loops[l] v) (s.actOn l v) := by
  change execLoopFailed l ret s = _
  rw [execLoopFailed, ha]

/-- The end of a burst is recorded once. -/
theorem exec_loopBurstEnd_again (h : a.ended ≠ none) : exec (.loopBurstEnd l) s = .next s := by
  have hended : a.ended.isNone = false := Option.isNone_eq_false_iff.mpr (Option.isSome_iff_ne_none.mpr h)
  rw [exec_loopBurstEnd_awaited ha, hended, liveWhen_false]

/-- Before its time is out a return is not missed. -/
theorem exec_loopReturnTimeout_early
    (h : a.ended = none ∨ ∃ t, a.ended = some t ∧ (s.sc.local' - t).toNat < 200) :
    exec (.loopReturnTimeout l) s = .next s ∧ exec (.loopFailed l none) s = .next s := by
  have hearly := timedOut_early h
  rw [exec_loopReturnTimeout_awaited ha, exec_loopFailed_awaited ha, hearly]
  exact ⟨liveWhen_false .., liveWhen_false ..⟩

variable (hr : s.ps.resetHeld = false)
include hr

theorem exec_loopBurstEnd_first (h : a.ended = none) : exec (.loopBurstEnd l) s =
    .next (s.setLoop l { s.lc.loops[l] with await := some { a with ended := some s.sc.local' } }) := by
  rw [exec_loopBurstEnd_awaited ha, h]
  exact liveWhen_true _ hr

/-- A return in or out of time is judged. -/
theorem exec_loopReturnReceived_awaited {ret : LoopReturn} {v : Verdict}
    (hv : verdict s.sc.local' s.lc.loops[l] a (some ret) = v) :
    exec (.loopReturnReceived l ret) s = .next (s.actOn l v) := by
  change execLoopReturnReceived l ret s = _
  rw [execLoopReturnReceived, ha]
  dsimp only
  rw [hv, live_free _ hr]

theorem exec_loopFailed_returned {ret : LoopReturn} {v : Verdict}
    (hv : verdict s.sc.local' s.lc.loops[l] a (some ret) = v) :
    exec (.loopFailed l (some ret)) s = .next (if failsLoop s.lc.loops[l] v = true then s.actOn l v else s) := by
  rw [exec_loopFailed_awaited ha]
  dsimp only
  rw [hv]
  exact live_free _ hr

variable (hout : ∃ t, a.ended = some t ∧ 200 ≤ (s.sc.local' - t).toNat)
include hout

theorem exec_loopReturnTimeout_out {v : Verdict} (hv : verdict s.sc.local' s.lc.loops[l] a none = v) :
    exec (.loopReturnTimeout l) s = .next (s.actOn l v) := by
  rw [exec_loopReturnTimeout_awaited ha, timedOut_iff.mpr hout, hv, liveWhen_true _ hr]

theorem exec_loopFailed_out {v : Verdict} (hv : verdict s.sc.local' s.lc.loops[l] a none = v) :
    exec (.loopFailed l none) s = .next (if failsLoop s.lc.loops[l] v = true then s.actOn l v else s) := by
  rw [exec_loopFailed_awaited ha]
  dsimp only
  rw [hv, timedOut_iff.mpr hout]
  exact live_free _ hr

end

/-- Settles O52: each command by whether a return is awaited and timed out, and each return by its verdict. -/
theorem loopReturnsAreJudged : Obligations.LoopReturnsAreJudged := by
  intro l s hr x now failed struck
  have hstruck : s.actOn l .failed = struck := (actOn_failed s l).trans (countFailure_eq s l)
  have hthird := failsLoop_failed s l
  refine ⟨exec_unawaited, fun a ha => ⟨exec_loopBurstEnd_first ha hr, exec_loopBurstEnd_again ha,
    exec_loopReturnTimeout_early ha, fun hout => ⟨fun hk => ?countOut, fun q hk => ?refreshOut⟩, fun ret => ?returned⟩⟩
  case' returned =>
    intro good
    refine ⟨fun hk hg hlow hhigh => ?discovered, fun hk hg hzero => ?noNodes, fun hk hbad => ?noReturn, fun q hk =>
      ⟨fun hbad => ?refreshFailed, fun st k hg hn hst hq => ?refreshGood⟩⟩
  case countOut =>
    have hv := verdict_count_none (now := now) (x := x) hk
    exact ⟨exec_loopReturnTimeout_out ha hr hout hv, exec_loopFailed_out ha hr hout hv⟩
  case refreshOut =>
    have hv := verdict_refresh_none (now := now) (x := x) hk
    exact ⟨(exec_loopReturnTimeout_out ha hr hout hv).trans (congrArg _ hstruck),
      (exec_loopFailed_out ha hr hout hv).trans (congrArg _ hthird)⟩
  case discovered =>
    have hv := verdict_count_discovered (x := x) hk hg hlow hhigh
    exact ⟨exec_loopFailed_returned ha hr hv, exec_loopReturnReceived_awaited ha hr hv⟩
  case noNodes =>
    have hv := verdict_count_noNodes (x := x) hk hg hzero
    exact ⟨exec_loopReturnReceived_awaited ha hr hv, exec_loopFailed_returned ha hr hv⟩
  case noReturn =>
    have hv := verdict_count_noReturn (x := x) hk hbad
    exact ⟨exec_loopReturnReceived_awaited ha hr hv, exec_loopFailed_returned ha hr hv⟩
  case refreshFailed =>
    have hv := verdict_refresh_failed hk hbad
    exact ⟨(exec_loopReturnReceived_awaited ha hr hv).trans (congrArg _ hstruck),
      (exec_loopFailed_returned ha hr hv).trans (congrArg _ hthird)⟩
  case refreshGood =>
    subst hq
    have hv := verdict_refresh_good hk hg hn hst
    exact ⟨exec_loopFailed_returned ha hr hv,
      (exec_loopReturnReceived_awaited ha hr hv).trans (congrArg _ (actOn_good s l k st))⟩

end Sys2Proof.Machine

/-! PROOF. CLEAR_HEALTH (R164): its two checks, and the health map it leaves. -/

namespace Sys2Proof.Machine

theorem unshorted_get (first count : Nat) (health : Vector Health 384) (lam : LampNo) :
    (unshorted first count health)[lam] = if first ≤ lam.val ∧ lam.val < first + count
      then { health[lam] with shortMask := ⟨false, false, false⟩ } else health[lam] := by
  rw [unshorted, mapAt_get]
  simp only [inRange, decide_eq_true_eq]
  rfl

section
variable {s : State} {o : Origin} {rq : Intake} (h : Takes s o .clearHealth rq)
include h

theorem exec_clearHealth : exec (.clearHealth o) s =
    .next (answer ⟨o, rq⟩ (s.popIntake o) (serveClearHealth ⟨o, rq⟩ (lampRangeArgs rq.data) (s.popIntake o))) :=
  takeRequest_takes (fun tk s => answer tk s (serveClearHealth tk (lampRangeArgs tk.req.data) s)) h

theorem exec_clearHealth_noRight (ho : o ≠ .service) :
    exec (.clearHealth o) s = .next (turnedAway s o rq .noRight) := by
  rw [exec_clearHealth h, serveClearHealth, decide_eq_true ho, require_true_bind, answer_error, refuse_popIntake]

/-- SERVICE leaves the check of the range. -/
theorem exec_clearHealth_checked (ho : o = .service) : exec (.clearHealth o) s =
    .next (answer ⟨o, rq⟩ (s.popIntake o) (require (!rangeOk (leAt rq.data 2 2) (leAt rq.data 4 2)) .badValue >>= fun _ =>
      .ok (((s.popIntake o).clearShorts (leAt rq.data 2 2) (leAt rq.data 4 2)).done ⟨o, rq⟩
        (leBytes 2 ((s.popIntake o).shortedIn (leAt rq.data 2 2) (leAt rq.data 4 2)))))) := by
  rw [exec_clearHealth h, serveClearHealth, decide_eq_false (not_not_intro ho), require_false_bind]
  rfl

theorem exec_clearHealth_badValue (ho : o = .service) (hrange : rangeOk (leAt rq.data 2 2) (leAt rq.data 4 2) = false) :
    exec (.clearHealth o) s = .next (turnedAway s o rq .badValue) := by
  rw [exec_clearHealth_checked h ho, hrange]
  exact congrArg _ (refuse_popIntake ..)

theorem exec_clearHealth_cleared (ho : o = .service) (hrange : rangeOk (leAt rq.data 2 2) (leAt rq.data 4 2) = true) :
    exec (.clearHealth o) s = .next (served (s.clearShorts (leAt rq.data 2 2) (leAt rq.data 4 2)) o rq .done false false
      (leBytes 2 (s.shortedIn (leAt rq.data 2 2) (leAt rq.data 4 2)))) := by
  rw [exec_clearHealth_checked h ho, hrange, ← done_popIntake]
  rfl

end

/-- Settles O53: the request by its two checks, and the map it leaves lamp by lamp. -/
theorem healthIsClearedByService : Obligations.HealthIsClearedByService := by
  intro o s rq h first count
  refine ⟨exec_clearHealth_noRight h, fun ho hbad => exec_clearHealth_badValue h ho ?_, fun ho hcount hlast =>
    ⟨_, exec_clearHealth_cleared h ho (rangeOk_iff.mpr ⟨hcount, hlast⟩), unshorted_get first count s.lc.health⟩⟩
  rw [← Bool.not_eq_true, rangeOk_iff]
  omega

end Sys2Proof.Machine

/-! PROOF. SET_WATCH (R168, R172): the check of its comparator A, the record it writes and the lines it forms. -/

namespace Sys2Proof.Machine

/-! ## Comparator fields (R168) -/

/-- A comparator field of a known kind is stored with its threshold in range, unless it is an OFF where none may be. -/
theorem comparator?_stored {mayBeOff : Bool} {kind threshold : Nat} {k : CompareKind} (hk : compareKind? kind = some k)
    (hoff : k = .off → mayBeOff = true) : comparator? mayBeOff kind threshold = some ⟨k, min 4095 threshold⟩ := by
  rw [comparator?, hk]
  cases k with
  | off => exact if_pos (hoff rfl)
  | below | atLeast | equal => rfl

theorem comparator?_off {kind : Nat} (hk : compareKind? kind = some .off) (threshold : Nat) :
    comparator? false kind threshold = none := by
  rw [comparator?, hk]
  rfl

/-! ## SET_WATCH -/

section
variable {s : State} {o : Origin} {rq : Intake}

theorem exec_setWatch (h : Takes s o .setWatch rq) : exec (.setWatch o) s =
    .next (answer ⟨o, rq⟩ (s.popIntake o) (serveSetWatch ⟨o, rq⟩ (setWatchArgs rq.data) (s.popIntake o))) :=
  takeRequest_takes (fun tk s => answer tk s (serveSetWatch tk (setWatchArgs tk.req.data) s)) h

/-- The state with a watch record replaced and both lines formed again (R168, R172). -/
def State.replaceWatch (s : State) (w : WatchNo) (x : Watch) : State := (s.setWatchRec w x).formLines

theorem replaceWatch_eq (s : State) (w : WatchNo) (x : Watch) : s.replaceWatch w x =
    { s with wu := ⟨setAt s.wu.watches w x, lineHigh (setAt s.wu.watches w x) .sig0,
      lineHigh (setAt s.wu.watches w x) .sig1⟩ } := rfl

/-- A SET_WATCH of known fields is left to the check of its comparator A (R168, check 4). -/
theorem exec_setWatch_checked (h : TakesConfig s o .setWatch rq) {w : WatchNo} {z : ZoneNo} {enabled notice : Bool}
    {m : Measure} {kb : CompareKind} {combine : Combine} {signal : Signal}
    (hw : byteAt rq.data 2 = w.val) (henabled : yesNo? (byteAt rq.data 3) = some enabled) (hz : byteAt rq.data 4 = z.val)
    (hm : measure? (byteAt rq.data 5) = some m) (hkb : compareKind? (byteAt rq.data 9) = some kb)
    (hcombine : combine? (byteAt rq.data 12) = some combine) (hnotice : yesNo? (byteAt rq.data 13) = some notice)
    (hsignal : signal? (byteAt rq.data 14) = some signal) :
    exec (.setWatch o) s = .next (answer ⟨o, rq⟩ (s.popIntake o)
      (found (comparator? false (byteAt rq.data 6) (leAt rq.data 7 2)) .badValue >>= fun cmpA =>
        .ok (served (s.replaceWatch w
            ⟨enabled, z, m, cmpA, ⟨kb, min 4095 (leAt rq.data 10 2)⟩, combine, notice, signal, false⟩) o rq .done
          (decide (4095 < leAt rq.data 7 2 ∨ 4095 < leAt rq.data 10 2)) false []))) := by
  obtain ⟨htakes, ho, hs⟩ := h
  have hcmpB := comparator?_stored (mayBeOff := true) (threshold := leAt rq.data 10 2) hkb fun _ => rfl
  rw [exec_setWatch htakes, serveSetWatch, configChecks_bind ho hs]
  simp only [setWatchArgs, hw, hz, fin?_val, hm, hcombine, hsignal, henabled, hnotice, hcmpB, found_some_bind,
    ← reply_popIntake]
  rfl

end

/-- Settles O37: the check of comparator A, then the record written and the lines formed by `lineHigh`. -/
theorem setWatchReplacesTheWatch : Obligations.SetWatchReplacesTheWatch := by
  intro o s rq w z enabled notice m ka kb combine signal h hw henabled hz hm hka hkb hcombine hnotice hsignal
  have hexec := exec_setWatch_checked h hw henabled hz hm hkb hcombine hnotice hsignal
  refine ⟨fun hoff => ?refused, fun hon => ⟨_, _, _, rfl, lineHigh_iff, lineHigh_iff, ?replaced⟩⟩
  case refused =>
    rw [hexec, comparator?_off (hoff ▸ hka), found_none_bind, answer_error, refuse_popIntake]
  case replaced =>
    rw [hexec, comparator?_stored hka fun hoff => absurd hoff hon, found_some_bind, answer_ok, replaceWatch_eq]

end Sys2Proof.Machine

/-! PROOF. What every command does to the queue of commands, the ports' queues and the error counts (R175, R177, R182): notices
and one reply join the transmit queues within their 8 places, frames join and leave, counts move within their range. -/

namespace Sys2Proof.Machine

/-! ## Notices told -/

/-- The second state has the commands, error counts and intake queues of the first, and no transmit queue has grown past its 8
places. -/
structure Tells (s t : State) : Prop where
  pending : t.pending = s.pending
  ca : t.mp.ca = s.mp.ca
  cb : t.mp.cb = s.mp.cb
  intake : ∀ o, (t.port o).intake = (s.port o).intake
  tx : ∀ o, (t.port o).tx.length ≤ max 8 (s.port o).tx.length

theorem Tells.refl (s : State) : Tells s s := ⟨rfl, rfl, rfl, fun _ => rfl, fun _ => Nat.le_max_right ..⟩

theorem Tells.trans {s t u : State} (h : Tells s t) (g : Tells t u) : Tells s u :=
  ⟨g.pending.trans h.pending, g.ca.trans h.ca, g.cb.trans h.cb, fun o => (g.intake o).trans (h.intake o),
    fun o => (g.tx o).trans (Nat.max_le.mpr ⟨Nat.le_max_left .., h.tx o⟩)⟩

/-- Work of the other blocks leaves the commands and the ports as they are. -/
theorem Tells.of_same {s t : State} (hpending : t.pending = s.pending) (hmp : t.mp = s.mp) : Tells s t := by
  have hport (o : Origin) : t.port o = s.port o := by rw [State.port, hmp, State.port]
  exact ⟨hpending, by rw [hmp], by rw [hmp], fun o => by rw [hport], fun o => by rw [hport]; exact Nat.le_max_right ..⟩

/-- Work of the other blocks before what tells. -/
theorem Tells.after {s t u : State} (h : Tells t u) (hpending : t.pending = s.pending) (hmp : t.mp = s.mp) : Tells s u :=
  .trans (.of_same hpending hmp) h

theorem Tells.setPort {s : State} {o : Origin} {p : Port} (hintake : p.intake = (s.port o).intake)
    (htx : p.tx.length ≤ max 8 (s.port o).tx.length) : Tells s (s.setPort o p) := by
  refine ⟨rfl, rfl, rfl, fun q => ?_, fun q => ?_⟩
  · rw [setPort_port]
    split
    · next h => rw [hintake, h]
    · rfl
  · rw [setPort_port]
    split
    · next h => rw [h]; exact htx
    · exact Nat.le_max_right ..

section
variable (s : State)

/-- A notice is entered only where there is a place (R182). -/
theorem Tells.notify (o : Origin) (n : Notice) : Tells s (s.notify o n) := by
  unfold State.notify
  dsimp only
  split
  · split
    · next hplace =>
      refine .setPort rfl ?_
      rw [List.length_append]
      exact Nat.le_trans hplace (Nat.le_max_left ..)
    · exact .setPort rfl (Nat.le_max_right ..)
  · exact .refl s

theorem Tells.notifyAll (n : Notice) : Tells s (s.notifyAll n) :=
  foldl_related Tells.refl Tells.trans (fun u o => .notify u o n) _ s

theorem Tells.notifyOwner (o : Option Origin) (n : Notice) : Tells s (s.notifyOwner o n) := by
  cases o with
  | none => exact .refl s
  | some o => exact .notify s o n

/-! ## Cues and codes -/

theorem Tells.endCue (c : CueNo) (cue : Cue) (why : EndReason) : Tells s (s.endCue c cue why) :=
  (Tells.notify ..).after rfl rfl

theorem Tells.schedule (c : CueNo) (cue : Cue) (start : Time) (o : Origin) : Tells s (s.schedule c cue start o) := by
  have hentered (q : List StartEntry) (x : Option Cue) : Tells s ((s.setCue c x).setStartQueue q) := .of_same rfl rfl
  unfold State.schedule
  dsimp only
  split
  · exact (hentered ..).trans (.notify ..)
  · exact hentered ..

theorem Tells.stop (c : CueNo) (cue : Cue) : Tells s (s.stop c cue) := by
  unfold State.stop
  split
  · exact .refl s
  · exact (Tells.endCue ..).after rfl rfl
  · split
    · exact .of_same rfl rfl
    · exact .endCue ..
  · exact .endCue ..

theorem Tells.emptyCue (c : CueNo) (cue : Cue) (why : EndReason) : Tells s (s.emptyCue c cue why) := by
  have hemptied (q : List StartEntry) : Tells s ((s.setCue c none).setStartQueue q) := .of_same rfl rfl
  unfold State.emptyCue
  dsimp only
  split
  · exact hemptied ..
  · exact (hemptied ..).trans (.notify ..)

theorem Tells.endCuesWhere (p : Cue → Bool) (why : EndReason) : Tells s (s.endCuesWhere p why) := by
  refine foldl_related Tells.refl Tells.trans (fun u c => ?_) _ s
  split
  · exact .refl u
  · split
    · exact .endCue ..
    · exact .refl u

theorem Tells.setStartQueue (q : List StartEntry) : Tells s (s.setStartQueue q) := .of_same rfl rfl

theorem Tells.endAllCues (why : EndReason) : Tells s (s.endAllCues why) :=
  (Tells.endCuesWhere ..).trans (.setStartQueue ..)

theorem Tells.actStart (c : CueNo) (cue : Cue) (stamp : Time) (o : Origin) : Tells s (s.actStart c cue stamp o) := by
  unfold State.actStart
  split
  · exact .refl s
  · exact .schedule ..

theorem Tells.act (e : BindEntry) (stamp : Time) : Tells s (s.act e stamp) := by
  unfold State.act
  split
  · split
    · exact .refl s
    · split
      · exact .actStart ..
      · exact .stop ..
      · split
        · exact .actStart ..
        · exact .stop ..
  · exact .refl s

theorem Tells.matchCode (src : CodeSource) (code : Byte) (stamp : Time) : Tells s (s.matchCode src code stamp) :=
  (foldl_related Tells.refl Tells.trans (fun u e => .act u e stamp) _ s).trans (.notifyAll ..)

theorem Tells.matchWakeList : Tells s s.matchWakeList := by
  refine .trans (t := s.setWakeList []) (.of_same rfl rfl) ?_
  apply foldl_related Tells.refl Tells.trans
  exact fun u w => .matchCode ..

/-! ## Lines -/

theorem Tells.wakeEvent : Tells s s.wakeEvent := by
  unfold State.wakeEvent
  split
  · exact .of_same rfl rfl
  · exact .refl s

theorem Tells.addWake (t : LineNo) (e : EdgeKind) (stamp : Time) : Tells s (s.addWake t e stamp) := by
  unfold State.addWake
  split
  · exact .of_same rfl rfl
  · exact .notifyAll ..

theorem Tells.handleEdge (t : LineNo) (e : EdgeKind) (stamp : Time) : Tells s (s.handleEdge t e stamp) := by
  unfold State.handleEdge
  split
  · exact .matchCode ..
  · exact .matchCode ..
  · exact .notifyAll ..
  · split
    · exact (Tells.addWake ..).trans (.wakeEvent _)
    · exact .notifyAll ..
  · exact .addWake ..

theorem Tells.mirrorTo (f : Option FlagNo) (v : Bool) : Tells s (s.mirrorTo f v) := by
  cases f with
  | none => exact .refl s
  | some f => exact .of_same rfl rfl

theorem Tells.acceptChange (t : LineNo) (level : Bool) : Tells s (s.acceptChange t level) := by
  have hmirror (x : Line) (f : Option FlagNo) : Tells s ((s.setLineRec t x).mirrorTo f level) :=
    (Tells.mirrorTo ..).after rfl rfl
  unfold State.acceptChange State.takeEdge
  dsimp only
  split
  · exact hmirror ..
  · split
    · exact (Tells.handleEdge ..).after rfl rfl
    · exact .of_same rfl rfl

/-! ## Layers and gates -/

theorem Tells.expireGate (o : Origin) : Tells s (s.expireGate o) :=
  (Tells.notify ..).after rfl rfl

/-! ## Loops -/

theorem Tells.changeLoop (l : LoopNo) (x : Loop) (cause : LoopCause) : Tells s (s.changeLoop l x cause) :=
  (Tells.notifyAll ..).after rfl rfl

theorem Tells.endHoldoff (l : LoopNo) : Tells s (s.endHoldoff l) :=
  (Tells.changeLoop ..).after rfl rfl

theorem Tells.followSettings (l : LoopNo) : Tells s (s.followSettings l) := by
  unfold State.followSettings
  dsimp only
  split
  · split
    · exact .refl s
    · exact .changeLoop ..
  · split
    · exact (Tells.changeLoop ..).after rfl rfl
    · exact .refl s

theorem Tells.loopAtFrame (l : LoopNo) : Tells s (s.loopAtFrame l) := by
  unfold State.loopAtFrame
  dsimp only
  split
  · exact .of_same rfl rfl
  · exact .of_same rfl rfl
  · split
    · exact .endHoldoff ..
    · exact .of_same rfl rfl
  · exact .of_same rfl rfl
  · exact .of_same rfl rfl

theorem Tells.applyQuery (l : LoopNo) (q : Nat) (st : StatusWord) : Tells s (s.applyQuery l q st) := by
  unfold State.applyQuery State.applyStatus
  split
  · exact .refl s
  · dsimp only
    split
    · exact .of_same rfl rfl
    · exact (Tells.notifyAll ..).after rfl rfl

theorem Tells.actOn (l : LoopNo) (v : Verdict) : Tells s (s.actOn l v) := by
  cases v with
  | discovered n => exact .changeLoop ..
  | noNodes => exact .changeLoop ..
  | noReturn => exact .changeLoop ..
  | good q st => exact (Tells.applyQuery ..).after rfl rfl
  | failed =>
    change Tells s (s.countFailure l)
    unfold State.countFailure
    dsimp only
    split
    · exact .changeLoop ..
    · exact .of_same rfl rfl

theorem Tells.loopAtCompletion (codes : LoopNo → List Rgb) (l : LoopNo) : Tells s (s.loopAtCompletion codes l) := by
  unfold State.loopAtCompletion
  dsimp only
  split
  · split
    · generalize (if allDark _ then _ else 0 : Nat) = n
      split
      · exact .changeLoop ..
      · exact .of_same rfl rfl
    · exact .refl s
  · split
    · exact .refl s
    · exact .changeLoop ..
  all_goals exact .refl s

/-! ## Composes and watches -/

theorem Tells.settleVoid (c : Compose) (lamps : Vector LampOut 384) (i : LayerNo) : Tells s (s.settleVoid c lamps i) := by
  unfold State.settleVoid
  dsimp only
  split
  · exact .refl s
  · split
    · exact .of_same rfl rfl
    · split
      · exact .refl s
      · exact (Tells.notifyOwner ..).after rfl rfl

theorem Tells.settleLimit (loops : Vector LoopOut 6) (l : LoopNo) : Tells s (s.settleLimit loops l) := by
  unfold State.settleLimit
  dsimp only
  split
  · exact (Tells.notifyAll ..).after rfl rfl
  · exact .of_same rfl rfl

theorem Tells.evalWatch (c : Compose) (drives : Vector Rgb 384) (w : WatchNo) : Tells s (s.evalWatch c drives w) := by
  unfold State.evalWatch
  dsimp only
  split
  · exact .refl s
  · split
    · exact (Tells.notifyAll ..).after rfl rfl
    · exact .of_same rfl rfl

theorem Tells.completeCompose (c : Compose) : Tells s (s.completeCompose c) := by
  have hvoids (u : State) : Tells u ((List.finRange 16).foldl (fun s i => s.settleVoid c c.lamps i) u) :=
    foldl_related Tells.refl Tells.trans (fun v i => .settleVoid v ..) _ u
  have hlimits (loops : Vector LoopOut 6) (u : State) :
      Tells u ((List.finRange 6).foldl (fun s l => s.settleLimit loops l) u) :=
    foldl_related Tells.refl Tells.trans (fun v l => .settleLimit v ..) _ u
  have hloops (codes : LoopNo → List Rgb) (u : State) : Tells u (u.loopsAtCompletion codes) :=
    foldl_related Tells.refl Tells.trans (fun v l => .loopAtCompletion v ..) _ u
  have hlines (u : State) : Tells u u.formLines := .of_same rfl rfl
  have hwatches (drives : Vector Rgb 384) (u : State) : Tells u (u.evalWatches c drives) :=
    (foldl_related Tells.refl Tells.trans (fun v w => .evalWatch v ..) _ u).trans (hlines _)
  have hlanded : Tells s { s with co := { s.co with inFlight := none } } := .of_same rfl rfl
  exact hlanded.trans ((hvoids _).trans ((hlimits ..).trans ((hloops ..).trans (hwatches ..))))

/-! ## Frame starts, settle, wake, FORGET -/

theorem Tells.startCueAt (tf : Time) (c : CueNo) (cue : Cue) (start : Time) : Tells s (s.startCueAt tf c cue start) := by
  have hstarted (x : Option Cue) : Tells s (s.setCue c x) := .of_same rfl rfl
  have htold : ∀ u, Tells s u → Tells s
      (if cue.autoShow then u.setLayer cue.layer { u.lt.layers[cue.layer] with state := .shown } else u) := by
    intro u hu
    split
    · exact hu.trans (.of_same rfl rfl)
    · exact hu
  refine htold _ ?_
  split
  · exact (hstarted _).trans (.notify ..)
  · exact hstarted _

theorem Tells.resolve (tf : Time) (e : StartEntry) : Tells s (s.resolve tf e) := by
  unfold State.resolve
  split
  · exact .refl s
  · dsimp only
    split
    · exact .endCue ..
    · exact (Tells.endCuesWhere ..).trans (.startCueAt ..)

theorem Tells.naturalEnd (c : CueNo) (cue : Cue) : Tells s (s.naturalEnd c cue) :=
  (Tells.endCue ..).after rfl rfl

theorem Tells.endIfDue (tf : Time) (c : CueNo) : Tells s (s.endIfDue tf c) := by
  unfold State.endIfDue
  split
  · exact .refl s
  · split
    · exact .endCue ..
    · split
      · exact .naturalEnd ..
      · exact .refl s

theorem Tells.frameStart (tf : Time) : Tells s (s.frameStart tf) := by
  have hstarts (u : State) : Tells u (u.dueStarts tf) :=
    (Tells.setStartQueue u _).trans (foldl_related Tells.refl Tells.trans (fun v e => .resolve v tf e) _ _)
  have hends (u : State) : Tells u (u.cueEnds tf) :=
    foldl_related Tells.refl Tells.trans (fun v c => .endIfDue v tf c) _ u
  have htables (u : State) : Tells u (((u.evaluate tf).stepPresences).promote tf).judgeStale := .of_same rfl rfl
  have hcompose (u : State) : Tells u (u.beginCompose tf) := .of_same rfl rfl
  have hloops (u : State) : Tells u u.loopsAtFrame := foldl_related Tells.refl Tells.trans Tells.loopAtFrame _ u
  have hraised : Tells s (s.raiseFrame tf).applyGates := .of_same rfl rfl
  exact hraised.trans ((hstarts _).trans ((hends _).trans ((htables _).trans ((hloops _).trans (hcompose _)))))

theorem Tells.enterSetup : Tells s s.enterSetup := by
  have htables (u : State) :
      Tells u (((u.openGates.freeLayersWhere fun _ l => l.state != .free).releaseHolds).setPartState .setup) :=
    .of_same rfl rfl
  exact (Tells.endAllCues ..).trans (htables _)

theorem Tells.fallAsleep : Tells s s.fallAsleep := by
  have hdark (u : State) : Tells u u.darkLayers.emptyQueues.stopFrames.darkWatches := .of_same rfl rfl
  have hends : Tells s ((s.setPartState .asleep).endAllCues .sleep) := (Tells.endAllCues ..).after rfl rfl
  exact hends.trans (hdark _)

theorem Tells.completeWake : Tells s s.completeWake := by
  have hwake : Tells s s.wakeUp.wakeLoops := .of_same rfl rfl
  exact hwake.trans ((Tells.matchWakeList _).trans (.frameStart ..))

theorem Tells.forgetCue (o : Origin) (c : CueNo) : Tells s (s.forgetCue o c) := by
  unfold State.forgetCue
  split
  · exact .refl s
  · split
    · exact .emptyCue ..
    · split
      · exact (Tells.endCue ..).after rfl rfl
      · exact .refl s

theorem Tells.forget (o : Origin) : Tells s (s.forget o) := by
  have hcues (u : State) : Tells u (u.forgetCues o) :=
    foldl_related Tells.refl Tells.trans (fun v c => .forgetCue v o c) _ u
  have hslots (u : State) : Tells u (u.forgetSlots o) := by
    refine foldl_related Tells.refl Tells.trans (fun v n => ?_) _ u
    split
    · exact .of_same rfl rfl
    · exact .refl v
  have hmask (u : State) : Tells u (u.clearMask o) := .setPort rfl (Nat.le_max_right ..)
  have hgate : Tells s ((s.discardCopies o).setGate o .opened) := .of_same rfl rfl
  have hfree (u : State) : Tells u (u.freeLayersWhere fun _ l => ownedBy o l) := .of_same rfl rfl
  have hrest (u : State) : Tells u (((u.unbindWhere fun e => e.owner == o).forgetHolds o).forgetFlags o) :=
    .of_same rfl rfl
  exact hgate.trans ((hcues _).trans ((hfree _).trans ((hslots _).trans ((hrest _).trans (hmask _)))))

end

end Sys2Proof.Machine

/-! PROOF. Every command goes on, leaves the queue of commands as it is, and keeps the law of the ports (R175, R177, R182). -/

namespace Sys2Proof.Machine

/-! ## The law of the ports -/

section
variable {s t : State}

theorem PortsSound.congr (hs : PortsSound s) (hmp : t.mp = s.mp) : PortsSound t := by
  obtain ⟨hports, hca, hcb⟩ := hs
  exact ⟨fun o => by rw [State.port, hmp]; exact hports o, hmp ▸ hca, hmp ▸ hcb⟩

theorem PortsSound.tells (hs : PortsSound s) (h : Tells s t) : PortsSound t := by
  obtain ⟨hports, hca, hcb⟩ := hs
  refine ⟨fun o => ⟨?_, ?_⟩, h.ca ▸ hca, h.cb ▸ hcb⟩
  · rw [h.intake]
    exact (hports o).1
  · exact (h.tx o).trans (Nat.max_le.mpr ⟨Nat.le_refl 8, (hports o).2⟩)

theorem PortsSound.setPort (hs : PortsSound s) {o : Origin} {p : Port} (hintake : p.intake.length ≤ 8)
    (htx : p.tx.length ≤ 8) : PortsSound (s.setPort o p) := by
  obtain ⟨hports, hca, hcb⟩ := hs
  refine ⟨fun q => ?_, hca, hcb⟩
  rw [setPort_port]
  split
  · exact ⟨hintake, htx⟩
  · exact hports q

theorem PortsSound.chan (hs : PortsSound s) (ch : Chan) : ChannelSound (s.chan ch) := by
  obtain ⟨-, hca, hcb⟩ := hs
  cases ch with
  | ca => exact hca
  | cb => exact hcb

theorem PortsSound.setChan (hs : PortsSound s) {ch : Chan} {c : Channel} (hc : ChannelSound c) :
    PortsSound (s.setChan ch c) := by
  obtain ⟨hports, hca, hcb⟩ := hs
  cases ch with
  | ca => exact ⟨hports, hc, hcb⟩
  | cb => exact ⟨hports, hca, hc⟩

end

theorem portsSound_fresh (strap : Fin 8) (raw : LineNo → Bool) (pending : List Instr) (n : Nat) :
    PortsSound (State.fresh strap raw pending n) := by
  have hfresh : ChannelSound ⟨0, 0⟩ := ⟨Nat.zero_le _, Nat.zero_le _⟩
  refine ⟨fun o => ?_, hfresh, hfresh⟩
  rw [fresh_port]
  exact ⟨Nat.zero_le _, Nat.zero_le _⟩

/-! ## Commands kept, the law kept -/

/-- The second state has the commands of the first, and meets the law of the ports if the first does. -/
structure QueuesKept (s t : State) : Prop where
  pending : t.pending = s.pending
  ports : PortsSound s → PortsSound t

theorem QueuesKept.refl (s : State) : QueuesKept s s := ⟨rfl, id⟩

theorem QueuesKept.trans {s t u : State} (h : QueuesKept s t) (g : QueuesKept t u) : QueuesKept s u :=
  ⟨g.pending.trans h.pending, g.ports ∘ h.ports⟩

theorem Tells.queuesKept {s t : State} (h : Tells s t) : QueuesKept s t := ⟨h.pending, fun hs => hs.tells h⟩

theorem QueuesKept.of_same {s t : State} (hpending : t.pending = s.pending) (hmp : t.mp = s.mp) : QueuesKept s t :=
  (Tells.of_same hpending hmp).queuesKept

section
variable {s : State}

theorem QueuesKept.popIntake (o : Origin) : QueuesKept s (s.popIntake o) := by
  refine ⟨rfl, fun hs => ?_⟩
  obtain ⟨hintake, htx⟩ := hs.1 o
  refine hs.setPort ?_ htx
  rw [List.length_tail]
  omega

/-- A reply is entered where there is a place (R178, R180). -/
theorem QueuesKept.reply {tk : Taken} (hplace : (s.port tk.origin).tx.length < 8) (c : Code) (clamped replaced : Bool)
    (result : List Byte) : QueuesKept s (s.reply tk c clamped replaced result) := by
  refine ⟨rfl, fun hs => hs.setPort (hs.1 tk.origin).1 ?_⟩
  rw [List.length_append]
  exact hplace

/-- Work that leaves commands and ports, then the reply. -/
theorem QueuesKept.replied {tk : Taken} {u : State} {c : Code} {clamped replaced : Bool} {result : List Byte}
    (hplace : (s.port tk.origin).tx.length < 8) (hpending : u.pending = s.pending) (hmp : u.mp = s.mp) :
    QueuesKept s (u.reply tk c clamped replaced result) := by
  refine (of_same hpending hmp).trans (.reply ?_ ..)
  rw [State.port, hmp]
  exact hplace

end

/-! ## What a command answers -/

/-- `P` holds of the state that a command answers, and it does answer one. -/
def Answers (P : State → Prop) (r : Host.Outcome State Fault Refusal) : Prop := ∃ t, r = .next t ∧ P t

section
variable {s n : State}

theorem answers_unchanged : Answers (QueuesKept s) (.next s) := ⟨s, rfl, .refl s⟩

theorem answers_liveWhen {c : Bool} (h : QueuesKept s n) : Answers (QueuesKept s) (s.liveWhen c n) :=
  ⟨_, rfl, whenNext_liveWhen (.refl s) (fun _ _ => h) _ rfl⟩

theorem answers_live (h : QueuesKept s n) : Answers (QueuesKept s) (s.live n) :=
  ⟨_, rfl, whenNext_live (.refl s) (fun _ => h) _ rfl⟩

theorem answers_atLastFrame {c : CueNo} {cond : Time → Cue → Bool} {next : Cue → State} (h : ∀ cue, Tells s (next cue)) :
    Answers (QueuesKept s) (atLastFrame s c cond next) := by
  unfold atLastFrame
  split
  · exact answers_liveWhen (h _).queuesKept
  · exact answers_unchanged

theorem takeRequest_goes_on (k : Option Kind) (o : Origin) (s : State) (serve : Taken → State → State) :
    ∃ t, takeRequest k o s serve = .next t := by
  unfold takeRequest
  split
  · exact ⟨s, rfl⟩
  · exact ⟨_, rfl⟩

/-- A request that is taken finds a place for its reply, or is a STREAM_FRAME (R178). -/
theorem answers_taken {k : Option Kind} {o : Origin} {serve : Taken → State → State}
    (h : ∀ tk u, k = some .streamFrame ∨ (u.port tk.origin).tx.length < 8 → QueuesKept u (serve tk u)) :
    Answers (QueuesKept s) (takeRequest k o s serve) := by
  obtain ⟨t, ht⟩ := takeRequest_goes_on k o s serve
  refine ⟨t, ht, ?_⟩
  rcases takeRequest_next ht with rfl | ⟨rq, -, -, -, -, hplace, hk⟩
  · exact .refl t
  · have hplace' : k = some .streamFrame ∨ ((s.popIntake o).port o).tx.length < 8 := by rwa [popIntake_port]
    have hserved := (QueuesKept.popIntake o).trans (h ⟨o, rq⟩ (s.popIntake o) hplace')
    cases k with
    | none => exact hk ▸ hserved
    | some k =>
      dsimp only at hk
      split at hk
      · split at hk
        · exact hk ▸ .popIntake o
        · next hne =>
          have hroom := hplace'.resolve_left fun e => hne (Option.some.inj e)
          exact hk ▸ (QueuesKept.popIntake o).trans (.reply hroom ..)
      · exact hk ▸ hserved

/-- A request with a reply: refused, or its work done. -/
theorem answers_request {k : Option Kind} {o : Origin} {serve : Taken → State → Served}
    (h : ∀ tk u, (u.port tk.origin).tx.length < 8 → WhenServed (QueuesKept u) (serve tk u))
    (hk : k ≠ some .streamFrame := by decide) :
    Answers (QueuesKept s) (takeRequest k o s fun tk u => answer tk u (serve tk u)) :=
  answers_taken fun tk u hplace =>
    have hroom := hplace.resolve_left hk
    answer_keeps (P := QueuesKept u) (fun _ => .reply hroom ..) (h tk u hroom)

end

/-! ## The ports' own operations -/

section
variable (s : State)

theorem QueuesKept.receive (ch : Chan) (o : Origin) (data : List Byte) : QueuesKept s (s.receive ch o data) := by
  have hcounted : QueuesKept s (s.countReceived ch) := by
    refine ⟨setChan_pending .., fun hs => hs.setChan ?_⟩
    obtain ⟨htx, hrx⟩ := hs.chan ch
    exact ⟨htx, (Nat.sub_le ..).trans hrx⟩
  have hhome (u : State) (home : Chan) : QueuesKept u (u.setPort o { u.port o with home := home }) :=
    ⟨rfl, fun hu => hu.setPort (hu.1 o).1 (hu.1 o).2⟩
  have hoffer (u : State) (rq : Intake) : QueuesKept u (u.offer o rq) := by
    unfold State.offer
    dsimp only
    split
    · next hplace =>
      refine ⟨rfl, fun hu => hu.setPort ?_ (hu.1 o).2⟩
      rw [List.length_append]
      exact hplace
    · exact ⟨rfl, fun hu => hu.setPort (hu.1 o).1 (hu.1 o).2⟩
  have hwoken := (hcounted.trans (hhome _ ch)).trans (Tells.wakeEvent _).queuesKept
  unfold State.receive
  dsimp only
  split
  · exact hwoken
  · exact hwoken.trans (hoffer ..)

theorem changeFirst_length (p : TxFrame → Bool) (f : TxFrame → TxFrame) (l : List TxFrame) :
    (changeFirst p f l).length = l.length := by
  induction l with
  | nil => rfl
  | cons x xs ih =>
    unfold changeFirst
    split
    · rfl
    · rw [List.length_cons, List.length_cons, ih]

theorem Tells.beginSend (ch : Chan) (o : Origin) : Tells s (s.beginSend ch o) := by
  refine .setPort rfl ?_
  rw [changeFirst_length]
  exact Nat.le_max_right ..

theorem QueuesKept.finishSend (ch : Chan) (o : Origin) : QueuesKept s (s.finishSend ch o) := by
  have hleft (p : TxFrame → Bool) : Tells s (s.setPort o { s.port o with tx := (s.port o).tx.eraseP p }) :=
    .setPort rfl (List.length_eraseP_le.trans (Nat.le_max_right ..))
  refine (hleft _).queuesKept.trans ⟨setChan_pending .., fun hu => hu.setChan ?_⟩
  obtain ⟨htx, hrx⟩ := hu.chan ch
  exact ⟨(Nat.sub_le ..).trans htx, hrx⟩

theorem abandonSend_port (ch : Chan) (o : Origin) :
    (s.abandonSend ch).port o = { s.port o with tx := abandonOn ch (s.port o).tx } := mapAt_get ..

theorem Tells.abandonSend (ch : Chan) : Tells s (s.abandonSend ch) := by
  refine ⟨rfl, rfl, rfl, fun o => by rw [abandonSend_port], fun o => ?_⟩
  rw [abandonSend_port, abandonOn, List.length_map]
  exact Nat.le_max_right ..

/-- The RESET pin asserted abandons every transmission (R187). -/
theorem Tells.resetWork : Tells s s.abandonWork.zeroClocks.holdReset := by
  have hheld (u : State) (co : ComposeBlock) (lc : LoopBlock) :
      Tells u ({ u with co := co, lc := lc } : State).zeroClocks.holdReset := .of_same rfl rfl
  exact (Tells.abandonSend s .ca).trans ((Tells.abandonSend _ .cb).trans (hheld ..))

theorem QueuesKept.channelErr (ch : Chan) (kind : ErrorKind) : QueuesKept s (s.channelErr ch kind) := by
  have hcounted : QueuesKept s (s.setChan ch (countError (s.chan ch) kind)) := by
    refine ⟨setChan_pending .., fun hs => hs.setChan ?_⟩
    obtain ⟨htx, hrx⟩ := hs.chan ch
    cases kind with
    | transmit => exact ⟨Nat.min_le_left .., hrx⟩
    | receive => exact ⟨htx, Nat.min_le_left ..⟩
  unfold State.channelErr
  dsimp only
  split
  · exact hcounted.trans (Tells.abandonSend ..).queuesKept
  · exact hcounted

/-! ## Work before a reply that branches -/

theorem makeEdit_ports (o : Origin) (i : LayerNo) (e : Edit) :
    (s.makeEdit o i e).pending = s.pending ∧ (s.makeEdit o i e).mp = s.mp := by
  unfold State.makeEdit
  dsimp only
  split <;> exact ⟨rfl, rfl⟩

theorem giveFlag_ports (f : FlagNo) (w : Writer) :
    (s.giveFlag f w).pending = s.pending ∧ (s.giveFlag f w).mp = s.mp := by
  unfold State.giveFlag
  split <;> exact ⟨rfl, rfl⟩

theorem QueuesKept.takeHold {tk : Taken} (hplace : (s.port tk.origin).tx.length < 8) (z : ZoneNo) (tier : Tier) :
    QueuesKept s (takeHold tk z tier s) := by
  unfold Sys2Proof.Machine.takeHold
  dsimp only
  split
  · exact .replied hplace rfl rfl
  · split
    · exact .replied hplace rfl rfl
    · split
      · exact (QueuesKept.replied hplace (u := s.setHold z _) rfl rfl).trans (Tells.notify ..).queuesKept
      · exact .reply hplace ..

end

end Sys2Proof.Machine

/-! PROOF. Every command, one by one, keeps the law of the ports; and the law along every step (R175, R177, R182). -/

namespace Sys2Proof.Machine

/-! ## Requests whose work branches, moves ports, or tells origins behind the reply -/

section
variable (s : State)

theorem execRestart_queuesKept (o : Origin) : Answers (QueuesKept s) (execRestart o s) := by
  unfold execRestart
  refine answers_request fun tk u hplace => ?_
  simp only [serveRestart, whenServed_bind, whenServed_pure]
  intro _ _
  have hfresh : QueuesKept u u.restarted :=
    ⟨rfl, fun _ => (portsSound_fresh u.mp.strap u.rawLevels u.pending u.freeCount).congr rfl⟩
  have hport : u.restarted.port tk.origin = Port.fresh :=
    fresh_port u.mp.strap u.rawLevels u.pending u.freeCount tk.origin
  exact hfresh.trans (.reply (by rw [hport]; exact Nat.zero_lt_succ 7) ..)

theorem execSetLine_queuesKept (o : Origin) : Answers (QueuesKept s) (execSetLine o s) := by
  unfold execSetLine
  refine answers_request fun tk u hplace => ?_
  simp only [serveSetLine, whenServed_bind, whenServed_pure, replaceLine_eq]
  intros
  exact .replied hplace rfl rfl

theorem execSetFlagOwner_queuesKept (o : Origin) : Answers (QueuesKept s) (execSetFlagOwner o s) := by
  unfold execSetFlagOwner
  refine answers_request fun tk u hplace => ?_
  simp only [serveSetFlagOwner, whenServed_bind, whenServed_pure]
  intro _ _ f _ w _ _ _ _ _
  obtain ⟨hpending, hmp⟩ := giveFlag_ports u f w
  exact .replied hplace hpending hmp

theorem execBind_queuesKept (o : Origin) : Answers (QueuesKept s) (execBind o s) := by
  unfold execBind
  refine answers_request fun tk u hplace => ?_
  simp only [serveBind, whenServed_bind, whenServed_pure]
  intros
  rw [unbindSame_frame]
  exact .replied hplace rfl rfl

theorem execEditLayer_queuesKept (o : Origin) : Answers (QueuesKept s) (execEditLayer o s) := by
  unfold execEditLayer
  refine answers_request fun tk u hplace => ?_
  simp only [serveEditLayer, whenServed_bind, whenServed_pure]
  intro _ _ i _ _ _ _ _ e
  intros
  obtain ⟨hpending, hmp⟩ := makeEdit_ports u tk.origin i e
  exact .replied hplace hpending hmp

theorem execSubscribe_queuesKept (o : Origin) : Answers (QueuesKept s) (execSubscribe o s) := by
  unfold execSubscribe
  refine answers_request fun tk u hplace => ?_
  simp only [serveSubscribe, whenServed_bind, whenServed_pure]
  intro _ _
  have hmask (m : BitVec 10) : Tells u (u.setPort tk.origin { u.port tk.origin with mask := m }) :=
    .setPort rfl (Nat.le_max_right ..)
  exact (hmask _).queuesKept.trans (.reply (by rwa [setPort_same]) ..)

theorem execGateClose_queuesKept (o : Origin) : Answers (QueuesKept s) (execGateClose o s) := by
  unfold execGateClose
  refine answers_request fun tk u hplace => ?_
  simp only [serveGateClose, whenServed_bind, whenServed_pure]
  intro _ _
  split <;> exact .replied hplace rfl rfl

theorem execGateOpen_queuesKept (o : Origin) : Answers (QueuesKept s) (execGateOpen o s) := by
  unfold execGateOpen
  refine answers_request fun tk u hplace => ?_
  simp only [serveGateOpen, whenServed_bind, whenServed_pure]
  intro _ _
  split <;> exact .replied hplace rfl rfl

theorem execEnterRun_queuesKept (o : Origin) : Answers (QueuesKept s) (execEnterRun o s) := by
  unfold execEnterRun
  refine answers_request fun tk u hplace => ?_
  simp only [serveEnterRun, whenServed_bind, whenServed_pure]
  intro _ _
  split <;> exact .replied hplace rfl rfl

theorem execSetChain_queuesKept (o : Origin) : Answers (QueuesKept s) (execSetChain o s) := by
  unfold execSetChain
  refine answers_request fun tk u hplace => ?_
  simp only [serveSetChain, whenServed_bind, whenServed_pure]
  intro _ _ l _ enable _
  have hreplied (x : Chain) (clamped : Bool) :
      QueuesKept u ((u.storeChain l x enable).reply tk .done clamped false []) := .replied hplace rfl rfl
  exact (hreplied ..).trans (Tells.followSettings ..).queuesKept

theorem execDeleteCue_queuesKept (o : Origin) : Answers (QueuesKept s) (execDeleteCue o s) := by
  unfold execDeleteCue
  refine answers_request fun tk u hplace => ?_
  simp only [serveDeleteCue, whenServed_bind, whenServed_pure]
  intros
  have hunbound (v : State) (p : BindEntry → Bool) : Tells v (v.unbindWhere p) := .of_same rfl rfl
  exact (QueuesKept.reply hplace ..).trans ((Tells.emptyCue ..).trans (hunbound ..)).queuesKept

theorem execCloseLayer_queuesKept (o : Origin) : Answers (QueuesKept s) (execCloseLayer o s) := by
  unfold execCloseLayer
  refine answers_request fun tk u hplace => ?_
  simp only [serveCloseLayer, whenServed_bind, whenServed_pure]
  intro i _
  have hfreed (v : State) : Tells v (v.freeLayersWhere fun j _ => j == i) := .of_same rfl rfl
  exact (QueuesKept.reply hplace ..).trans ((hfreed _).trans (.endCuesWhere ..)).queuesKept

theorem execStartCue_queuesKept (o : Origin) : Answers (QueuesKept s) (execStartCue o s) := by
  unfold execStartCue
  refine answers_request fun tk u hplace => ?_
  simp only [serveStartCue, whenServed_bind, whenServed_pure]
  intros
  exact (QueuesKept.reply hplace ..).trans (Tells.schedule ..).queuesKept

theorem execStopCue_queuesKept (o : Origin) : Answers (QueuesKept s) (execStopCue o s) := by
  unfold execStopCue
  refine answers_request fun tk u hplace => ?_
  simp only [serveStopCue, whenServed_bind, whenServed_pure]
  intros
  exact (QueuesKept.reply hplace ..).trans (Tells.stop ..).queuesKept

theorem execHoldZone_queuesKept (o : Origin) : Answers (QueuesKept s) (execHoldZone o s) := by
  unfold execHoldZone
  refine answers_request fun tk u hplace => ?_
  simp only [serveHoldZone, whenServed_bind, whenServed_pure]
  intros
  exact .takeHold u hplace ..

theorem execTrigger_queuesKept (o : Origin) : Answers (QueuesKept s) (execTrigger o s) := by
  unfold execTrigger
  refine answers_request fun tk u hplace => ?_
  simp only [serveTrigger, whenServed_bind, whenServed_pure]
  intros
  exact (QueuesKept.reply hplace ..).trans (Tells.matchCode ..).queuesKept

theorem execForget_queuesKept (o : Origin) : Answers (QueuesKept s) (execForget o s) := by
  unfold execForget
  refine answers_request fun tk u hplace => ?_
  simp only [serveForget, whenServed_bind, whenServed_pure]
  intros
  exact (QueuesKept.reply hplace ..).trans (Tells.forget ..).queuesKept

theorem execEnterSetup_queuesKept (o : Origin) : Answers (QueuesKept s) (execEnterSetup o s) := by
  unfold execEnterSetup
  refine answers_request fun tk u hplace => ?_
  simp only [serveEnterSetup, whenServed_bind, whenServed_pure]
  intro _ _
  split
  · exact .reply hplace ..
  · exact (QueuesKept.reply hplace ..).trans (Tells.enterSetup _).queuesKept

end

/-! ## Every command -/

/-- Every command goes on, with the commands that wait as they were and the law of the ports kept. -/
theorem exec_queuesKept (c : Instr) (s : State) : Answers (QueuesKept s) (exec c s) := by
  cases c with
  -- requests whose work leaves the ports as they are, with the reply last
  | setOrigin _ | setZone _ | clearZone _ | setBin _ | setLampBin _ | setGlare _ | setFrame _ | setWatch _ | writePattern _
  | definePattern _ | deletePattern _ | writeKeys _ | defineCue _ | setClock _ | trimClock _ | readCapture _
  | openLayer _ | showLayer _ | hideLayer _ | releaseZone _ | setFlags _ | unbind _ | clearHealth _ | sleep _ =>
    simp only [exec, execSetOrigin, execSetZone, execClearZone, execSetBin, execSetLampBin, execSetGlare, execSetFrame,
      execSetWatch, execWritePattern, execDefinePattern, execDeletePattern, execWriteKeys, execDefineCue, execSetClock,
      execTrimClock, execReadCapture, execOpenLayer, execShowLayer, execHideLayer, execReleaseZone, execSetFlags,
      execUnbind, execClearHealth, execSleep]
    refine answers_request fun tk u hplace => ?_
    simp only [serveSetOrigin, serveSetZone, serveClearZone, serveSetBin, serveSetLampBin, serveSetGlare, serveSetFrame,
      serveSetWatch, serveWritePattern, serveDefinePattern, serveDeletePattern, serveWriteKeys, serveDefineCue,
      serveSetClock, serveTrimClock, serveReadCapture, serveOpenLayer, serveShowLayer, serveHideLayer, serveReleaseZone,
      serveSetFlags, serveUnbind, serveClearHealth, serveSleep, whenServed_bind, whenServed_pure]
    intros
    exact .replied hplace rfl rfl
  -- resets
  | powerOn strap raw => exact ⟨_, rfl, rfl, fun _ => portsSound_fresh ..⟩
  | resetPinAssert => exact answers_live (Tells.resetWork s).queuesKept
  | resetPinRelease strap =>
    refine ⟨_, rfl, ?_⟩
    split
    · exact ⟨rfl, fun _ => portsSound_fresh ..⟩
    · exact .refl s
  -- requests whose work branches, moves ports, or tells origins behind the reply
  | restart o => exact execRestart_queuesKept s o
  | setLine o => exact execSetLine_queuesKept s o
  | setFlagOwner o => exact execSetFlagOwner_queuesKept s o
  | bind o => exact execBind_queuesKept s o
  | editLayer o => exact execEditLayer_queuesKept s o
  | subscribe o => exact execSubscribe_queuesKept s o
  | gateClose o => exact execGateClose_queuesKept s o
  | gateOpen o => exact execGateOpen_queuesKept s o
  | enterRun o => exact execEnterRun_queuesKept s o
  | setChain o => exact execSetChain_queuesKept s o
  | deleteCue o => exact execDeleteCue_queuesKept s o
  | closeLayer o => exact execCloseLayer_queuesKept s o
  | startCue o => exact execStartCue_queuesKept s o
  | stopCue o => exact execStopCue_queuesKept s o
  | holdZone o => exact execHoldZone_queuesKept s o
  | trigger o => exact execTrigger_queuesKept s o
  | forget o => exact execForget_queuesKept s o
  | enterSetup o => exact execEnterSetup_queuesKept s o
  -- requests with no checks of their own
  | requestUnknownKind _ | timeQuery _ | readStatus _ =>
    simp only [exec, execRequestUnknownKind, execTimeQuery, execReadStatus]
    exact answers_taken fun tk u hplace => .reply (hplace.resolve_left (by decide)) ..
  | streamFrame _ =>
    simp only [exec, execStreamFrame]
    refine answers_taken fun tk u _ => ?_
    unfold serveStreamFrame
    split
    · exact .refl u
    · exact .of_same rfl rfl
  -- events
  | frameReceived ch fmt ident data =>
    simp only [exec, execFrameReceived]
    split
    · exact answers_liveWhen (.receive ..)
    · exact answers_unchanged
  | trimCorrection => exact answers_liveWhen (.of_same rfl rfl)
  | frameStart =>
    simp only [exec, execFrameStart]
    split
    · exact answers_unchanged
    · exact answers_liveWhen (Tells.frameStart ..).queuesKept
  | cueNaturalEnd c => exact answers_atLastFrame fun cue => .naturalEnd ..
  | cueReleaseEnd c => exact answers_atLastFrame fun cue => .endCue ..
  | streamStale q =>
    simp only [exec, execStreamStale]
    split
    · exact answers_unchanged
    · exact answers_liveWhen (.of_same rfl rfl)
  | holdoffEnd l => exact answers_liveWhen (Tells.endHoldoff ..).queuesKept
  | composeComplete =>
    simp only [exec, execComposeComplete]
    split
    · exact answers_unchanged
    · exact answers_live (Tells.completeCompose ..).queuesKept
  | quietThreshold l =>
    simp only [exec, execQuietThreshold]
    split
    · exact answers_unchanged
    · exact answers_liveWhen (Tells.changeLoop ..).queuesKept
  | loopReturnReceived l ret =>
    simp only [exec, execLoopReturnReceived]
    split
    · exact answers_unchanged
    · exact answers_live (Tells.actOn ..).queuesKept
  | loopReturnTimeout l =>
    simp only [exec, execLoopReturnTimeout]
    split
    · exact answers_unchanged
    · exact answers_liveWhen (Tells.actOn ..).queuesKept
  | loopFailed l ret =>
    simp only [exec, execLoopFailed]
    split
    · exact answers_unchanged
    · exact answers_liveWhen (Tells.actOn ..).queuesKept
  | gateExpiry o => exact answers_liveWhen (Tells.expireGate ..).queuesKept
  | lineRawChange t level =>
    simp only [exec, execLineRawChange]
    split
    · exact answers_unchanged
    · split <;> exact ⟨_, rfl, .of_same rfl rfl⟩
  | lineChangeAccepted t =>
    simp only [exec, execLineChangeAccepted]
    split
    · exact answers_unchanged
    · exact answers_liveWhen (Tells.acceptChange ..).queuesKept
  | settle =>
    have hloops : Tells s s.settleLoops := .of_same rfl rfl
    exact answers_liveWhen (hloops.trans (.fallAsleep _)).queuesKept
  | wakeCompletion => exact answers_liveWhen (Tells.completeWake s).queuesKept
  | frameTransmitStart ch =>
    simp only [exec, execFrameTransmitStart]
    split
    · exact answers_unchanged
    · exact answers_liveWhen (Tells.beginSend ..).queuesKept
  | frameTransmitted ch =>
    simp only [exec, execFrameTransmitted]
    split
    · exact answers_unchanged
    · exact answers_liveWhen (.finishSend ..)
  | channelError ch kind => exact answers_liveWhen (.channelErr ..)
  | channelRecovery ch =>
    exact answers_liveWhen ⟨setChan_pending .., fun hs => hs.setChan ⟨Nat.zero_le _, Nat.zero_le _⟩⟩
  | loopBurstEnd l =>
    simp only [exec, execLoopBurstEnd]
    split
    · exact answers_unchanged
    · exact answers_liveWhen (.of_same rfl rfl)

/-- Settles O9: every command keeps the law of the ports, which reads neither the queue of commands nor the clocks. -/
theorem stepsKeepTheQueuesBounded : Obligations.StepsKeepTheQueuesBounded := by
  refine keptByStep_of_exec (fun _ _ hs => hs.congr rfl) (fun _ hs => hs.congr rfl) fun c s hs t ht => ?_
  obtain ⟨u, hu, hkept⟩ := exec_queuesKept c s
  obtain rfl := Host.Outcome.next.inj (hu.symm.trans ht)
  exact hkept.ports hs

/-- Settles O3, command by command. -/
theorem everyCommandAnswersANextState : Obligations.EveryCommandAnswersANextState := by
  intro c s
  obtain ⟨t, ht, hkept⟩ := exec_queuesKept c s
  exact ⟨t, ht, hkept.pending⟩

end Sys2Proof.Machine

/-! PROOF. Taking a request in turn (R178, R179), the command at the front of the queue, and what a notice meets (R182, R184). -/

namespace Sys2Proof.Machine

/-! ## Taking a request -/

/-- Every request row takes the front request of its kind, for its owning block to serve. -/
theorem exec_requestCommand (o : Origin) (k : Option Kind) (s : State) :
    ∃ serve, exec (requestCommand o k) s = takeRequest k o s serve := by
  cases k with
  | none => exact ⟨fun tk s => s.refuse tk .unknownKind, rfl⟩
  | some k =>
    cases k <;>
    · dsimp only [requestCommand, exec]
      exact ⟨_, rfl⟩

/-- A front request that may not be taken waits: nothing changes (R178). -/
theorem takeRequest_waits_of_canTake {s : State} {o : Origin} (k : Option Kind) (serve : Taken → State → State)
    (h : ∀ rq, (s.port o).intake.head? = some rq → s.canTake o rq = false) : takeRequest k o s serve = .next s := by
  have hready : s.ready o = none := by
    unfold State.ready
    split
    · rfl
    · next rq rest hfront =>
      rw [if_neg]
      rw [h rq (by rw [hfront]; rfl)]
      decide
  rw [takeRequest, hready]

/-- A full transmit queue lets a STREAM_FRAME alone be taken (R178). -/
theorem canTake_full {s : State} {o : Origin} {rq : Intake} (hfull : 8 ≤ (s.port o).tx.length)
    (hkind : kindOf? (byteAt rq.data 0) ≠ some .streamFrame) : s.canTake o rq = false := by
  have hplace : decide ((s.port o).tx.length < queuePlaces) = false := decide_eq_false (Nat.not_lt.mpr hfull)
  have hstream : (rq.kind? == some .streamFrame) = false := beq_eq_false_iff_ne.mpr hkind
  rw [State.canTake, hplace, hstream, Bool.or_false, Bool.and_false]

/-- A front request of an unknown kind is handed on with no check of its length (R179). -/
theorem takeRequest_unknown {s : State} {o : Origin} {rq : Intake} (serve : Taken → State → State)
    (hr : s.ps.resetHeld = false) (ht : s.ps.state.takes = true) (hfront : (s.port o).intake.head? = some rq)
    (hkind : kindOf? (byteAt rq.data 0) = none) (hplace : (s.port o).tx.length < 8) :
    takeRequest none o s serve = .next (serve ⟨o, rq⟩ (s.popIntake o)) := by
  obtain ⟨rest, hintake⟩ := List.head?_eq_some_iff.mp hfront
  have hcan : s.canTake o rq = true := by
    rw [State.canTake, ht, decide_eq_true (p := (s.port o).tx.length < queuePlaces) hplace]
    rfl
  have hready : s.ready o = some rq := by
    rw [State.ready, hintake]
    exact if_pos hcan
  have hnone : rq.kind? = none := hkind
  simp only [takeRequest, hready, hnone, beq_self_eq_true, liveWhen_true _ hr]

/-- Settles O27: a request that may not be taken changes nothing; one of an unknown kind and a short one are turned away. -/
theorem requestsAreTakenInTurn : Obligations.RequestsAreTakenInTurn := by
  refine ⟨fun o k s hwaits => ?_, fun o s rq hr ht hfront => ⟨fun hkind hplace => ?_, fun k hkind hshort => ?_⟩⟩
  · obtain ⟨serve, hexec⟩ := exec_requestCommand o k s
    rw [hexec]
    rcases hwaits with hasleep | hwaking | ⟨hfull, hkind⟩
    · exact takeRequest_waits serve (by rw [hasleep]; rfl)
    · exact takeRequest_waits serve (by rw [hwaking]; rfl)
    · exact takeRequest_waits_of_canTake k serve fun rq hfront => canTake_full hfull (hkind rq hfront)
  · rw [← refuse_popIntake]
    exact takeRequest_unknown (fun tk u => u.refuse tk .unknownKind) hr ht hfront hkind hplace
  · refine ⟨fun hk hplace => ?_, fun hk => ?_⟩
    · obtain ⟨serve, hexec⟩ := exec_requestCommand o (some k) s
      rw [hexec, takeRequest_fronts serve ⟨hr, ht, hfront, hkind, .inr hplace⟩, if_pos hshort, if_neg hk, refuse_popIntake]
    · subst hk
      obtain ⟨serve, hexec⟩ := exec_requestCommand o (some .streamFrame) s
      refine hexec.trans ?_
      rw [takeRequest_fronts serve ⟨hr, ht, hfront, hkind, .inl rfl⟩, if_pos hshort, if_pos rfl]
      rfl

/-! ## The front command -/

/-- Settles O1. -/
theorem stepTakesTheFrontCommand : Obligations.StepTakesTheFrontCommand := by
  intro c rest s hfront
  rw [step, hfront]

/-! ## Notices -/

section
variable {s : State} {o : Origin} {n : Notice}

theorem notify_unsubscribed (hmask : (s.port o).mask.getLsbD (noticeBit n) = false) : s.notify o n = s := by
  rw [State.notify, if_neg (Bool.eq_false_iff.mp hmask)]

theorem notify_entered (hmask : (s.port o).mask.getLsbD (noticeBit n) = true) (hplace : (s.port o).tx.length < 8) :
    s.notify o n = s.setPort o { s.port o with tx := (s.port o).tx ++ [⟨noticeBytes n, none, none⟩] } := by
  rw [State.notify, if_pos hmask, queuePlaces, if_pos hplace]

theorem notify_dropped (hmask : (s.port o).mask.getLsbD (noticeBit n) = true) (hfull : 8 ≤ (s.port o).tx.length) :
    s.notify o n = s.setPort o { s.port o with noticesLost := true } := by
  rw [State.notify, if_pos hmask, queuePlaces, if_neg (Nat.not_lt.mpr hfull)]

end

/-- Settles O29, by subscription and place; the four origins in the order of `Origin.all`. -/
theorem noticesMeetTheQueue : Obligations.NoticesMeetTheQueue :=
  fun _ _ _ => ⟨notify_unsubscribed, notify_entered, notify_dropped, rfl⟩

end Sys2Proof.Machine

/-! PROOF. Channels: reception, sending, error counts and recovery (R174 to R177, R182, R183, R192). -/

namespace Sys2Proof.Machine

/-! ## Channels (R175) -/

theorem offline_iff {s : State} {ch : Chan} : s.offline ch = true ↔ 255 < (s.chan ch).txErrors := by
  rw [State.offline, beq_iff_eq, channelState]
  split
  · next h => exact iff_of_true rfl h
  · next h => split <;> exact iff_of_false (by decide) h

theorem offline_eq_false {s : State} {ch : Chan} : s.offline ch = false ↔ ¬255 < (s.chan ch).txErrors := by
  rw [← offline_iff, Bool.not_eq_true]

/-! ## Reception (R174, R176, R177, R192) -/

theorem ofNat?_eq_some {n : Nat} {o : Origin} : Origin.ofNat? n = some o ↔ n = o.idx.val := by
  refine ⟨fun h => ?_, fun h => h ▸ ofNat?_idx o⟩
  unfold Origin.ofNat? at h
  split at h
  case h_5 => cases h
  all_goals exact Option.some.inj h ▸ rfl

/-- An own request identifier is the base plus the origin's number (R174). -/
theorem requestOrigin?_eq_some {strap : Fin 8} {ident : Nat} {o : Origin} :
    requestOrigin? strap ident = some o ↔ ident = 0x600 + 0x10 * strap.val + o.idx.val := by
  have hbase : requestOrigin? strap ident = some o ↔ baseIdent strap ≤ ident ∧ ident - baseIdent strap = o.idx.val := by
    rw [requestOrigin?, ← ofNat?_eq_some]
    split
    · next h => exact iff_of_false (by simp) fun hle => absurd hle.1 (Nat.not_le.mpr h)
    · next h => exact ⟨fun e => ⟨Nat.not_lt.mp h, e⟩, And.right⟩
  rw [hbase, baseIdent]
  omega

/-- The state with another record of the part state. -/
def State.setPart (s : State) (p : PartBlock) : State := { s with ps := p }

/-- A wake event moves the part state alone (R192). -/
theorem wakeEvent_eq (s : State) : s.wakeEvent = s.setPart
    (if s.ps.state = .asleep then { s.ps with state := .waking, wakeSince := some s.sc.local' } else s.ps) := by
  unfold State.wakeEvent
  split
  · next h => rw [if_pos h]; rfl
  · next h => rw [if_neg h]; rfl

theorem offer_setPart (s : State) (p : PartBlock) (o : Origin) (rq : Intake) :
    (s.setPart p).offer o rq = (s.offer o rq).setPart p := by
  have hport : (s.setPart p).port o = s.port o := rfl
  unfold State.offer
  rw [hport]
  dsimp only
  split <;> rfl

/-- A request offered to a port that has just been written (R177). -/
theorem offer_setPort (s : State) (o : Origin) (p : Port) (rq : Intake) : (s.setPort o p).offer o rq = s.setPort o
    (if p.intake.length < 8 then { p with intake := p.intake ++ [rq] } else { p with lost := true }) := by
  rw [State.offer, setPort_same, queuePlaces]
  split <;> exact setPort_setPort ..

/-- What the reception of a frame leaves at its origin's port (R176, R177). -/
def receivedPort (p : Port) (ch : Chan) (data : List Byte) (stamp : Time) : Port :=
  if data.length < 2 then { p with home := ch }
  else if p.intake.length < 8 then { p with home := ch, intake := p.intake ++ [⟨data, stamp, ch⟩] }
  else { p with home := ch, lost := true }

/-- The reception of a frame: the receive count, the port, the part state (R176). -/
theorem receive_eq (s : State) (ch : Chan) (o : Origin) (data : List Byte) : s.receive ch o data =
    ((s.setChan ch { s.chan ch with rxErrors := (s.chan ch).rxErrors - 1 }).setPort o
      (receivedPort (s.port o) ch data s.sc.scene)).setPart
      (if s.ps.state = .asleep then { s.ps with state := .waking, wakeSince := some s.sc.local' } else s.ps) := by
  unfold State.receive State.countReceived receivedPort
  dsimp only
  rw [wakeEvent_eq, offer_setPart, offer_setPort, setChan_port, setPort_ps, setPort_sc, setChan_ps, setChan_sc]
  split
  · rfl
  · split <;> rfl

section
variable {s : State} {ch : Chan} (hr : s.ps.resetHeld = false)

/-- Any other frame is not received (R174, R175). -/
theorem exec_frameReceived_other {fmt : FrameFormat} {ident : Nat} (data : List Byte)
    (h : fmt ≠ .data11 ∨ 255 < (s.chan ch).txErrors ∨
      ∀ o : Origin, ident ≠ 0x600 + 0x10 * s.mp.strap.val + o.idx.val) :
    exec (.frameReceived ch fmt ident data) s = .next s := by
  change execFrameReceived ch fmt ident data s = .next s
  unfold execFrameReceived
  split
  · next o hident =>
    have hoffline : s.offline ch = true := offline_iff.mpr
      ((h.resolve_left fun hne => hne rfl).resolve_right fun hno => hno o (requestOrigin?_eq_some.mp hident))
    rw [hoffline]
    exact liveWhen_false ..
  · rfl

include hr

theorem exec_frameReceived_own {ident : Nat} {o : Origin} (data : List Byte) (hon : ¬255 < (s.chan ch).txErrors)
    (hident : ident = 0x600 + 0x10 * s.mp.strap.val + o.idx.val) :
    exec (.frameReceived ch .data11 ident data) s = .next (s.receive ch o data) := by
  change execFrameReceived ch .data11 ident data s = _
  unfold execFrameReceived
  rw [requestOrigin?_eq_some.mpr hident]
  dsimp only
  rw [offline_eq_false.mpr hon]
  exact liveWhen_true _ hr

end

/-! ## Sending (R182, R183) -/

/-- The lowest origin that a test holds for. -/
theorem find_origin {p : Origin → Bool} {o : Origin} (ho : p o = true) (hlow : ∀ q : Origin, q.idx < o.idx → p q = false) :
    Origin.all.find? p = some o := by
  cases o with
  | body => simp [Origin.all, ho]
  | media => simp [Origin.all, ho, hlow .body (by decide)]
  | assist => simp [Origin.all, ho, hlow .body (by decide), hlow .media (by decide)]
  | service => simp [Origin.all, ho, hlow .body (by decide), hlow .media (by decide), hlow .assist (by decide)]

theorem eligible_iff {home ch : Chan} {f : TxFrame} : eligible home ch f = true ↔
    f.sendingOn = none ∧ (f.bound = some ch ∨ f.bound = none ∧ home = ch) := by
  rw [eligible, Bool.and_eq_true, Option.isNone_iff_eq_none]
  refine and_congr_right fun _ => ?_
  cases f.bound with
  | none => simp
  | some b => simp

theorem sending_eq_none {s : State} {ch : Chan} :
    s.sending ch = none ↔ ∀ o, ∀ f ∈ (s.port o).tx, f.sendingOn ≠ some ch := by
  simp [State.sending, List.findSome?_eq_none_iff, origin_mem_all]

theorem maySend_iff {s : State} {ch : Chan} : s.maySend ch = true ↔
    ¬255 < (s.chan ch).txErrors ∧ ∀ o, ∀ f ∈ (s.port o).tx, f.sendingOn ≠ some ch := by
  rw [State.maySend, Bool.and_eq_true, Bool.not_eq_true', offline_eq_false, Option.isNone_iff_eq_none, sending_eq_none]

theorem nextSender_eq_none {s : State} {ch : Chan} : s.nextSender ch = none ↔
    ∀ o, ∀ f ∈ (s.port o).tx, ¬(f.sendingOn = none ∧ (f.bound = some ch ∨ f.bound = none ∧ (s.port o).home = ch)) := by
  simp only [State.nextSender, List.find?_eq_none, List.any_eq_true, not_exists, not_and, eligible_iff, origin_mem_all,
    forall_const]

/-- The first frame that a test holds for is the one changed. -/
theorem changeFirst_append {p : TxFrame → Bool} {f : TxFrame → TxFrame} {before after : List TxFrame} {x : TxFrame}
    (hbefore : ∀ g ∈ before, ¬p g = true) (hx : p x = true) :
    changeFirst p f (before ++ x :: after) = before ++ f x :: after := by
  induction before with
  | nil => exact if_pos hx
  | cons g before ih =>
    obtain ⟨hg, hrest⟩ := List.forall_mem_cons.mp hbefore
    rw [List.cons_append, changeFirst, if_neg hg, ih hrest, List.cons_append]

section
variable {s : State} {ch : Chan}

theorem exec_frameTransmitStart_none
    (h : ¬(¬255 < (s.chan ch).txErrors ∧ ∀ o, ∀ f ∈ (s.port o).tx, f.sendingOn ≠ some ch) ∨
      ∀ o, ∀ f ∈ (s.port o).tx, ¬(f.sendingOn = none ∧ (f.bound = some ch ∨ f.bound = none ∧ (s.port o).home = ch))) :
    exec (.frameTransmitStart ch) s = .next s := by
  change execFrameTransmitStart ch s = .next s
  unfold execFrameTransmitStart
  split
  · rfl
  · next o hsender =>
    have hmay := h.resolve_right fun hnone => nomatch hsender.symm.trans (nextSender_eq_none.mpr hnone)
    rw [← maySend_iff, Bool.not_eq_true] at hmay
    rw [hmay]
    exact liveWhen_false ..

/-- The earliest eligible frame of the lowest origin that has one (R183). -/
theorem exec_frameTransmitStart_begins (hr : s.ps.resetHeld = false) {o : Origin} {before after : List TxFrame} {f : TxFrame}
    (hmay : s.maySend ch = true) (htx : (s.port o).tx = before ++ f :: after) (hf : eligible (s.port o).home ch f = true)
    (hbefore : ∀ g ∈ before, ¬eligible (s.port o).home ch g = true)
    (hlow : ∀ p : Origin, p.idx < o.idx → ∀ g ∈ (s.port p).tx, ¬eligible (s.port p).home ch g = true) :
    exec (.frameTransmitStart ch) s = .next
      (s.setPort o { s.port o with tx := before ++ { f with sendingOn := some ch } :: after }) := by
  have hsender : s.nextSender ch = some o :=
    find_origin (List.any_eq_true.mpr ⟨f, by rw [htx]; exact List.mem_append_right _ List.mem_cons_self, hf⟩)
      fun p hp => List.any_eq_false.mpr (hlow p hp)
  change execFrameTransmitStart ch s = _
  rw [execFrameTransmitStart, hsender]
  dsimp only
  rw [hmay, liveWhen_true _ hr, State.beginSend, htx, changeFirst_append hbefore hf]

theorem exec_frameTransmitted_none (h : ∀ o, ∀ f ∈ (s.port o).tx, f.sendingOn ≠ some ch) :
    exec (.frameTransmitted ch) s = .next s := by
  change execFrameTransmitted ch s = .next s
  rw [execFrameTransmitted, sending_eq_none.mpr h]

/-- The one origin that is sending, and the first of its frames that is being sent. -/
theorem sending_eq_some {o : Origin} {before after : List TxFrame} {f : TxFrame}
    (htx : (s.port o).tx = before ++ f :: after) (hf : f.sendingOn = some ch)
    (hbefore : ∀ g ∈ before, g.sendingOn ≠ some ch)
    (hothers : ∀ p : Origin, p ≠ o → ∀ g ∈ (s.port p).tx, g.sendingOn ≠ some ch) : s.sending ch = some (o, f) := by
  have hnone (p : Origin) (hp : p ≠ o) : ((s.port p).tx.find? fun f => f.sendingOn == some ch) = none :=
    List.find?_eq_none.mpr fun g hg => by simpa using hothers p hp g hg
  have hsome : ((s.port o).tx.find? fun f => f.sendingOn == some ch) = some f := by
    rw [htx, List.find?_append, List.find?_eq_none.mpr fun g hg => by simpa using hbefore g hg, Option.none_or,
      List.find?_cons_of_pos (by simpa using hf)]
  unfold State.sending
  cases o <;> simp [Origin.all, hnone, hsome]

theorem exec_frameTransmitted_sent (hr : s.ps.resetHeld = false) {o : Origin} {before after : List TxFrame} {f : TxFrame}
    (htx : (s.port o).tx = before ++ f :: after) (hf : f.sendingOn = some ch)
    (hbefore : ∀ g ∈ before, g.sendingOn ≠ some ch)
    (hothers : ∀ p : Origin, p ≠ o → ∀ g ∈ (s.port p).tx, g.sendingOn ≠ some ch) :
    exec (.frameTransmitted ch) s = .next (if 255 < (s.chan ch).txErrors then s else
      (s.setPort o { s.port o with tx := before ++ after }).setChan ch
        { s.chan ch with txErrors := (s.chan ch).txErrors - 1 }) := by
  change execFrameTransmitted ch s = _
  rw [execFrameTransmitted, sending_eq_some htx hf hbefore hothers]
  dsimp only
  split
  · next hoff =>
    rw [offline_iff.mpr hoff]
    exact liveWhen_false ..
  · next hon =>
    have hchan (p : Port) : (s.setPort o p).chan ch = s.chan ch := by cases ch <;> rfl
    have herase : (before ++ f :: after).eraseP (fun f => f.sendingOn == some ch) = before ++ after := by
      rw [List.eraseP_append_right _ fun g hg => by simpa using hbefore g hg, List.eraseP_cons_of_pos (by simpa using hf)]
    rw [offline_eq_false.mpr hon, Bool.not_false, liveWhen_true _ hr, State.finishSend, htx, herase, hchan]

end

/-! ## Errors and recovery (R175) -/

section
variable {s : State} {ch : Chan}

theorem exec_channelError_offline (hoff : 255 < (s.chan ch).txErrors) (kind : ErrorKind) :
    exec (.channelError ch kind) s = .next s := by
  change execChannelError ch kind s = _
  rw [execChannelError, offline_iff.mpr hoff]
  exact liveWhen_false ..

theorem exec_channelRecovery_online (hon : ¬255 < (s.chan ch).txErrors) : exec (.channelRecovery ch) s = .next s := by
  change execChannelRecovery ch s = _
  rw [execChannelRecovery, offline_eq_false.mpr hon]
  exact liveWhen_false ..

section
variable (hr : s.ps.resetHeld = false)
include hr

theorem exec_channelRecovery_offline (hoff : 255 < (s.chan ch).txErrors) :
    exec (.channelRecovery ch) s = .next (s.setChan ch ⟨0, 0⟩) := by
  change execChannelRecovery ch s = _
  rw [execChannelRecovery, offline_iff.mpr hoff, liveWhen_true _ hr]

theorem exec_channelError_online (hon : ¬255 < (s.chan ch).txErrors) (kind : ErrorKind) :
    exec (.channelError ch kind) s = .next (s.channelErr ch kind) := by
  change execChannelError ch kind s = _
  rw [execChannelError, offline_eq_false.mpr hon]
  exact liveWhen_true _ hr

end

/-- Counts that stay at 255 at most leave the channel's transmission alone. -/
theorem channelErr_online {kind : ErrorKind} (h : ¬255 < (countError (s.chan ch) kind).txErrors) :
    s.channelErr ch kind = s.setChan ch (countError (s.chan ch) kind) := by
  have hoff : (s.setChan ch (countError (s.chan ch) kind)).offline ch = false :=
    offline_eq_false.mpr (by rwa [setChan_same])
  rw [State.channelErr, if_neg (Bool.eq_false_iff.mp hoff)]

/-- Past 255 the channel's transmission is abandoned. -/
theorem channelErr_offline {kind : ErrorKind} (h : 255 < (countError (s.chan ch) kind).txErrors) :
    s.channelErr ch kind = (s.setChan ch (countError (s.chan ch) kind)).abandonSend ch := by
  have hoff : (s.setChan ch (countError (s.chan ch) kind)).offline ch = true :=
    offline_iff.mpr (by rwa [setChan_same])
  rw [State.channelErr, if_pos hoff]

end

/-- Settles O60, row by row. -/
theorem channelsReceiveSendAndRecover : Obligations.ChannelsReceiveSendAndRecover := by
  intro ch s hr x offline
  refine ⟨fun fmt ident data => ⟨exec_frameReceived_other data, ?received⟩, ⟨exec_frameTransmitStart_none, ?begins⟩,
    exec_frameTransmitted_none, fun o before after f => exec_frameTransmitted_sent hr,
    fun hoff => ⟨exec_channelError_offline hoff, exec_channelRecovery_offline hr hoff⟩,
    fun hon => ⟨exec_channelRecovery_online hon, ?receiveError, fun h => ?transmitError, fun h => ?goesOffline⟩⟩
  case received =>
    rintro o rfl hon hident
    rw [exec_frameReceived_own hr data hon hident, receive_eq]
    rfl
  case begins =>
    intro o before after f hmay htx hf hbefore hlow
    exact exec_frameTransmitStart_begins hr (maySend_iff.mpr hmay) htx (eligible_iff.mpr hf)
      (fun g hg => eligible_iff.not.mpr (hbefore g hg)) fun p hp g hg => eligible_iff.not.mpr (hlow p hp g hg)
  case receiveError =>
    rw [exec_channelError_online hr hon, channelErr_online (kind := .receive) hon]
    rfl
  case transmitError =>
    have hcount : countError x .transmit = { x with txErrors := x.txErrors + 8 } := by
      rw [countError, Nat.min_eq_right (h.trans (Nat.le_succ 255))]
    rw [exec_channelError_online hr hon, channelErr_online (by rw [hcount]; exact Nat.not_lt.mpr h), hcount]
  case goesOffline =>
    have hcount : countError x .transmit = { x with txErrors := 256 } := by rw [countError, Nat.min_eq_left h]
    refine ⟨_, exec_channelError_online hr hon .transmit, ?_⟩
    rw [channelErr_offline (by rw [hcount]; exact Nat.lt_succ_self 255), hcount]
    refine ⟨rfl, fun o => ?_⟩
    rw [abandonSend_port, setChan_port]
    rfl

end Sys2Proof.Machine

/-! PROOF. Frames of requests are read back (R179, 11.7): bytes that stand in a frame and the fields read at their place, then
each kind's frame. -/

namespace Sys2Proof.Machine

/-! ## Bytes that stand in a frame -/

/-- The bytes are what the frame reads as from the offset on. -/
def Stands (d : List Byte) : Nat → List Byte → Prop
  | _, [] => True
  | i, x :: bs => byteAt d i = x.toNat ∧ Stands d (i + 1) bs

section
variable {d : List Byte} {i : Nat}

@[simp] theorem stands_nil : Stands d i [] := trivial

@[simp] theorem stands_cons {x : Byte} {bs : List Byte} :
    Stands d i (x :: bs) ↔ byteAt d i = x.toNat ∧ Stands d (i + 1) bs := Iff.rfl

@[simp] theorem stands_append {as bs : List Byte} :
    Stands d i (as ++ bs) ↔ Stands d i as ∧ Stands d (i + as.length) bs := by
  induction as generalizing i with
  | nil => simp
  | cons x as ih => simp [ih, and_assoc, Nat.add_assoc, Nat.add_comm 1]

@[simp] theorem length_leBytes (n x : Nat) : (leBytes n x).length = n := by
  induction n generalizing x with
  | zero => rfl
  | succ n ih => rw [leBytes, List.length_cons, ih]

theorem byteAt_lt (d : List Byte) (i : Nat) : byteAt d i < 256 := (d.getD i 0).isLt

/-- A little-endian field stands where it is read back, modulo what its bytes hold. -/
@[simp] theorem stands_leBytes {n x : Nat} : Stands d i (leBytes n x) ↔ leAt d i n = x % 256 ^ n := by
  induction n generalizing i x with
  | zero => simp [leBytes, leAt, Nat.mod_one]
  | succ n ih =>
    have hbyte := byteAt_lt d i
    have hmod : x % 256 ^ (n + 1) = x % 256 + 256 * (x / 256 % 256 ^ n) := by rw [Nat.pow_succ', Nat.mod_mul]
    rw [leBytes, stands_cons, ih, leAt, BitVec.toNat_ofNat, hmod]
    omega

/-- A frame's bytes stand in it. -/
theorem stands_self (as bs : List Byte) : Stands (as ++ bs) as.length bs := by
  induction bs generalizing as with
  | nil => trivial
  | cons x bs ih =>
    refine ⟨?_, ?_⟩
    · simp [byteAt]
    · simpa using ih (as ++ [x])

/-- Items of one size, each read back where it stands, are read back together. -/
theorem itemsAt_of_stands {α : Type} {xs : List α} {enc : α → List Byte} {read : List Byte → Nat → α} {size : Nat}
    (h : Stands d i (xs.flatMap enc)) (hsize : ∀ x ∈ xs, (enc x).length = size)
    (hread : ∀ x ∈ xs, ∀ j, Stands d j (enc x) → read d j = x) : itemsAt d i size xs.length read = xs := by
  induction xs generalizing i with
  | nil => rfl
  | cons x xs ih =>
    obtain ⟨hsx, hsize⟩ := List.forall_mem_cons.mp hsize
    obtain ⟨hrx, hread⟩ := List.forall_mem_cons.mp hread
    rw [List.flatMap_cons, stands_append, hsx] at h
    obtain ⟨hx, hrest⟩ := h
    have htail := ih hrest hsize hread
    simp only [itemsAt] at htail ⊢
    rw [List.length_cons, List.range_succ_eq_map, List.map_cons, List.map_map, Nat.mul_zero, Nat.add_zero, hrx i hx]
    congr 1
    simpa only [Function.comp_def, Nat.mul_succ, Nat.add_assoc, Nat.add_comm size] using htail

end

/-! ## Kinds -/

theorem kindOf?_kindCode (k : Kind) : kindOf? (kindCode k) = some k := by
  cases k <;> rfl

/-- A kind byte names the one kind that has it (11.7). -/
theorem kindOf?_eq_some {n : Nat} {k : Kind} : kindOf? n = some k ↔ kindCode k = n := by
  refine ⟨fun h => ?_, fun h => h ▸ kindOf?_kindCode k⟩
  simpa using List.find?_some h

theorem kindCode_lt (k : Kind) : kindCode k < 256 := by
  cases k <;> decide

/-! ## What reading back is, and START_CUE -/

/-- A frame in which the fields stand from byte 2 to its end has the required length, and the request is read back from it. -/
def ReadBack (r : Request) : Prop :=
  ∀ d : List Byte, Stands d 2 (requestFields r) → d.length = 2 + (requestFields r).length →
    requiredLength (requestKind r) d = d.length ∧ decodeRequest (requestKind r) d = r

theorem leAt_of_stands {d : List Byte} {i n x : Nat} (hx : x < 256 ^ n) (h : Stands d i (leBytes n x)) : leAt d i n = x :=
  (stands_leBytes.mp h).trans (Nat.mod_eq_of_lt hx)

/-- A form byte and what follows it, or an unknown form (R99). -/
theorem readBack_startCue (a : StartCueArgs) (hfit : requestFits (.startCue a) = true) : ReadBack (.startCue a) := by
  obtain ⟨cue, form⟩ := a
  intro d hd hlen
  simp only [requestFits, Bool.and_eq_true, decide_eq_true_eq] at hfit
  obtain ⟨hcue, hform⟩ := hfit
  cases form with
  | atTime t =>
    have ht := Nat.mod_eq_of_lt t.isLt
    simp [requestFields, startFormBytes, timeBytes, oneByte_toNat, Nat.mod_eq_of_lt hcue, ht] at hd hlen
    simp [requiredLength, requestKind, decodeRequest, hlen, hd, startCueArgs]
  | after n =>
    have hn : n % 4294967296 = n := Nat.mod_eq_of_lt (of_decide_eq_true hform)
    simp [requestFields, startFormBytes, oneByte_toNat, Nat.mod_eq_of_lt hcue, hn] at hd hlen
    simp [requiredLength, requestKind, decodeRequest, hlen, hd, startCueArgs]
  | next =>
    simp [requestFields, startFormBytes, oneByte_toNat, Nat.mod_eq_of_lt hcue] at hd hlen
    simp [requiredLength, requestKind, decodeRequest, hlen, hd, startCueArgs]
  | unknown k =>
    simp only [startFormFits, Bool.and_eq_true, decide_eq_true_eq] at hform
    obtain ⟨hlow, hhigh⟩ := hform
    simp [requestFields, startFormBytes, oneByte_toNat, Nat.mod_eq_of_lt, hcue, hhigh] at hd hlen
    obtain ⟨m, rfl⟩ : ∃ m, k = m + 3 := ⟨k - 3, by omega⟩
    simp [requiredLength, requestKind, decodeRequest, hlen, hd, startCueArgs]

/-! ## Frames with lists -/

section
variable {d : List Byte} {j : Nat}

theorem windowAt_of_stands {w : Nat × Nat × Nat} (hw : w.1 < 256 ∧ w.2.1 < 65536 ∧ w.2.2 < 65536)
    (h : Stands d j (oneByte w.1 :: (leBytes 2 w.2.1 ++ leBytes 2 w.2.2))) : windowAt d j = w := by
  simp [oneByte_toNat, Nat.mod_eq_of_lt, hw] at h
  simp [windowAt, h]

theorem spanAt_of_stands {p : Nat × Nat × Nat} (hp : p.1 < 65536 ∧ p.2.1 < 65536 ∧ p.2.2 < 256)
    (h : Stands d j (leBytes 2 p.1 ++ leBytes 2 p.2.1 ++ [oneByte p.2.2])) : spanAt d j = p := by
  simp [oneByte_toNat, Nat.mod_eq_of_lt, hp] at h
  simp [spanAt, h]

theorem rgbAt_of_stands {c : Rgb} (hc : rgbFits 65536 c = true) (h : Stands d j (rgbBytes c)) : rgbAt d j = c := by
  simp only [rgbFits, Bool.and_eq_true, decide_eq_true_eq] at hc
  simp [rgbBytes, Nat.mod_eq_of_lt, hc] at h
  simp [rgbAt, h]

@[simp] theorem length_rgbBytes (c : Rgb) : (rgbBytes c).length = 6 := rfl

theorem patEntryAt_of_stands {e : PatEntry} (hc : rgbFits 65536 e.colour = true) (he : e.coverage < 256)
    (h : Stands d j (rgbBytes e.colour ++ [oneByte e.coverage])) : patEntryAt d j = e := by
  obtain ⟨hcolour, hcoverage, -⟩ := stands_append.mp h
  rw [length_rgbBytes, oneByte_toNat_of_lt he] at hcoverage
  rw [patEntryAt, rgbAt_of_stands hc hcolour, hcoverage]

theorem keyAt_of_stands {k : Nat × Nat × Rgb} (hk : k.1 < 65536 ∧ k.2.1 < 256) (hc : rgbFits 65536 k.2.2 = true)
    (h : Stands d j (leBytes 2 k.1 ++ [oneByte k.2.1] ++ rgbBytes k.2.2)) : keyAt d j = k := by
  obtain ⟨hfront, hvalue⟩ := stands_append.mp h
  simp [oneByte_toNat, Nat.mod_eq_of_lt, hk] at hfront hvalue
  simp [keyAt, hfront, rgbAt_of_stands hc hvalue]

theorem trackAt_of_stands {t : Nat × Nat × Nat} (ht : t.1 < 256 ∧ t.2.1 < 65536 ∧ t.2.2 < 256)
    (h : Stands d j (oneByte t.1 :: (leBytes 2 t.2.1 ++ [oneByte t.2.2]))) : trackAt d j = t := by
  simp [oneByte_toNat, Nat.mod_eq_of_lt, ht] at h
  simp [trackAt, h]

theorem codeRgbAt_of_stands {c : Rgb} (hc : rgbFits 256 c = true)
    (h : Stands d j [oneByte c.r, oneByte c.g, oneByte c.b]) : codeRgbAt d j = c := by
  simp only [rgbFits, Bool.and_eq_true, decide_eq_true_eq] at hc
  simp [oneByte_toNat, Nat.mod_eq_of_lt, hc] at h
  simp [codeRgbAt, h]

end

theorem readBack_setOrigin (a : SetOriginArgs) (hfit : requestFits (.setOrigin a) = true) : ReadBack (.setOrigin a) := by
  intro d hd hlen
  simp only [requestFits, List.all_cons, List.all_nil, List.all_eq_true, Bool.and_eq_true, decide_eq_true_eq, beq_iff_eq,
    and_assoc] at hfit
  obtain ⟨ho, ht, hre, hl, hts, -, hkf, hkl, hpf, hpl, -, hfour, hwins⟩ := hfit
  simp [requestFields, oneByte_toNat, Nat.mod_eq_of_lt, hfour, ho, ht, hre, hl, hts, hkf, hkl, hpf, hpl] at hd hlen
  obtain ⟨h2, h3, h4, h5, hlist, hrest⟩ := hd
  have hitems := itemsAt_of_stands (size := 5) (read := windowAt) hlist (fun _ _ => rfl) fun w hw _ =>
    windowAt_of_stands (hwins w hw)
  rw [hfour] at hitems
  simp [requiredLength, requestKind, decodeRequest, setOriginArgs, hlen, h2, h3, h4, h5, hrest, hitems]

theorem readBack_setZone (a : SetZoneArgs) (hfit : requestFits (.setZone a) = true) : ReadBack (.setZone a) := by
  intro d hd hlen
  simp only [requestFits, List.all_cons, List.all_nil, List.all_eq_true, Bool.and_eq_true, decide_eq_true_eq, beq_iff_eq,
    and_assoc] at hfit
  obtain ⟨hz, hk, hg, hc, -, hf, hcount, hspans⟩ := hfit
  obtain ⟨hfixed, hlist⟩ := stands_append.mp hd
  have hitems := itemsAt_of_stands (size := 5) (read := spanAt) hlist (fun _ _ => rfl) fun p hp _ =>
    spanAt_of_stands (hspans p hp)
  simp [oneByte_toNat, Nat.mod_eq_of_lt, hz, hk, hg, hc] at hfixed hitems
  obtain ⟨h2, h3, h4, hrgb, h11⟩ := hfixed
  simp [requestFields] at hlen
  simp [requiredLength, requestKind, decodeRequest, setZoneArgs, h2, h3, h4, h11, rgbAt_of_stands hf hrgb, ← hcount,
    hitems, hlen]
  omega

theorem readBack_writePattern (a : WritePatternArgs) (hfit : requestFits (.writePattern a) = true) :
    ReadBack (.writePattern a) := by
  intro d hd hlen
  simp only [requestFits, List.all_eq_true, Bool.and_eq_true, decide_eq_true_eq, beq_iff_eq, and_assoc] at hfit
  obtain ⟨hfirst, hc, hcount, hentries⟩ := hfit
  obtain ⟨hfixed, hlist⟩ := stands_append.mp hd
  have hitems := itemsAt_of_stands (size := 7) (read := patEntryAt) hlist (fun _ _ => rfl) fun e he _ =>
    patEntryAt_of_stands (hentries e he).1 (hentries e he).2
  simp [oneByte_toNat, Nat.mod_eq_of_lt, hfirst, hc] at hfixed hitems
  simp [requestFields] at hlen
  simp [requiredLength, requestKind, decodeRequest, writePatternArgs, hfixed, ← hcount, hitems, hlen]
  omega

theorem readBack_writeKeys (a : WriteKeysArgs) (hfit : requestFits (.writeKeys a) = true) : ReadBack (.writeKeys a) := by
  intro d hd hlen
  simp only [requestFits, List.all_eq_true, Bool.and_eq_true, decide_eq_true_eq, beq_iff_eq, and_assoc] at hfit
  obtain ⟨hfirst, hc, hcount, hkeys⟩ := hfit
  obtain ⟨hfixed, hlist⟩ := stands_append.mp hd
  have hitems := itemsAt_of_stands (size := 9) (read := keyAt) hlist (fun _ _ => rfl) fun k hk _ =>
    have ⟨htime, hease, hvalue⟩ := hkeys k hk
    keyAt_of_stands ⟨htime, hease⟩ hvalue
  simp [oneByte_toNat, Nat.mod_eq_of_lt, hfirst, hc] at hfixed hitems
  simp [requestFields] at hlen
  simp [requiredLength, requestKind, decodeRequest, writeKeysArgs, hfixed, ← hcount, hitems, hlen]
  omega

theorem readBack_defineCue (a : DefineCueArgs) (hfit : requestFits (.defineCue a) = true) : ReadBack (.defineCue a) := by
  intro d hd hlen
  simp only [requestFits, List.all_cons, List.all_nil, List.all_eq_true, Bool.and_eq_true, decide_eq_true_eq, beq_iff_eq,
    and_assoc] at hfit
  obtain ⟨hla, hc, hlo, he, hs, -, hdu, hre, hcount, htracks⟩ := hfit
  obtain ⟨hfixed, hlist⟩ := stands_append.mp hd
  have hitems := itemsAt_of_stands (size := 4) (read := trackAt) hlist (fun _ _ => rfl) fun t ht _ =>
    trackAt_of_stands (htracks t ht)
  simp [oneByte_toNat, Nat.mod_eq_of_lt, hla, hc, hlo, he, hs, hdu, hre] at hfixed hitems
  simp [requestFields] at hlen
  simp [requiredLength, requestKind, decodeRequest, defineCueArgs, hfixed, ← hcount, hitems, hlen]
  omega

theorem readBack_streamFrame (a : StreamFrameArgs) (hfit : requestFits (.streamFrame a) = true) :
    ReadBack (.streamFrame a) := by
  intro d hd hlen
  simp only [requestFits, List.all_eq_true, Bool.and_eq_true, decide_eq_true_eq, beq_iff_eq, and_assoc] at hfit
  obtain ⟨hla, hc, hcount, hentries⟩ := hfit
  obtain ⟨hfixed, hlist⟩ := stands_append.mp hd
  have hitems := itemsAt_of_stands (size := 3) (read := codeRgbAt) hlist (fun _ _ => rfl) fun c hc _ =>
    codeRgbAt_of_stands (hentries c hc)
  have ht := Nat.mod_eq_of_lt a.show'.isLt
  simp [timeBytes, oneByte_toNat, Nat.mod_eq_of_lt, hla, hc, ht] at hfixed hitems
  simp [requestFields, timeBytes] at hlen
  simp [requiredLength, requestKind, decodeRequest, streamFrameArgs, hfixed, ← hcount, hitems, hlen]
  omega

/-! ## EDIT_LAYER -/

/-- The place of EDIT_LAYER's field `k`: behind the marked fields before it (R179, 11.7). -/
def editPlace (mask k : Nat) : Nat := 5 + if mask < 2 ^ 11 then editBefore mask k else 0

theorem editBefore_succ (mask k : Nat) :
    editBefore mask (k + 1) = editBefore mask k + if mask.testBit k then editSizes.getD k 0 else 0 := by
  simp [editBefore, List.range_succ]

/-- The bytes stand in the frame from the offset to its end. -/
def Ends (d : List Byte) (i : Nat) (bs : List Byte) : Prop := Stands d i bs ∧ d.length = i + bs.length

theorem ends_append {d : List Byte} {i : Nat} {as bs : List Byte} (h : Ends d i (as ++ bs)) :
    Stands d i as ∧ Ends d (i + as.length) bs := by
  obtain ⟨hstands, hlen⟩ := h
  obtain ⟨has, hbs⟩ := stands_append.mp hstands
  exact ⟨has, hbs, by rw [hlen, List.length_append, Nat.add_assoc]⟩

/-- A field that is there when the mask marks it, and not when it does not, is read back, and the next field stands behind
it. -/
theorem editField_of_ends {α : Type} {d : List Byte} {mask k : Nat} {x : Option α} {fits : α → Bool}
    {enc : α → List Byte} {read : List Byte → Nat → α} {rest : List Byte}
    (h : Ends d (editPlace mask k) (markedBytes enc x ++ rest)) (hfit : markFits mask k x fits = true)
    (hsize : ∀ a, (enc a).length = editSizes.getD k 0)
    (hread : ∀ a, fits a = true → ∀ j, Stands d j (enc a) → read d j = a) :
    editField d mask k read = x ∧ Ends d (editPlace mask (k + 1)) rest := by
  obtain ⟨hx, hrest⟩ := ends_append h
  simp only [markFits, Bool.and_eq_true, beq_iff_eq] at hfit
  obtain ⟨hmark, hall⟩ := hfit
  cases x with
  | none =>
    have hno : ¬(mask < 2 ^ 11 ∧ mask.testBit k = true) := by simpa using hmark.symm
    refine ⟨if_neg hno, ?_⟩
    have hplace : editPlace mask (k + 1) = editPlace mask k := by
      unfold editPlace
      split
      · next hm => rw [editBefore_succ, if_neg fun hk => hno ⟨hm, hk⟩, Nat.add_zero]
      · rfl
    rw [hplace]
    exact hrest
  | some a =>
    have hyes : mask < 2 ^ 11 ∧ mask.testBit k = true := by simpa using hmark.symm
    have hplace : editPlace mask k = 5 + editBefore mask k := by rw [editPlace, if_pos hyes.1]
    have hnext : editPlace mask (k + 1) = editPlace mask k + (enc a).length := by
      rw [hplace, editPlace, if_pos hyes.1, editBefore_succ, if_pos hyes.2, hsize, Nat.add_assoc]
    refine ⟨?_, hnext ▸ hrest⟩
    rw [editField, if_pos hyes, ← hplace, hread a hall _ hx]

section
variable {d : List Byte} {j : Nat}

theorem byteAt_of_stands {n : Nat} (hn : n < 256) (h : Stands d j [oneByte n]) : byteAt d j = n :=
  h.1.trans (oneByte_toNat_of_lt hn)

theorem refAt_of_stands {r : Nat × Nat} (hr : refFits r = true) (h : Stands d j (refBytes r)) : refAt d j = r := by
  simp only [refFits, Bool.and_eq_true, decide_eq_true_eq] at hr
  simp [refBytes, oneByte_toNat, Nat.mod_eq_of_lt, hr] at h
  simp [refAt, h]

theorem holesAt_of_stands {x : (Nat × Nat) × (Nat × Nat)}
    (hx : [x.1.1, x.1.2, x.2.1, x.2.2].all (· < 65536) = true)
    (h : Stands d j (leBytes 2 x.1.1 ++ (leBytes 2 x.1.2 ++ (leBytes 2 x.2.1 ++ leBytes 2 x.2.2)))) : holesAt d j = x := by
  simp only [List.all_cons, List.all_nil, Bool.and_eq_true, decide_eq_true_eq] at hx
  simp [Nat.mod_eq_of_lt, hx] at h
  simp [holesAt, h]

theorem length_sourceBytes (x : SourceArg) : (sourceBytes x).length = 7 := by
  cases x <;> rfl

theorem sourceAt_of_stands {x : SourceArg} (hx : sourceFits x = true) (h : Stands d j (sourceBytes x)) :
    sourceAt d j = x := by
  cases x with
  | solid c =>
    obtain ⟨hkind, hcolour⟩ := h
    rw [sourceAt, hkind]
    exact congrArg _ (rgbAt_of_stands hx hcolour)
  | pattern n =>
    obtain ⟨hkind, hslot, -⟩ := h
    rw [sourceAt, hkind]
    exact congrArg _ (hslot.trans (oneByte_toNat_of_lt (of_decide_eq_true hx)))
  | stream n =>
    obtain ⟨hkind, hage⟩ := h
    have hn : n < 256 ^ 2 := of_decide_eq_true hx
    rw [sourceAt, hkind]
    exact congrArg _ (leAt_of_stands hn (stands_append.mp hage).1)
  | unknown k =>
    simp only [sourceFits, Bool.and_eq_true, decide_eq_true_eq] at hx
    obtain ⟨hlow, hhigh⟩ := hx
    obtain ⟨m, rfl⟩ : ∃ m, k = m + 3 := ⟨k - 3, by omega⟩
    rw [sourceAt, h.1, oneByte_toNat_of_lt hhigh]
    rfl

end

theorem readBack_editLayer (a : EditLayerArgs) (hfit : requestFits (.editLayer a) = true) : ReadBack (.editLayer a) := by
  intro d hd hlen
  simp only [requestFits, Bool.and_eq_true, decide_eq_true_eq, and_assoc] at hfit
  obtain ⟨hlayer, hmask, hzones, hspan, hholes, hblend, hopacity, hqual, hsource, hlevel, hoffset, hfadeIn,
    hfadeOut⟩ := hfit
  have hends : Ends d 2 (requestFields (.editLayer a)) := ⟨hd, hlen⟩
  simp only [requestFields, editBytes, List.append_assoc] at hends
  obtain ⟨hl, hends⟩ := ends_append hends
  obtain ⟨hm, hends⟩ := ends_append hends
  have hplace : editPlace a.mask 0 = 5 := by
    unfold editPlace
    split <;> rfl
  rw [show 2 + [oneByte a.layer].length + (leBytes 2 a.mask).length = editPlace a.mask 0 from hplace.symm] at hends
  have hword : ∀ n, decide (n < 65536) = true → ∀ j, Stands d j (leBytes 2 n) → leAt d j 2 = n :=
    fun n hn j => leAt_of_stands (of_decide_eq_true hn)
  have hbyte : ∀ n, decide (n < 256) = true → ∀ j, Stands d j [oneByte n] → byteAt d j = n :=
    fun n hn j => byteAt_of_stands (of_decide_eq_true hn)
  obtain ⟨rzones, hends⟩ := editField_of_ends (read := fun d i => leAt d i 4) hends hzones (fun _ => rfl)
    fun n hn j => leAt_of_stands (of_decide_eq_true hn)
  obtain ⟨rspan, hends⟩ := editField_of_ends hends hspan (fun _ => rfl) hbyte
  obtain ⟨rholes, hends⟩ := editField_of_ends hends hholes (fun _ => rfl) fun x hx j => holesAt_of_stands hx
  obtain ⟨rblend, hends⟩ := editField_of_ends hends hblend (fun _ => rfl) hbyte
  obtain ⟨ropacity, hends⟩ := editField_of_ends hends hopacity (fun _ => rfl) hbyte
  obtain ⟨rqual, hends⟩ := editField_of_ends hends hqual (fun _ => rfl) fun x hx j => refAt_of_stands hx
  obtain ⟨rsource, hends⟩ := editField_of_ends hends hsource length_sourceBytes fun x hx j => sourceAt_of_stands hx
  obtain ⟨rlevel, hends⟩ := editField_of_ends (read := fun d i => leAt d i 2) hends hlevel (fun _ => rfl) hword
  obtain ⟨roffset, hends⟩ := editField_of_ends (read := fun d i => leAt d i 2) hends hoffset (fun _ => rfl) hword
  obtain ⟨rfadeIn, hends⟩ := editField_of_ends (read := fun d i => leAt d i 2) hends hfadeIn (fun _ => rfl) hword
  rw [← List.append_nil (markedBytes _ a.fadeOut)] at hends
  obtain ⟨rfadeOut, hends⟩ := editField_of_ends (read := fun d i => leAt d i 2) hends hfadeOut (fun _ => rfl) hword
  have hmaskAt : leAt d 3 2 = a.mask := leAt_of_stands hmask hm
  have hlayerAt : byteAt d 2 = a.layer := byteAt_of_stands hlayer hl
  refine ⟨?_, ?_⟩
  · rw [hends.2, requestKind, requiredLength, hmaskAt, editPlace]
    split <;> rfl
  · rw [requestKind, decodeRequest, editLayerArgs]
    simp only [hmaskAt, hlayerAt, rzones, rspan, rholes, rblend, ropacity, rqual, rsource, rlevel, roffset, rfadeIn, rfadeOut]

/-! ## Every frame -/

theorem readBack_of_fits (r : Request) (hfit : requestFits r = true) : ReadBack r := by
  intro d hd hlen
  cases r with
  | setOrigin a => exact readBack_setOrigin a hfit d hd hlen
  | setZone a => exact readBack_setZone a hfit d hd hlen
  | writePattern a => exact readBack_writePattern a hfit d hd hlen
  | writeKeys a => exact readBack_writeKeys a hfit d hd hlen
  | defineCue a => exact readBack_defineCue a hfit d hd hlen
  | editLayer a => exact readBack_editLayer a hfit d hd hlen
  | startCue a => exact readBack_startCue a hfit d hd hlen
  | streamFrame a => exact readBack_streamFrame a hfit d hd hlen
  | timeQuery | readStatus | gateOpen | enterRun | enterSetup | sleep | restart => exact ⟨hlen.symm, rfl⟩
  | clearZone n | setFrame n | deletePattern n | deleteCue n | unbind n | readCapture n | openLayer n | showLayer n
  | hideLayer n | closeLayer n | stopCue n | releaseZone n | trigger n | forget n =>
    have hn : byteAt d 2 = n := hd.1.trans (oneByte_toNat_of_lt (of_decide_eq_true hfit))
    exact ⟨hlen.symm, by rw [requestKind, decodeRequest, hn]⟩
  | subscribe n | gateClose n =>
    have hn : leAt d 2 2 = n := leAt_of_stands (of_decide_eq_true hfit) hd
    exact ⟨hlen.symm, by rw [requestKind, decodeRequest, hn]⟩
  | setFlags a =>
    obtain ⟨hmask, hvalues⟩ := stands_append.mp hd
    rw [length_leBytes] at hvalues
    refine ⟨hlen.symm, ?_⟩
    rw [requestKind, decodeRequest, setFlagsArgs, leAt_of_stands a.mask.isLt hmask,
      leAt_of_stands a.values.isLt hvalues, BitVec.ofNat_toNat, BitVec.ofNat_toNat]
    rfl
  | setBin a | setLampBin a | setChain a | setLine a | setFlagOwner a | setGlare a | setWatch a | definePattern a | bind a
  | setClock a | trimClock a | holdZone a | clearHealth a =>
    simp only [requestFits, rgbFits, refFits, List.all_cons, List.all_nil, Bool.and_eq_true, decide_eq_true_eq, and_assoc,
      Nat.reducePow] at hfit
    simp [requestFields, rgbBytes, refBytes, oneByte_toNat, Nat.mod_eq_of_lt, hfit] at hd hlen
    simp [requiredLength, requestKind, decodeRequest, hlen, hd, setBinArgs, setLampBinArgs, setChainArgs, setLineArgs,
      setFlagOwnerArgs, setGlareArgs, setWatchArgs, definePatternArgs, bindArgs, setClockArgs, trimClockArgs, holdZoneArgs,
      lampRangeArgs, rgbAt, refAt]

/-- Settles O5: a kind byte by the table, a frame by `readBack_of_fits`. -/
theorem requestFramesAreReadBack : Obligations.RequestFramesAreReadBack := by
  refine ⟨fun _ _ => kindOf?_eq_some, fun tag r hfit => ⟨?_, rfl, ?_⟩⟩
  · have hcode : byteAt (requestBytes tag r) 0 = kindCode (requestKind r) := oneByte_toNat_of_lt (kindCode_lt _)
    rw [hcode, kindOf?_kindCode]
  · refine readBack_of_fits r hfit _ (stands_self [_, tag] _) ?_
    rw [requestBytes, List.length_cons, List.length_cons]
    omega

end Sys2Proof.Machine

/-! PROOF. Requests outside their part state or right are refused or discarded (R38, R49, R126, R188). -/

namespace Sys2Proof.Machine

/-! ## The check each request begins with (R188) -/

section
variable {s : State} {o : Origin} {k : Kind} {rq : Intake}

/-- A configuration request begins with the checks of its origin and of SETUP. -/
theorem exec_configKind (h : Takes s o k rq) (hk : k ∈ configKinds) :
    ∃ rest, exec (requestCommand o (some k)) s =
      .next (answer ⟨o, rq⟩ (s.popIntake o) (configChecks ⟨o, rq⟩ (s.popIntake o) >>= rest)) := by
  cases k with
  | setOrigin => exact ⟨_, exec_setOrigin h⟩
  | setZone => exact ⟨_, exec_setZone h⟩
  | clearZone => exact ⟨_, exec_clearZone h⟩
  | setBin => exact ⟨_, exec_setBin h⟩
  | setLampBin => exact ⟨_, exec_setLampBin h⟩
  | setChain => exact ⟨_, exec_setChain h⟩
  | setLine => exact ⟨_, exec_setLine h⟩
  | setFlagOwner => exact ⟨_, exec_setFlagOwner h⟩
  | setGlare => exact ⟨_, exec_setGlare h⟩
  | setFrame => exact ⟨_, exec_setFrame h⟩
  | setWatch => exact ⟨_, exec_setWatch h⟩
  | _ => exact absurd hk (by decide)

theorem ownLayer_bind {α : Type} (tk : Taken) (layer : Nat) (u : State) (f : LayerNo → Except Code α) :
    (ownLayer tk layer u >>= f) = require u.inSetup .wrongState >>= fun _ =>
      (found (fin? 16 layer) .badValue >>= fun i =>
        require (!ownedBy tk.origin u.lt.layers[i]) .notOwner >>= fun _ => pure i) >>= f := bind_assoc ..

/-- A layer, cue-run, hold or event request begins with the check that the part is not in SETUP. -/
theorem exec_runKind (h : Takes s o k rq) (hk : k ∈ runKinds) :
    ∃ rest, exec (requestCommand o (some k)) s =
      .next (answer ⟨o, rq⟩ (s.popIntake o) (require (s.popIntake o).inSetup .wrongState >>= rest)) := by
  cases k with
  | openLayer => exact ⟨_, exec_openLayer h⟩
  | editLayer => exact ⟨_, exec_editLayer h⟩
  | gateClose => exact ⟨_, exec_gateClose h⟩
  | gateOpen => exact ⟨_, exec_gateOpen h⟩
  | startCue => exact ⟨_, exec_startCue h⟩
  | stopCue => exact ⟨_, exec_stopCue h⟩
  | holdZone => exact ⟨_, exec_holdZone h⟩
  | releaseZone => exact ⟨_, exec_releaseZone h⟩
  | trigger => exact ⟨_, exec_trigger h⟩
  -- these three make it in `ownLayer`, the check of their layer
  | showLayer =>
    rw [requestCommand, exec_showLayer h, serveShowLayer, ownLayer_bind]
    exact ⟨_, rfl⟩
  | hideLayer =>
    rw [requestCommand, exec_hideLayer h, serveHideLayer, ownLayer_bind]
    exact ⟨_, rfl⟩
  | closeLayer =>
    rw [requestCommand, exec_closeLayer h, serveCloseLayer, ownLayer_bind]
    exact ⟨_, rfl⟩
  | _ => exact absurd hk (by decide)

/-! ## Refused or discarded in SETUP (R49, R126, R188) -/

theorem exec_runKind_wrongState (h : Takes s o k rq) (hk : k ∈ runKinds) (hs : s.ps.state = .setup) :
    exec (requestCommand o (some k)) s = .next (turnedAway s o rq .wrongState) := by
  obtain ⟨rest, hexec⟩ := exec_runKind h hk
  rw [hexec, popIntake_in_setup hs, require_true_bind, answer_error, refuse_popIntake]

theorem setFlagsArgs_mask_ne_zero {d : List Byte} (hmask : leAt d 2 4 % 2 ^ 32 ≠ 0) :
    (setFlagsArgs d).mask ≠ 0 := fun hzero =>
  hmask ((BitVec.toNat_ofNat ..).symm.trans (congrArg BitVec.toNat hzero))

theorem exec_setFlags_wrongState (h : Takes s o .setFlags rq) (hs : s.ps.state = .setup)
    (hmask : leAt rq.data 2 4 % 2 ^ 32 ≠ 0) : exec (.setFlags o) s = .next (turnedAway s o rq .wrongState) := by
  have hmarked : ((setFlagsArgs rq.data).mask != 0) = true := bne_iff_ne.mpr (setFlagsArgs_mask_ne_zero hmask)
  rw [exec_setFlags h, serveSetFlags, popIntake_in_setup hs, hmarked, Bool.and_true, require_true_bind, answer_error,
    refuse_popIntake]

/-- No layer's queue takes a frame in SETUP (R49). -/
theorem streamQueueFor_in_setup {u : State} (hs : u.inSetup = true) (tk : Taken) (a : StreamFrameArgs) :
    u.streamQueueFor tk a = none := by
  unfold State.streamQueueFor
  split
  · rfl
  · split
    · rfl
    · rw [hs]
      rfl

end

/-- Settles O28: the first check of each request refuses it, and a stream frame finds no queue. -/
theorem requestsKeepToTheirPartState : Obligations.RequestsKeepToTheirPartState := by
  refine fun k o s rq h => ⟨fun hk => ?_, fun hs => ⟨fun hk => exec_runKind_wrongState h hk hs, ?_, ?_⟩⟩
  · obtain ⟨rest, hexec⟩ := exec_configKind h hk
    rw [hexec]
    exact ⟨fun ho => congrArg _ (answer_noRight ho rest), fun ho hs => congrArg _ (answer_wrongState ho hs rest)⟩
  · rintro rfl hmask
    exact exec_setFlags_wrongState h hs hmask
  · rintro rfl
    exact exec_streamFrame_discarded h (streamQueueFor_in_setup (popIntake_in_setup hs) _ _)

end Sys2Proof.Machine

/-! PROOF. The part while its RESET pin is asserted: what each command answers (R193). -/

namespace Sys2Proof.Machine

section
variable {s : State} (hr : s.ps.resetHeld = true)
include hr

theorem liveWhen_held (c : Bool) (n : State) : s.liveWhen c n = .next s := live_held _ hr

theorem atLastFrame_held (c : CueNo) (cond : Time → Cue → Bool) (next : Cue → State) :
    atLastFrame s c cond next = .next s := by
  unfold atLastFrame
  split
  · exact liveWhen_held hr ..
  · rfl

theorem takeRequest_held (k : Option Kind) (o : Origin) (serve : Taken → State → State) :
    takeRequest k o s serve = .next s := by
  unfold takeRequest
  split
  · rfl
  · exact liveWhen_held hr ..

/-- A command that is neither power-on, the pin's release nor a level on a line's pin is without effect. -/
theorem exec_held (c : Instr) (hpower : ∀ strap raw, c ≠ .powerOn strap raw)
    (hrelease : ∀ strap, c ≠ .resetPinRelease strap) (hraw : ∀ t level, c ≠ .lineRawChange t level) :
    exec c s = .next s := by
  cases c with
  | powerOn strap raw => exact absurd rfl (hpower strap raw)
  | resetPinRelease strap => exact absurd rfl (hrelease strap)
  | lineRawChange t level => exact absurd rfl (hraw t level)
  -- requests
  | requestUnknownKind _ | setOrigin _ | setZone _ | clearZone _ | setBin _ | setLampBin _ | setChain _ | setLine _
  | setFlagOwner _ | setGlare _ | setFrame _ | setWatch _ | writePattern _ | definePattern _ | deletePattern _
  | writeKeys _ | defineCue _ | deleteCue _ | bind _ | unbind _ | timeQuery _ | setClock _ | trimClock _
  | readStatus _ | subscribe _ | readCapture _ | openLayer _ | editLayer _ | showLayer _ | hideLayer _ | closeLayer _
  | gateClose _ | gateOpen _ | startCue _ | stopCue _ | streamFrame _ | holdZone _ | releaseZone _ | setFlags _
  | trigger _ | clearHealth _ | forget _ | enterRun _ | enterSetup _ | sleep _ | restart _ =>
    dsimp only [exec]
    exact takeRequest_held hr ..
  -- events that always have an effect, or have one under a condition
  | resetPinAssert => exact live_held _ hr
  | trimCorrection | holdoffEnd _ | gateExpiry _ | settle | wakeCompletion | channelError _ _ | channelRecovery _ =>
    exact liveWhen_held hr ..
  | cueNaturalEnd _ | cueReleaseEnd _ => exact atLastFrame_held hr ..
  -- events that first look for what they speak of
  | frameReceived _ _ _ _ =>
    simp only [exec, execFrameReceived]
    split
    · exact liveWhen_held hr ..
    · rfl
  | composeComplete | loopReturnReceived _ _ =>
    simp only [exec, execComposeComplete, execLoopReturnReceived]
    split
    · rfl
    · exact live_held _ hr
  | frameStart | streamStale _ | quietThreshold _ | loopReturnTimeout _ | loopFailed _ _ | lineChangeAccepted _
  | frameTransmitStart _ | frameTransmitted _ | loopBurstEnd _ =>
    simp only [exec, execFrameStart, execStreamStale, execQuietThreshold, execLoopReturnTimeout, execLoopFailed,
      execLineChangeAccepted, execFrameTransmitStart, execFrameTransmitted, execLoopBurstEnd]
    split
    · rfl
    · exact liveWhen_held hr ..

/-- The level on a line's pin moves the raw level; a level it has already is no change. -/
theorem exec_lineRawChange_held (t : LineNo) (level : Bool) :
    exec (.lineRawChange t level) s = .next (s.setLineRec t { s.tu.lines[t] with raw := level }) := by
  simp only [exec, execLineRawChange, if_pos hr]
  split
  · next hsame =>
    rw [← hsame, State.setLineRec, setAt_self]
  · rfl

end

/-- Settles O4, command by command; the level on a line's pin alone has an effect of its own. -/
theorem assertedResetActsOnNothing : Obligations.AssertedResetActsOnNothing :=
  fun _ hr => ⟨exec_held hr, exec_lineRawChange_held hr⟩

end Sys2Proof.Machine
